-- ==== Sys2Proof/Word.lean ====
section
/-! DEFINITION. The words of the part: bytes on its lines, readings of its 32-bit counts, detector codes, and the one way
the model builds a fixed-length vector from a function. -/

namespace Sys2Proof

/-- One byte of a frame, of the configuration store or of a directive (R1, R198). -/
abbrev Byte := BitVec 8

/-- A reading of the millisecond clock, a 32-bit count since the last start that wraps (R180). -/
abbrev Ms := BitVec 32

/-- A reading of the 32-bit epoch count (R181), also the stamp of a fault (R116). -/
abbrev EpochCount := BitVec 32

/-- A detector code, 0 to 1023 (R41). -/
abbrev DetectorCode := BitVec 10

/-- The vector whose entry `i` is `f i`, built so that the kernel evaluates it. -/
def tab {α : Type} (n : Nat) (f : Fin n → α) : Vector α n :=
  ⟨(List.ofFn f).toArray, by simp⟩

end Sys2Proof
end

