-- ==== Sys2Proof/Syntax.lean ====
section
/-! DEFINITION. The commands of the block: one constructor for each row of spec/opcode_table.json, in the table's order. The
table gives no row any operand field; an operand here is what the world outside the part brings with the event, and nothing the
part itself knows (assumption 1). -/

namespace Sys2Proof

/-- The steps of the part, each whole and indivisible (spec/95_what_each_step_holds.md). -/
inductive Instr where
  /-- POWER_ON (R179). `cycleApplied`: had the store applied the write cycle, if any, that the loss of power cut (R196). -/
  | powerOn (cycleApplied : Bool)
  /-- PIN_RESET (R196). `cycleApplied` as for power-on. -/
  | pinReset (cycleApplied : Bool)
  /-- PIN_RESET_STORE_WAIT_END (R196). -/
  | pinResetStoreWaitEnd
  /-- RECEIVED_FRAME (R11): `wait` ms after the command before it, the end of a frame is recognised; `bytes` are its whole
  bytes, and `wholeBytes` is false when a run of bits was left over that fills no byte. -/
  | receivedFrame (wait : Ms) (wholeBytes : Bool) (bytes : List Byte)
  /-- LINE_ACTIVITY (R7): some station begins to drive the trunk. -/
  | lineActivity
  /-- GAP_COMPLETE (R6): the trunk has been idle for 16 us. -/
  | gapComplete
  /-- BACKOFF_SLOT_COMPLETE (R7): one whole idle slot of 32 us has gone by. -/
  | backoffSlotComplete
  /-- COLLISION (R9): a bit read back differs from the bit driven. -/
  | collision
  /-- CLEAN_FRAME (R8): the last bit of the frame reads back unchanged. -/
  | cleanFrame
  /-- BEACON_JITTER_END (R143). -/
  | beaconJitterEnd
  /-- EPOCH_EXPIRY (R181), in RUN. -/
  | epochExpiry
  /-- CONFIG_FAULT_EPOCH_EXPIRY (R181), in CONFIG_FAULT. -/
  | configFaultEpochExpiry
  /-- LISTEN_TIMER_EXPIRY (R189). -/
  | listenTimerExpiry
  /-- CONVERSION_COMPLETE (R44): the conversion in flight ends with `code`. -/
  | conversionComplete (code : DetectorCode)
  /-- RAMP_TICK (R94). -/
  | rampTick
  /-- WRITE_COMPLETE (R102): the SPI write in flight ends. -/
  | writeComplete
  /-- SILENCE_SUSPECT_LIMIT (R28) for the entry at `position`. -/
  | silenceSuspectLimit (position : Fin 16)
  /-- SILENCE_LOST_LIMIT (R29) for the entry at `position`. -/
  | silenceLostLimit (position : Fin 16)
  /-- START_UP_LIMIT (R30). -/
  | startUpLimit
  /-- ID_CLASH_CLEAR (R34). -/
  | idClashClear
  /-- TRUNK_NOISE_CLEAR (R15). -/
  | trunkNoiseClear
  /-- RE_CREDIT (R154). -/
  | reCredit
  /-- VSWR_TRIP_RELEASE (R54). -/
  | vswrTripRelease
  /-- CONFIG_READ_END (R185): the configuration read succeeds; `image` is what the installer has the store hold. -/
  | configReadEnd (image : Vector Byte 97)
  /-- CRASH_READ_END (R191): the crash read succeeds. -/
  | crashReadEnd
  /-- I2C_TRANSFER_FAIL (R183): a try of a transfer is not acknowledged. `later` is true when an earlier transfer of the same
  operation has succeeded since the last event, so that this try is the first of another transfer. -/
  | i2cTransferFail (later : Bool)
  /-- WRITE_CYCLE_END (R183): a write transfer was acknowledged and the store's 5 ms write cycle has ended. -/
  | writeCycleEnd
  /-- FAULT_ACK (R166), delivered from `source` to `destination`; `rest` is the payload after the kind byte: the tag, then the
  arguments. -/
  | faultAck (source destination : Byte) (rest : List Byte)
  /-- CARRIER_MASK (R167). -/
  | carrierMask (source destination : Byte) (rest : List Byte)
  /-- SPREAD_MODE (R168). -/
  | spreadMode (source destination : Byte) (rest : List Byte)
  /-- QUIET (R169). -/
  | quiet (source destination : Byte) (rest : List Byte)
  /-- SPEAK (R169). -/
  | speak (source destination : Byte) (rest : List Byte)
  /-- RESTART (R170). -/
  | restart (source destination : Byte) (rest : List Byte)
  /-- STATUS_QUERY (R172). -/
  | statusQuery (source destination : Byte) (rest : List Byte)
  /-- SNAPSHOT_QUERY (R173). -/
  | snapshotQuery (source destination : Byte) (rest : List Byte)
  /-- TABLE_READ (R175), delivered `wait` ms after the command before it (its answer tells ages, R177). -/
  | tableRead (wait : Ms) (source destination : Byte) (rest : List Byte)
  /-- UNKNOWN_DIRECTIVE (R162): a directive whose kind byte names none of the nine, or an empty payload. -/
  | unknownDirective (source destination : Byte) (payload : List Byte)
  /-- RECEIVER_FIRST_IDLE (R2): the trunk shows 4 us of idle to a receiver that was switched on while the line was busy. -/
  | receiverFirstIdle
  deriving DecidableEq, Repr

end Sys2Proof
end

