-- ==== Sys2Proof/Decode.lean ====
section
/-! DEFINITION. The command a word spells by the bits of spec/opcode_table.json. Every row of the table has an empty list of
fields, no pattern and no fixed bits, so no word spells a command (assumption 2). -/

namespace Sys2Proof

/-- The command that `nbits` bits `w` spell by the table's bits: none, since the table gives no row any bits. -/
def decodeTableWord (_nbits _w : Nat) : Option Instr := none

end Sys2Proof
end

