-- ==== Sys2Proof/Config.lean ====
section
/-! DEFINITION. What the manual leaves open: free values with no body, so that no proof can rest on one of them. -/

namespace Sys2Proof.Config

/-- The part's random source (introduction, section 4.8): draw number `n` of the run, before it is brought into its range. The
manual states each range and no generator, so nothing in Lean can evaluate a draw. FREE VALUE (assumption 5). -/
opaque freeDraw : Nat → Nat

/-- What R49's `active * 1000 div samples` gives for a slot (first argument) in an epoch (second argument) when no sample was
taken in the window: the manual states no result for a division by 0. FREE VALUE (assumption 6). -/
opaque freeOccupancy : Nat → Nat → Nat

end Sys2Proof.Config
end

