-- ==== Sys2Proof/Machine/State.lean ====
section
/-! DEFINITION. The state of the block, as plain data: one structure for each of the ten blocks of the manual (introduction,
section 2), the bytes of the configuration store, the queue of waiting commands, and the machine right after power-on. -/

namespace Sys2Proof.Machine

/-! ### Named values -/

/-- The node state held by the store controller (R179). -/
inductive NodeState where
  | load | listen | run | configFault
  deriving DecidableEq, Repr

/-- How the part last started (R180). -/
inductive StartCause where
  | powerOn | restart
  deriving DecidableEq, Repr

/-- The four severities, in rising order (introduction, section 4.9). -/
inductive Severity where
  | note | minor | major | critical
  deriving DecidableEq, Repr

/-- The sixteen fault codes, 0x01 to 0x10 in order (R117). -/
inductive FaultCode where
  | tempWarn | tempHigh | tempLimit | vswrWarn | vswrTrip | detStuck | floorShed | peerLost
  | supvLost | trunkBusy | trunkNoise | idClash | cfgBad | cfgClamped | priorTrip | storeFail
  deriving DecidableEq, Repr

/-- The spread modes, 0 to 3 in order (R65). -/
inductive SpreadMode where
  | off | gentle | normal | surge
  deriving DecidableEq, Repr

/-! ### Trunk port (chapter 1) -/

/-- What the port has seen of the line (R2): driven by some station, idle for less than a gap, or idle for a gap (16 us) or more. -/
inductive LineView where
  | busy | idle | gapSeen
  deriving DecidableEq, Repr

/-- Which queued frame is on the line (R4). -/
inductive FrameOnLine where
  | beacon | answer
  deriving DecidableEq, Repr

/-- What a collision does to the beacon in transmission: it is kept for another attempt (R9), or it was superseded (R17), or it
was withdrawn by QUIET (R19). -/
inductive Doom where
  | kept | superseded | withdrawn
  deriving DecidableEq, Repr

/-- The attempt on the line: the frame, its bytes with header and CRC, and what a collision does to it. -/
structure Attempt where
  frame : FrameOnLine
  bytes : List Byte
  doom : Doom
  deriving DecidableEq, Repr

/-- The five states of the transmit side (R6). `gap` carries the backoff count frozen by R7, if one was drawn in this contention;
`countdown` carries the backoff count b. -/
inductive TxState where
  | silent
  | idle
  | gap (frozen : Option Nat)
  | countdown (b : Nat)
  | sending (attempt : Attempt)
  deriving DecidableEq, Repr

/-- An answer in the FIFO: its bytes, fixed when it was queued, and its attempt number (R4). -/
structure QueuedAnswer where
  bytes : List Byte
  attempt : Nat
  deriving DecidableEq, Repr

/-- How an own attempt ended, for the reception that overlaps it (R11). -/
inductive AttemptEnd where
  | clean | collided
  deriving DecidableEq, Repr

/-- The trunk port. -/
structure Port where
  /-- The receiver is on (R3). -/
  receiver : Bool
  /-- The receiver takes the next activity as the start of a frame (R2). -/
  footing : Bool
  /-- The port's view of the line (R2). -/
  line : LineView
  /-- The own attempt that the reception under way overlaps, if any (R11). -/
  overlap : Option AttemptEnd
  /-- The transmit state (R6). -/
  tx : TxState
  /-- The beacon slot: the attempt number of the beacon in it (R4). -/
  beacon : Option Nat
  /-- A beacon whose jitter has ended and that waits for the end of the attempt of the beacon before it (R17). -/
  beaconWaiting : Bool
  /-- The answer FIFO, oldest first, at most three (R4, R16). -/
  answers : List QueuedAnswer
  /-- The consecutive beacon failure count, saturating at 255 (R18). -/
  failures : Nat
  /-- TRUNK_BUSY stands (R18). -/
  busyStanding : Bool
  /-- The bad-frame count of the window, saturating at 255 (R14). -/
  badFrames : Nat
  /-- The run of clean windows (R15). -/
  cleanRun : Nat
  /-- TRUNK_NOISE stands (R14). -/
  noiseStanding : Bool
  /-- The quiet flag (R19). -/
  quiet : Bool
  deriving DecidableEq, Repr

/-! ### Neighbour view (chapter 2) -/

/-- The entry states (R24). -/
inductive Presence where
  | absent | live | suspect | lost
  deriving DecidableEq, Repr

/-- One operator record of an entry (R22). -/
structure OperatorSeen where
  operator : Nat
  load : Nat
  constrained : Bool
  deriving DecidableEq, Repr

/-- The fields that a beacon supplies (R22, R23); `level` is none for the level NONE. -/
structure Heard where
  cls : Nat
  period : Nat
  lastHeard : Ms
  level : Option Severity
  operators : List OperatorSeen
  deriving DecidableEq, Repr

/-- An entry of the neighbour table (R22). Its pinned kind is told by its position (R21). -/
structure Neighbour where
  id : Nat
  state : Presence
  heard : Option Heard
  deriving DecidableEq, Repr

/-- A pair of table-read cursors (R38). -/
structure Cursors where
  neighbour : Fin 16
  fault : Fin 24
  deriving DecidableEq, Repr

/-- The neighbour view. -/
structure View where
  /-- The sixteen positions (R21). -/
  table : Vector (Option Neighbour) 16
  /-- The cursors of the supervisor at position 8, of the one at position 9, and the shared pair (R38). -/
  cursors8 : Cursors
  cursors9 : Cursors
  cursorsShared : Cursors
  /-- The LISTEN-entry moment (R30). -/
  listenEntry : Option Ms
  /-- The ID_CLASH standing mark, with the own id it was raised for (R33). -/
  clash : Option Nat
  /-- Own epoch expiries since the last clashing beacon (R34). -/
  clashCount : Nat
  deriving DecidableEq, Repr

/-! ### Measurement scanner (chapter 3) -/

/-- The sample and active counts of a slot's occupancy window (R48). -/
structure Window where
  samples : Nat
  active : Nat
  deriving DecidableEq, Repr

/-- The stuck watch of a channel: both runs and the DET_STUCK mark (R46). -/
structure StuckWatch where
  railRun : Nat
  inRangeRun : Nat
  standing : Bool
  deriving DecidableEq, Repr

/-- The measurement scanner. -/
structure Scanner where
  /-- The scan list: channel numbers 0 to 10 (R43); empty when none is built. -/
  scanList : List (Fin 11)
  /-- The scan list entry whose conversion is in flight (R44). -/
  conversion : Option Nat
  /-- The occupancy window of each slot (R48). -/
  windows : Vector Window 8
  /-- The FWD result that waits for its RFL partner (R50). -/
  forward : Option Nat
  /-- The bad-pair and good-pair counts, saturating at 255 (R51). -/
  badPairs : Nat
  goodPairs : Nat
  /-- The stuck watch of each channel (R46). -/
  stuck : Vector StuckWatch 11
  /-- The standing marks of VSWR_WARN, VSWR_TRIP and the three temperature conditions (R52, R53, R56). -/
  vswrWarn : Bool
  vswrTrip : Bool
  tempWarn : Bool
  tempHigh : Bool
  tempLimit : Bool
  /-- The last temperature in quarter degrees, the code less 160 (R55). -/
  lastTemp : Option Int
  /-- A FAULT-ACK notice to a standing VSWR_TRIP that the scanner has not acted on yet (R54, R137). -/
  releaseNotice : Bool
  deriving DecidableEq, Repr

/-! ### Spreading controller (chapter 4) -/

/-- An operator record (R58). -/
structure OperatorRecord where
  operator : Nat
  load : Nat
  offset : Int
  constrained : Bool
  deriving DecidableEq, Repr

/-- What the controller holds in RUN (R58, R66, R71). -/
structure SpreadRun where
  /-- The smoothed load of each slot; the entry of a slot that is not present is not used. -/
  loads : Vector Nat 8
  /-- The operator records, in ascending operator id. -/
  operators : List OperatorRecord
  current : SpreadMode
  pendingMode : SpreadMode
  smaxEff : Int
  deriving DecidableEq, Repr

/-- The spreading controller: its records, none outside RUN (R77), and the LOST count last handed (R36). -/
structure Spread where
  records : Option SpreadRun
  lostCount : Nat
  deriving DecidableEq, Repr

/-! ### Allocation unit (chapter 5) -/

/-- The state of a carrier slot; only an ACTIVE slot has a target and an applied code (R80). -/
inductive SlotState where
  | idle | down | muted | shed
  | active (target applied : Nat)
  deriving DecidableEq, Repr

/-- The allocation unit. The configured part of the slots and B are read from the image in RUN (R80). -/
structure Alloc where
  slots : Vector SlotState 8
  mute : Vector Bool 8
  /-- B_eff, held only in RUN (R85). -/
  beff : Option Nat
  /-- The offset held for each operator named in an offset set (R90). -/
  offsets : List (Nat × Int)
  /-- The derating level and the DOWN condition last handed by the fault supervisor (R85, R86). -/
  derating : Nat
  down : Bool
  /-- The moment of the last ramp tick, or of RUN entry; none when the timer is stopped (R94). -/
  ramp : Option Ms
  /-- The constrained flag of each operator (R96). -/
  flags : List (Nat × Bool)
  /-- The FLOOR_SHED standing marks (R89). -/
  shedMarks : Vector Bool 8
  /-- A hand-over has asked for a recompute that has not been taken yet (R83). -/
  recomputeDue : Bool
  deriving DecidableEq, Repr

/-! ### Front-end writer (chapter 6) -/

/-- A drive value (R101). -/
inductive Drive where
  | mute
  | code (c : Nat)
  deriving DecidableEq, Repr

/-- A value in the dirty set; `forced` marks a mute of LOAD entry, always a decrease (R110). -/
structure PendingDrive where
  value : Drive
  forced : Bool
  deriving DecidableEq, Repr

/-- The write in flight, and whether it was a decrease for its slot when it started (R102, R109). -/
structure WriteInFlight where
  slot : Fin 8
  value : Drive
  decrease : Bool
  deriving DecidableEq, Repr

/-- The front-end writer. -/
structure Writer where
  /-- The held value of each slot, none when unknown (R102). -/
  held : Vector (Option Drive) 8
  /-- The dirty set (R104). -/
  dirty : Vector (Option PendingDrive) 8
  inFlight : Option WriteInFlight
  /-- The latest indicator: some slot is ACTIVE (R104). -/
  indicator : Bool
  /-- The PA enable line is asserted (R107). -/
  paEnable : Bool
  /-- The drive word the transceiver took last for each slot (R113, R203). -/
  transceiver : Vector (Option (BitVec 16)) 8
  deriving DecidableEq, Repr

/-! ### Fault supervisor (chapter 7) -/

/-- The states of a fault table entry (R115). -/
inductive EntryState where
  | activeUnacked | activeAcked | clearedUnacked
  deriving DecidableEq, Repr

/-- A fault table entry (R115). Its severity is fixed by its code (R117). -/
structure FaultEntry where
  code : FaultCode
  subject : Nat
  state : EntryState
  firstEpoch : EpochCount
  lastEpoch : EpochCount
  count : Nat
  credit : Nat
  deriving DecidableEq, Repr

/-- A snapshot (R132). -/
structure Snapshot where
  code : FaultCode
  subject : Nat
  epoch : EpochCount
  node : NodeState
  beff : Option Nat
  slots : Vector SlotState 8
  /-- Operator id, load and offset of each operator record. -/
  operators : List (Nat × Nat × Int)
  liveAdjacent : Nat
  lostAdjacent : Nat
  lastTemp : Option Int
  deriving DecidableEq, Repr

/-- The fault supervisor. -/
structure Supervisor where
  /-- The twenty-four positions (R114). -/
  table : Vector (Option FaultEntry) 24
  /-- The ALARM line is asserted (R130). -/
  alarm : Bool
  overflow : Bool
  snapshot : Option Snapshot
  /-- The faults-since-snapshot count, saturating at 255 (R133). -/
  sinceSnapshot : Nat
  /-- The report re-credit count, 0 to 63 (R154). -/
  reCreditCount : Nat
  /-- A re-credit is due and has not been taken yet (R154). -/
  reCreditDue : Bool
  deriving DecidableEq, Repr

/-! ### Beacon composer and directive handler (chapters 8 and 9) -/

/-- The request timer: the moment of the request and its jitter in ms (R143). -/
structure BeaconRequest where
  since : Ms
  jitter : Nat
  deriving DecidableEq, Repr

/-- The beacon composer. -/
structure Composer where
  request : Option BeaconRequest
  /-- The carried set: the code and subject of the entries summarised by the attempt on the line (R151). -/
  carried : List (FaultCode × Nat)
  /-- The report floor, none until RUN entry or CONFIG_FAULT entry (R148, R156). -/
  floor : Option Severity
  deriving DecidableEq, Repr

/-- Why a directive is refused (R164). -/
inductive RefusalReason where
  | notSupervisor | notAvailable | badArgument | busy
  deriving DecidableEq, Repr

/-- The last-refusal record (R164). -/
structure RefusalRecord where
  reason : RefusalReason
  kind : Byte
  source : Byte
  epoch : EpochCount
  deriving DecidableEq, Repr

/-- The directive handler. -/
structure Handler where
  lastRefusal : Option RefusalRecord
  deriving DecidableEq, Repr

/-! ### Store controller (chapter 10) -/

/-- The judged configured part of a present slot (R80, R184). -/
structure SlotConfig where
  operator : Nat
  band : Nat
  request : Nat
  floor : Nat
  ceiling : Nat
  threshold : Nat
  deriving DecidableEq, Repr

/-- The judged values of a usable image (R187); a slot that is not present has no record. -/
structure Image where
  nodeId : Nat
  period : Nat
  supervisors : List Nat
  adjacents : List Nat
  budget : Nat
  startMode : SpreadMode
  deadBand : Nat
  smin : Int
  smax : Nat
  fill : Nat
  reportFloor : Severity
  fwdMin : Nat
  rlThreshold : Nat
  bandOffsets : Vector Int 4
  slots : Vector (Option SlotConfig) 8
  deriving DecidableEq, Repr

/-- The image the controller holds: none before it is read, a usable one, or an unusable one with its node id where the node id
field is valid (R188). -/
inductive HeldImage where
  | none
  | usable (image : Image)
  | unusable (nodeId : Option Nat)
  deriving DecidableEq, Repr

/-- The record of a crash write (R135, R190). -/
structure CrashRecord where
  code : FaultCode
  subject : Nat
  cause : StartCause
  stamp : EpochCount
  applied : Vector (Option Nat) 8
  beff : Option Nat
  lastTemp : Option Int
  deriving DecidableEq, Repr

/-- The NVM operations with how far they are (R182, R192, R194). The step of a write or an erase is 0, 1 or 2 for the manual's
step 1, 2 or 3. -/
inductive NvmOperation where
  | configRead
  | crashRead
  | crashWrite (step : Fin 3) (record : CrashRecord)
  /-- `markerRead`: the marker byte that an erase from UNKNOWN reads first has been read. -/
  | crashErase (step : Fin 3) (markerRead : Bool)
  deriving DecidableEq, Repr

/-- The operation in flight: the failed tries of its present transfer and the moment that the present try of it began (R183). -/
structure InFlight where
  operation : NvmOperation
  failedTries : Nat
  since : Ms
  deriving DecidableEq, Repr

/-- The region status (R190); FOUND_TORN keeps the valid marker as the crash read found it. -/
inductive RegionStatus where
  | empty | foundValid | foundTorn (valid : Bool) | written | unknown
  deriving DecidableEq, Repr

/-- The store controller. -/
structure StoreCtl where
  node : NodeState
  cause : StartCause
  image : HeldImage
  /-- The millisecond clock (R180). -/
  clock : Ms
  /-- The moment the LISTEN timer was started, none when it is stopped (R189). -/
  listenTimer : Option Ms
  /-- The moment the running epoch began, none when the epoch timer is stopped (R181). -/
  epochTimer : Option Ms
  /-- The epoch count (R181). -/
  epoch : EpochCount
  operation : Option InFlight
  /-- The 5 ms wait after a pin reset is not over (R196). -/
  storeWait : Bool
  /-- The pending crash write with its record (R193). -/
  pendingWrite : Option CrashRecord
  region : RegionStatus
  /-- The deferred-restart flag (R195). -/
  deferredRestart : Bool
  deriving DecidableEq, Repr

/-! ### Memory and the whole state -/

/-- The bytes of the configuration store: address and byte, addresses strictly rising, no byte equal to what an unlisted address
reads as. -/
structure Memory where
  cells : List Host.Cell
  deriving DecidableEq, Repr

/-- The whole state. -/
structure State where
  /-- The commands that wait, first in, first out. -/
  pending : List Instr
  port : Port
  view : View
  scanner : Scanner
  spread : Spread
  alloc : Alloc
  writer : Writer
  supervisor : Supervisor
  composer : Composer
  handler : Handler
  ctl : StoreCtl
  /-- The store on the I2C line: the image at bytes 0 to 96 and the crash region at bytes 128 to 159 (R201, R202). -/
  store : Memory
  /-- THE MODEL'S OWN: how many random draws have been made, the argument of the next free draw. -/
  draws : Nat
  deriving DecidableEq, Repr

/-- The reasons a step can stop with a fault: none, since every command has an effect in every state. -/
inductive Fault where
  deriving DecidableEq, Repr

/-- The reasons a step can refuse a command. -/
inductive Refusal where
  /-- Raised by exec for a command that has no meaning yet, by its mnemonic in the table. Safe: the machine stops. -/
  | notModelled (mnemonic : String)
  deriving DecidableEq, Repr

/-! ### Named updates, one for each field -/

def State.setPending (s : State) (x : List Instr) : State := { s with pending := x }
def State.setPort (s : State) (x : Port) : State := { s with port := x }
def State.setView (s : State) (x : View) : State := { s with view := x }
def State.setScanner (s : State) (x : Scanner) : State := { s with scanner := x }
def State.setSpread (s : State) (x : Spread) : State := { s with spread := x }
def State.setAlloc (s : State) (x : Alloc) : State := { s with alloc := x }
def State.setWriter (s : State) (x : Writer) : State := { s with writer := x }
def State.setSupervisor (s : State) (x : Supervisor) : State := { s with supervisor := x }
def State.setComposer (s : State) (x : Composer) : State := { s with composer := x }
def State.setHandler (s : State) (x : Handler) : State := { s with handler := x }
def State.setCtl (s : State) (x : StoreCtl) : State := { s with ctl := x }
def State.setStore (s : State) (x : Memory) : State := { s with store := x }
def State.setDraws (s : State) (x : Nat) : State := { s with draws := x }

/-! ### The values at power-on -/

/-- The port at LOAD entry (R20). The line is taken as idle with no gap seen (assumption 11). -/
def Port.reset : Port where
  receiver := false
  footing := false
  line := .idle
  overlap := none
  tx := .silent
  beacon := none
  beaconWaiting := false
  answers := []
  failures := 0
  busyStanding := false
  badFrames := 0
  cleanRun := 0
  noiseStanding := false
  quiet := false

/-- The view at power-on (R40). -/
def View.reset : View where
  table := Vector.replicate 16 none
  cursors8 := ⟨0, 0⟩
  cursors9 := ⟨0, 0⟩
  cursorsShared := ⟨0, 0⟩
  listenEntry := none
  clash := none
  clashCount := 0

/-- The scanner at power-on (R57). -/
def Scanner.reset : Scanner where
  scanList := []
  conversion := none
  windows := Vector.replicate 8 ⟨0, 0⟩
  forward := none
  badPairs := 0
  goodPairs := 0
  stuck := Vector.replicate 11 ⟨0, 0, false⟩
  vswrWarn := false
  vswrTrip := false
  tempWarn := false
  tempHigh := false
  tempLimit := false
  lastTemp := none
  releaseNotice := false

/-- The spreading controller at LOAD entry (R77, R78). -/
def Spread.reset : Spread where
  records := none
  lostCount := 0

/-- The allocation unit at power-on (R100). -/
def Alloc.reset : Alloc where
  slots := Vector.replicate 8 .idle
  mute := Vector.replicate 8 false
  beff := none
  offsets := []
  derating := 0
  down := false
  ramp := none
  flags := []
  shedMarks := Vector.replicate 8 false
  recomputeDue := false

/-- The writer right after power-on: the eight forced mutes, of which slot 0's has been started (R110, R112). What the
transceiver holds is unknown (assumption 12). -/
def Writer.reset : Writer where
  held := (Vector.replicate 8 none).set 0 (some .mute)
  dirty := (Vector.replicate 8 (some ⟨.mute, true⟩)).set 0 none
  inFlight := some ⟨0, .mute, true⟩
  indicator := false
  paEnable := false
  transceiver := Vector.replicate 8 none

/-- The fault supervisor at power-on (R140, R156). -/
def Supervisor.reset : Supervisor where
  table := Vector.replicate 24 none
  alarm := false
  overflow := false
  snapshot := none
  sinceSnapshot := 0
  reCreditCount := 0
  reCreditDue := false

/-- The beacon composer at LOAD entry (R156). -/
def Composer.reset : Composer where
  request := none
  carried := []
  floor := none

/-- The directive handler at LOAD entry (R178). -/
def Handler.reset : Handler where
  lastRefusal := none

/-- The store controller at power-on (R197): LOAD with the configuration read in flight. -/
def StoreCtl.reset : StoreCtl where
  node := .load
  cause := .powerOn
  image := .none
  clock := 0#32
  listenTimer := none
  epochTimer := none
  epoch := 0#32
  operation := some ⟨.configRead, 0, 0#32⟩
  storeWait := false
  pendingWrite := none
  region := .unknown
  deferredRestart := false

/-- The machine right after power-on, with a blank store (assumption 7) and nothing waiting. -/
def State.reset : State where
  pending := []
  port := .reset
  view := .reset
  scanner := .reset
  spread := .reset
  alloc := .reset
  writer := .reset
  supervisor := .reset
  composer := .reset
  handler := .reset
  ctl := .reset
  store := ⟨[]⟩
  draws := 0

end Sys2Proof.Machine
end

