-- ==== Sys2Proof/Machine/Ops.lean ====
section
/-! DEFINITION. The named operations that every block shares: the bytes of the store, the millisecond clock, the free draws, and
what the node state and the image say. -/

namespace Sys2Proof.Machine

/-- What a command answers. -/
abbrev Result := Host.Outcome State Fault Refusal

/-! ### The configuration store -/

/-- What an unlisted byte of the store reads as: a blank store's 0xFF (R185, R202; assumption 7). -/
def Memory.blank : Byte := 0xFF#8

/-- The canonical form: addresses strictly rising, and no listed byte reads as an unlisted one does. -/
abbrev Memory.wf (m : Memory) : Prop :=
  m.cells.Pairwise (fun x y => x.1 < y.1) ∧ ∀ c ∈ m.cells, c.2 ≠ Memory.blank

/-- The byte that `cells` hold at `address`. -/
def Memory.lookup : List Host.Cell → Nat → Byte
  | [], _ => Memory.blank
  | (a, b) :: rest, address => if a = address then b else Memory.lookup rest address

/-- `cells` with `byte` at `address`, in canonical form when `cells` are. -/
def Memory.insert (address : Nat) (byte : Byte) : List Host.Cell → List Host.Cell
  | [] => if byte = Memory.blank then [] else [(address, byte)]
  | (a, b) :: rest =>
    if address < a then
      if byte = Memory.blank then (a, b) :: rest else (address, byte) :: (a, b) :: rest
    else if address = a then
      if byte = Memory.blank then rest else (address, byte) :: rest
    else (a, b) :: Memory.insert address byte rest

/-- The byte of the store at `address`. -/
def Memory.read (m : Memory) (address : Nat) : Byte := Memory.lookup m.cells address

/-- The store with `byte` at `address`. -/
def Memory.write (m : Memory) (address : Nat) (byte : Byte) : Memory := ⟨Memory.insert address byte m.cells⟩

/-- The store with `bytes` from `address` on. -/
def Memory.writeBytes (m : Memory) (address : Nat) : List Byte → Memory
  | [] => m
  | byte :: rest => Memory.writeBytes (m.write address byte) (address + 1) rest

/-- `count` bytes of the store from `address` on. -/
def Memory.readBytes (m : Memory) (address : Nat) : Nat → List Byte
  | 0 => []
  | count + 1 => m.read address :: Memory.readBytes m (address + 1) count

/-- The first byte of the image (R201). -/
def imageAddress : Nat := 0
/-- The length of the image in bytes (R201). -/
def imageLength : Nat := 97
/-- The first byte of the crash region, its marker byte (R202). -/
def regionAddress : Nat := 128
/-- The marker byte of the crash region as the store holds it (R202). -/
def State.marker (s : State) : Byte := s.store.read regionAddress

/-! ### The clock -/

/-- The milliseconds from `moment` to now, modulo 2^32 (R28, R180). -/
def State.elapsed (s : State) (moment : Ms) : Nat := (s.ctl.clock - moment).toNat

/-- `ms` milliseconds go by on the own clock, which wraps (R180). -/
def State.advance (s : State) (ms : Nat) : State :=
  s.setCtl { s.ctl with clock := s.ctl.clock + BitVec.ofNat 32 ms }

/-- Time goes by until at least `ms` milliseconds have elapsed since `moment`: a timed command is the coming of its moment
(assumption 3). -/
def State.advanceTo (s : State) (moment : Ms) (ms : Nat) : State := s.advance (ms - s.elapsed moment)

/-! ### Free draws -/

/-- The next random draw, uniform over 0 to `top` (introduction, section 4.8): a free value in that range (assumption 5). -/
def State.nextDraw (s : State) (top : Nat) : Nat := Config.freeDraw s.draws % (top + 1)

/-- One draw has been made. -/
def State.drawn (s : State) : State := s.setDraws (s.draws + 1)

/-! ### What the node state and the image say -/

/-- The values that stand in for an image where none is usable. No LISTEN or RUN state that a run reaches reads them: those states
hold a usable image (R182). -/
def Image.absent : Image where
  nodeId := 0
  period := 0
  supervisors := []
  adjacents := []
  budget := 0
  startMode := .off
  deadBand := 0
  smin := 0
  smax := 0
  fill := 0
  reportFloor := .note
  fwdMin := 0
  rlThreshold := 0
  bandOffsets := Vector.replicate 4 0
  slots := Vector.replicate 8 none

/-- The judged values that the blocks take from the image (R187). -/
def State.cfg (s : State) : Image :=
  match s.ctl.image with
  | .usable image => image
  | .none => .absent
  | .unusable _ => .absent

/-- The node is in RUN. -/
def State.inRun (s : State) : Bool := s.ctl.node == .run

/-- The node's own id: the image's in LISTEN and RUN, the valid node id field in CONFIG_FAULT, none in LOAD (R33, R188). -/
def State.ownId (s : State) : Option Nat :=
  match s.ctl.node with
  | .load => none
  | .listen => some s.cfg.nodeId
  | .run => some s.cfg.nodeId
  | .configFault =>
    match s.ctl.image with
    | .none => none
    | .usable image => some image.nodeId
    | .unusable nodeId => nodeId

/-- The epoch stamp of a raise: the epoch count in RUN, 0 elsewhere (R116). -/
def State.stamp (s : State) : EpochCount := if s.inRun then s.ctl.epoch else 0#32

/-- The epoch interval: P in RUN, 100 ms in CONFIG_FAULT (R181). -/
def State.epochInterval (s : State) : Nat := if s.inRun then s.cfg.period else 100

/-- A saturating count raised by 1 (introduction, section 4.5). -/
def saturate (limit n : Nat) : Nat := min limit (n + 1)

/-- `v` clamped to `lo`..`hi` (introduction, section 4.5). -/
def clampNat (lo hi v : Nat) : Nat := min hi (max lo v)

/-- `v` clamped to `lo`..`hi` (introduction, section 4.5). -/
def clampInt (lo hi v : Int) : Int := min hi (max lo v)

/-! ### The neighbour table as other blocks read it -/

/-- The entries of the adjacent positions 0 to 7 (R21). -/
def View.adjacent (v : View) : List (Option Neighbour) := v.table.toList.take 8

/-- The number of adjacent entries in `state` (R36, R37). -/
def View.countAdjacent (v : View) (state : Presence) : Nat :=
  v.adjacent.countP fun e => match e with
    | none => false
    | some n => n.state == state

end Sys2Proof.Machine
end

