-- ==== Sys2Proof/Machine/Operands.lean ====
section
/-! DEFINITION. What commands and the store bring, read from bytes, and what the part sends, laid out in bytes: number forms, the
CRC, trunk frames, beacons as received, directive payloads, the configuration image and the crash region (chapter 11, with the
checks of R12, R162 and R184 to R187). -/

namespace Sys2Proof.Machine

/-! ### Numbers (R198) -/

/-- An unsigned number of one byte. -/
def byteOf (n : Nat) : Byte := BitVec.ofNat 8 n

/-- An unsigned number of two bytes, most significant first. -/
def bytes16 (n : Nat) : List Byte := [byteOf (n / 256), byteOf n]

/-- An unsigned number of four bytes, most significant first. -/
def bytes32 (w : BitVec 32) : List Byte :=
  [w.extractLsb' 24 8, w.extractLsb' 16 8, w.extractLsb' 8 8, w.extractLsb' 0 8]

/-- A signed number of one byte, in two's complement. -/
def byteOfInt (z : Int) : Byte := BitVec.ofInt 8 z

/-- The number of two bytes, most significant first. -/
def number16 (high low : Byte) : Nat := high.toNat * 256 + low.toNat

/-- A number of one byte that may be absent: all ones when it is. -/
def byteOrAbsent : Option Nat → Byte
  | none => 255#8
  | some n => byteOf n

/-- A temperature: the detector code in two bytes, all ones when absent. The last temperature is kept as the code less 160 (R55). -/
def bytesTemp : Option Int → List Byte
  | none => [255#8, 255#8]
  | some quarter => bytes16 (quarter + 160).toNat

/-- A flag byte: bit i is the i-th flag. -/
def flagByte (flags : List Bool) : Byte :=
  byteOf (flags.foldr (fun flag rest => (if flag then 1 else 0) + 2 * rest) 0)

/-- Byte `i` of a payload; 0 past its end. -/
def byteAt (bytes : List Byte) (i : Nat) : Byte := bytes.getD i 0#8

/-! ### Codes (R117, R198) -/

def FaultCode.number : FaultCode → Nat
  | .tempWarn => 0x01 | .tempHigh => 0x02 | .tempLimit => 0x03 | .vswrWarn => 0x04
  | .vswrTrip => 0x05 | .detStuck => 0x06 | .floorShed => 0x07 | .peerLost => 0x08
  | .supvLost => 0x09 | .trunkBusy => 0x0A | .trunkNoise => 0x0B | .idClash => 0x0C
  | .cfgBad => 0x0D | .cfgClamped => 0x0E | .priorTrip => 0x0F | .storeFail => 0x10

/-- Every fault code, in the order of the catalog. -/
def FaultCode.all : List FaultCode :=
  [.tempWarn, .tempHigh, .tempLimit, .vswrWarn, .vswrTrip, .detStuck, .floorShed, .peerLost,
   .supvLost, .trunkBusy, .trunkNoise, .idClash, .cfgBad, .cfgClamped, .priorTrip, .storeFail]

/-- The code a number stands for, none for a number outside the catalog. -/
def FaultCode.ofNumber (n : Nat) : Option FaultCode := FaultCode.all.find? fun c => c.number == n

def NodeState.number : NodeState → Nat
  | .load => 1 | .listen => 2 | .run => 3 | .configFault => 4

def StartCause.number : StartCause → Nat
  | .powerOn => 1 | .restart => 2

def Severity.number : Severity → Nat
  | .note => 1 | .minor => 2 | .major => 3 | .critical => 4

/-- A fault level; none stands for NONE. -/
def levelNumber : Option Severity → Nat
  | none => 0
  | some severity => severity.number

def EntryState.number : EntryState → Nat
  | .activeUnacked => 1 | .activeAcked => 2 | .clearedUnacked => 3

def SlotState.number : SlotState → Nat
  | .idle => 0 | .down => 1 | .muted => 2 | .shed => 3 | .active _ _ => 4

/-- The target of a slot, absent unless it is ACTIVE (R80). -/
def SlotState.target : SlotState → Option Nat
  | .active target _ => some target
  | .idle => none | .down => none | .muted => none | .shed => none

/-- The applied code of a slot, absent unless it is ACTIVE (R80). -/
def SlotState.applied : SlotState → Option Nat
  | .active _ applied => some applied
  | .idle => none | .down => none | .muted => none | .shed => none

/-- The slot is ACTIVE. -/
def SlotState.isActive : SlotState → Bool
  | .active _ _ => true
  | .idle => false | .down => false | .muted => false | .shed => false

def Presence.number : Presence → Nat
  | .absent => 1 | .live => 2 | .suspect => 3 | .lost => 4

def SpreadMode.number : SpreadMode → Nat
  | .off => 0 | .gentle => 1 | .normal => 2 | .surge => 3

/-- The mode a number stands for, none above 3 (R162). -/
def SpreadMode.ofNumber : Nat → Option SpreadMode
  | 0 => some .off
  | 1 => some .gentle
  | 2 => some .normal
  | 3 => some .surge
  | _ => none

def RefusalReason.number : RefusalReason → Nat
  | .notSupervisor => 1 | .notAvailable => 2 | .badArgument => 3 | .busy => 4

/-- The subject of STORE_FAIL for an operation (R117), also its code in STATUS (R200). -/
def NvmOperation.number : NvmOperation → Nat
  | .configRead => 1 | .crashRead => 2 | .crashWrite _ _ => 3 | .crashErase _ _ => 4

/-! ### The frame check (R198) -/

/-- One bit through the CRC register. -/
def crcBit (register : BitVec 16) (bit : Bool) : BitVec 16 :=
  if register.msb != bit then (register <<< 1) ^^^ 0x1021#16 else register <<< 1

/-- One byte through the CRC register, most significant bit first. -/
def crcByte (register : BitVec 16) (byte : Byte) : BitVec 16 :=
  [7, 6, 5, 4, 3, 2, 1, 0].foldl (fun r i => crcBit r (byte.getLsbD i)) register

/-- The CRC of the bytes, from a register of all ones. -/
def crc (bytes : List Byte) : BitVec 16 := bytes.foldl crcByte 0xFFFF#16

/-! ### Trunk frames (R1, R12, R198) -/

/-- The three kinds of frame (R1). -/
inductive FrameKind where
  | beacon | directive | answer
  deriving DecidableEq, Repr

/-- A good frame. -/
structure Frame where
  kind : FrameKind
  source : Byte
  destination : Byte
  payload : List Byte
  deriving DecidableEq, Repr

/-- The bytes of a frame that the part sends: header, payload, CRC. -/
def frameBytes (kind source destination : Byte) (payload : List Byte) : List Byte :=
  let body := kind :: source :: destination :: byteOf payload.length :: payload
  let check := crc body
  body ++ [check.extractLsb' 8 8, check.extractLsb' 0 8]

/-- The kind a kind byte stands for. -/
def FrameKind.ofByte (b : Byte) : Option FrameKind :=
  if b = 1#8 then some .beacon else if b = 2#8 then some .directive else if b = 3#8 then some .answer else none

/-- A beacon is malformed unless it goes to 63 and its counts fit each other and its length (R12). -/
def beaconShape (destination : Byte) (payload : List Byte) : Bool :=
  let operators := (byteAt payload 12).toNat
  let summaries := (byteAt payload 13).toNat
  destination == 63#8 && decide (operators ≤ 8) && decide (summaries ≤ 4) &&
    decide (payload.length = 14 + 5 * operators + 4 * summaries)

/-- The checks of R12: the good frame that the bytes received are, or none for a bad frame. `wholeBytes` is false where bits were
left over that fill no byte (R11). -/
def receivedFrame (wholeBytes : Bool) (bytes : List Byte) : Option Frame :=
  match bytes with
  | kindByte :: source :: destination :: length :: rest =>
    let payload := rest.take (rest.length - 2)
    let check := rest.drop (rest.length - 2)
    match FrameKind.ofByte kindByte with
    | none => none
    | some kind =>
      if wholeBytes && decide (2 ≤ rest.length) && decide (length.toNat ≤ 88) && decide (length.toNat = payload.length)
          && decide (number16 (byteAt check 0) (byteAt check 1)
              = (crc (kindByte :: source :: destination :: length :: payload)).toNat)
          && source != 0#8 && source != 63#8
          && (kind != .beacon || beaconShape destination payload) then
        some ⟨kind, source, destination, payload⟩
      else none
  | _ => none

/-! ### A beacon as the neighbour view stores it (R23, R199) -/

/-- The fault level of a beacon: a code above CRITICAL is CRITICAL. -/
def levelOfByte (b : Byte) : Option Severity :=
  match b.toNat with
  | 0 => none
  | 1 => some .note
  | 2 => some .minor
  | 3 => some .major
  | _ => some .critical

/-- The first `count` operator records at the head of `bytes`, as sent; a load above 1000 becomes 1000. -/
def operatorRecords : Nat → List Byte → List OperatorSeen
  | 0, _ => []
  | count + 1, bytes =>
    ⟨(byteAt bytes 0).toNat, min 1000 (number16 (byteAt bytes 1) (byteAt bytes 2)), (byteAt bytes 4).getLsbD 0⟩
      :: operatorRecords count (bytes.drop 5)

/-- The records kept: operator ids 1 to 15, the first occurrence of each. `taken` are the ids taken so far. -/
def keepRecords (taken : List Nat) : List OperatorSeen → List OperatorSeen
  | [] => []
  | r :: rest =>
    if r.operator = 0 ∨ 15 < r.operator ∨ r.operator ∈ taken then keepRecords taken rest
    else r :: keepRecords (r.operator :: taken) rest

/-- The fields of a beacon as an entry takes them, heard at `moment`. -/
def heardBeacon (payload : List Byte) (moment : Ms) : Heard where
  cls := (byteAt payload 0).toNat
  period := clampNat 50 1000 (number16 (byteAt payload 3) (byteAt payload 4))
  lastHeard := moment
  level := levelOfByte (byteAt payload 7)
  operators := keepRecords [] (operatorRecords (byteAt payload 12).toNat (payload.drop 14))

/-! ### Directive payloads (R162, R200) -/

/-- The nine directives (R158). -/
inductive DirectiveKind where
  | restart | faultAck | quiet | speak | statusQuery | snapshotQuery | tableRead | carrierMask | spreadMode
  deriving DecidableEq, Repr

def DirectiveKind.number : DirectiveKind → Nat
  | .restart => 1 | .faultAck => 2 | .quiet => 3 | .speak => 4 | .statusQuery => 5
  | .snapshotQuery => 6 | .tableRead => 7 | .carrierMask => 8 | .spreadMode => 9

def DirectiveKind.ofNumber : Nat → Option DirectiveKind
  | 1 => some .restart
  | 2 => some .faultAck
  | 3 => some .quiet
  | 4 => some .speak
  | 5 => some .statusQuery
  | 6 => some .snapshotQuery
  | 7 => some .tableRead
  | 8 => some .carrierMask
  | 9 => some .spreadMode
  | _ => none

/-- The payload length of a kind. -/
def DirectiveKind.length : DirectiveKind → Nat
  | .restart => 2 | .faultAck => 5 | .quiet => 2 | .speak => 2 | .statusQuery => 2
  | .snapshotQuery => 2 | .tableRead => 5 | .carrierMask => 4 | .spreadMode => 3

/-- The three directives that ask for an answer (R161). -/
def DirectiveKind.isQuery : DirectiveKind → Bool
  | .statusQuery => true | .snapshotQuery => true | .tableRead => true
  | .restart => false | .faultAck => false | .quiet => false | .speak => false
  | .carrierMask => false | .spreadMode => false

/-- The kind code of a payload as received; a payload of length 0 has code 0 (R200). -/
def kindByte (payload : List Byte) : Byte := byteAt payload 0

/-- What a FAULT-ACK acknowledges (R137). -/
inductive AckSelector where
  | all
  | one (code subject : Nat)
  deriving DecidableEq, Repr

/-- The forms of a CARRIER-MASK (R87). -/
inductive MaskForm where
  | mute | unmute | flip
  deriving DecidableEq, Repr

/-- The two tables of a TABLE-READ (R174). -/
inductive TableName where
  | neighbour | fault
  deriving DecidableEq, Repr

/-- A directive with its arguments judged. `start` is none for CONTINUE (R174). -/
inductive Directive where
  | restart
  | faultAck (selector : AckSelector)
  | quiet
  | speak
  | statusQuery
  | snapshotQuery
  | tableRead (table : TableName) (start : Option Nat) (count : Nat)
  | carrierMask (form : MaskForm) (slots : Byte)
  | spreadMode (mode : SpreadMode)
  deriving DecidableEq, Repr

/-- The argument check of R162: the directive, or none where it is refused BAD_ARGUMENT. -/
def judgeArguments (kind : DirectiveKind) (payload : List Byte) : Option Directive :=
  if payload.length ≠ kind.length then none
  else match kind with
    | .restart => some .restart
    | .faultAck =>
      match (byteAt payload 2).toNat with
      | 1 => some (.faultAck .all)
      | 2 => some (.faultAck (.one (byteAt payload 3).toNat (byteAt payload 4).toNat))
      | _ => none
    | .quiet => some .quiet
    | .speak => some .speak
    | .statusQuery => some .statusQuery
    | .snapshotQuery => some .snapshotQuery
    | .tableRead =>
      let start := if byteAt payload 3 = 255#8 then none else some (byteAt payload 3).toNat
      let count := (byteAt payload 4).toNat
      match (byteAt payload 2).toNat with
      | 1 => some (.tableRead .neighbour start count)
      | 2 => some (.tableRead .fault start count)
      | _ => none
    | .carrierMask =>
      match (byteAt payload 2).toNat with
      | 1 => some (.carrierMask .mute (byteAt payload 3))
      | 2 => some (.carrierMask .unmute (byteAt payload 3))
      | 3 => some (.carrierMask .flip (byteAt payload 3))
      | _ => none
    | .spreadMode => (SpreadMode.ofNumber (byteAt payload 2).toNat).map .spreadMode

/-! ### The configuration image (R184 to R187, R201) -/

/-- Byte `i` of the image as a number. -/
def imageByte (image : List Byte) (i : Nat) : Nat := (image.getD i Memory.blank).toNat

/-- Bytes `i` and `i + 1` of the image as a number. -/
def imageWord (image : List Byte) (i : Nat) : Nat :=
  number16 (image.getD i Memory.blank) (image.getD (i + 1) Memory.blank)

/-- Byte `i` of the image as a signed number. -/
def imageSigned (image : List Byte) (i : Nat) : Int := (image.getD i Memory.blank).toInt

/-- The subject with which the frame of a read image fails (R185): 0 for a blank image, 1 for a wrong format marker, 2 for a wrong
length. -/
def frameFailure (image : List Byte) : Option Nat :=
  if image.all (· == 0xFF#8) then some 0
  else if imageWord image 0 ≠ 0xC72E then some 1
  else if imageWord image 2 ≠ 97 then some 2
  else none

/-- The node id field is valid: 1 to 62 (R186, R188). -/
def validId (id : Nat) : Bool := decide (1 ≤ id) && decide (id ≤ 62)

/-- The listed supervisor ids (R201): the first count ids. -/
def supervisorIds (image : List Byte) : List Nat :=
  ((List.range 2).take (imageByte image 7)).map fun i => imageByte image (8 + i)

/-- The listed adjacent ids, in list order (R201). -/
def adjacentIds (image : List Byte) : List Nat :=
  ((List.range 8).take (imageByte image 10)).map fun i => imageByte image (11 + i)

/-- No id of the list is invalid, equal to `own`, repeated, or in `others` (R186). -/
def goodIds (own : Nat) (others : List Nat) : List Nat → Bool
  | [] => true
  | id :: rest => validId id && id != own && !others.contains id && !rest.contains id && goodIds own others rest

/-- Slot `s` of the image is present (R201). -/
def slotPresent (image : List Byte) (s : Nat) : Bool := imageByte image (33 + 8 * s) == 1

/-- The subject with which the records of the slots from `s` on fail (R186). `n` slots are left. -/
def slotFailure (image : List Byte) : (n s : Nat) → Option Nat
  | 0, _ => none
  | n + 1, s =>
    if slotPresent image s && imageByte image (34 + 8 * s) == 0 then some (32 + 8 * s + 1)
    else if slotPresent image s && decide (imageByte image (38 + 8 * s) < imageByte image (37 + 8 * s)) then
      some (32 + 8 * s + 4)
    else slotFailure image n (s + 1)

/-- The structural checks in ascending field index (R186): the subject of CFG_BAD, or none when they all pass. -/
def structureFailure (image : List Byte) : Option Nat :=
  let own := imageByte image 4
  if !validId own then some 3
  else if decide (2 < imageByte image 7) || !goodIds own [] (supervisorIds image) then some 5
  else if decide (8 < imageByte image 10) || !goodIds own (supervisorIds image) (adjacentIds image) then some 6
  else slotFailure image 8 0

/-- A field as judged by R187: its value, and whether it was clamped. -/
structure Judged (α : Type) where
  value : α
  clamped : Bool

/-- A field with range `lo`..`hi` and no default. -/
def judge (lo hi v : Nat) : Judged Nat := ⟨clampNat lo hi v, clampNat lo hi v != v⟩

/-- A field with range `lo`..`hi` whose default `dflt` is taken where it holds `code`. -/
def judgeOr (lo hi code dflt v : Nat) : Judged Nat := if v = code then ⟨dflt, false⟩ else judge lo hi v

/-- A signed field with range `lo`..`hi` and no default. -/
def judgeInt (lo hi v : Int) : Judged Int := ⟨clampInt lo hi v, clampInt lo hi v != v⟩

/-- Smin, whose default code 0x80 reads as -128 (R201). -/
def judgeSmin (v : Int) : Judged Int := if v = -128 then ⟨-40, false⟩ else judgeInt (-80) 0 v

/-- F, lowered where needed so that Smax + F is at most 36 (R187). `smax` is Smax as judged. -/
def judgeFill (smax v : Nat) : Judged Nat :=
  let first := judgeOr 0 24 255 12 v
  let last := min first.value (36 - smax)
  ⟨last, first.clamped || last != first.value⟩

/-- The mode of a judged start mode. -/
def startModeOf (v : Nat) : SpreadMode := (SpreadMode.ofNumber v).getD .surge

/-- The report floor of a judged severity code. -/
def reportFloorOf : Nat → Severity
  | 0 => .note
  | 1 => .note
  | 2 => .minor
  | 3 => .major
  | _ => .critical

/-- The slot record at byte `33 + 8 s` with its judged fields, and the indices of the clamped ones, ascending (R187). -/
def judgeSlot (image : List Byte) (s : Nat) : Option SlotConfig × List Nat :=
  if !slotPresent image s then (none, [])
  else
    let base := 32 + 8 * s
    let operator := judge 1 15 (imageByte image (34 + 8 * s))
    let band := judge 0 3 (imageByte image (35 + 8 * s))
    let floor := judge 0 143 (imageByte image (37 + 8 * s))
    let ceiling := judge 0 143 (imageByte image (38 + 8 * s))
    let request := judge floor.value ceiling.value (imageByte image (36 + 8 * s))
    let threshold := judge 0 1023 (imageWord image (39 + 8 * s))
    (some ⟨operator.value, band.value, request.value, floor.value, ceiling.value, threshold.value⟩,
      [(base + 1, operator.clamped), (base + 2, band.clamped), (base + 3, request.clamped), (base + 4, floor.clamped),
       (base + 5, ceiling.clamped), (base + 6, threshold.clamped)].filterMap
        fun (index, clamped) => if clamped then some index else none)

/-- The judged values of an image that passed R186, and the indices of the clamped fields in ascending order (R187). -/
def judgeImage (image : List Byte) : Image × List Nat :=
  let period := judgeOr 50 1000 65535 100 (imageWord image 5)
  let budget := judge 0 143 (imageByte image 19)
  let mode := judge 0 3 (imageByte image 20)
  let deadBand := judgeOr 10 250 255 50 (imageByte image 21)
  let smin := judgeSmin (imageSigned image 22)
  let smax := judgeOr 0 24 255 12 (imageByte image 23)
  let fill := judgeFill smax.value (imageByte image 24)
  let floor := judgeOr 1 4 255 2 (imageByte image 25)
  let fwdMin := judgeOr 0 1023 65535 200 (imageWord image 26)
  let rl := judgeOr 8 160 255 40 (imageByte image 28)
  let band (b : Nat) := judgeInt (-16) 16 (imageSigned image (29 + b))
  let plain := [(4, period.clamped), (7, budget.clamped), (8, mode.clamped), (9, deadBand.clamped), (10, smin.clamped),
    (11, smax.clamped), (12, fill.clamped), (13, floor.clamped), (14, fwdMin.clamped), (15, rl.clamped),
    (16, (band 0).clamped), (17, (band 1).clamped), (18, (band 2).clamped), (19, (band 3).clamped)].filterMap
      fun (index, clamped) => if clamped then some index else none
  ({ nodeId := imageByte image 4
     period := period.value
     supervisors := supervisorIds image
     adjacents := adjacentIds image
     budget := budget.value
     startMode := startModeOf mode.value
     deadBand := deadBand.value
     smin := smin.value
     smax := smax.value
     fill := fill.value
     reportFloor := reportFloorOf floor.value
     fwdMin := fwdMin.value
     rlThreshold := rl.value
     bandOffsets := tab 4 fun b => (band b.val).value
     slots := tab 8 fun s => (judgeSlot image s.val).1 },
   plain ++ (List.range 8).flatMap fun s => (judgeSlot image s).2)

/-- The whole judgement of an image that was read: what the controller then holds, the subject of CFG_BAD if it is raised, and the
clamped fields (R185 to R188). -/
structure ImageJudgement where
  held : HeldImage
  bad : Option Nat
  clamped : List Nat

def judgeRead (image : List Byte) : ImageJudgement :=
  match frameFailure image with
  | some subject => ⟨.unusable none, some subject, []⟩
  | none =>
    match structureFailure image with
    | some subject =>
      ⟨.unusable (if validId (imageByte image 4) then some (imageByte image 4) else none), some subject, []⟩
    | none => ⟨.usable (judgeImage image).1, none, (judgeImage image).2⟩

/-! ### The crash region (R202) -/

/-- The in-progress marker is set: bit 0 is 0. -/
def inProgressSet (marker : Byte) : Bool := !marker.getLsbD 0

/-- The valid marker is set: bit 1 is 0. -/
def validSet (marker : Byte) : Bool := !marker.getLsbD 1

/-- Bytes 1 to 31 of the region for a record. -/
def bodyBytes (r : CrashRecord) : List Byte :=
  [byteOf r.code.number, byteOf r.subject, byteOf r.cause.number] ++ bytes32 r.stamp ++
    r.applied.toList.map byteOrAbsent ++ [byteOrAbsent r.beff] ++ bytesTemp r.lastTemp ++ List.replicate 13 0xFF#8

/-! ### The drive word (R203) -/

/-- The 16-bit word of a write: the slot in bits 15 to 13, the mute bit 12, the drive code in bits 7 to 0. -/
def driveWord (slot : Fin 8) : Drive → BitVec 16
  | .mute => BitVec.ofNat 16 (slot.val * 8192 + 4096)
  | .code c => BitVec.ofNat 16 (slot.val * 8192 + c % 256)

end Sys2Proof.Machine
end

