-- ==== Sys2Proof/Machine/Flags.lean ====
section
/-! DEFINITION. What follows from the fault table and the slots as they stand: severities, the fault level and severity counts, the
ALARM level, the derating level, the DOWN condition, and the flag bytes of frames (chapters 7, 8 and 11). -/

namespace Sys2Proof.Machine

/-! ### The catalog (R117) -/

/-- The severity a code fixes. -/
def FaultCode.severity : FaultCode → Severity
  | .tempWarn => .minor | .tempHigh => .major | .tempLimit => .critical | .vswrWarn => .major
  | .vswrTrip => .critical | .detStuck => .major | .floorShed => .major | .peerLost => .minor
  | .supvLost => .note | .trunkBusy => .minor | .trunkNoise => .minor | .idClash => .major
  | .cfgBad => .critical | .cfgClamped => .note | .priorTrip => .minor | .storeFail => .major

/-- The derating a code carries while an entry of it is ACTIVE (R85, R128). -/
def FaultCode.derating : FaultCode → Nat
  | .tempWarn => 4 | .tempHigh => 12 | .vswrWarn => 24
  | .tempLimit => 0 | .vswrTrip => 0 | .detStuck => 0 | .floorShed => 0 | .peerLost => 0
  | .supvLost => 0 | .trunkBusy => 0 | .trunkNoise => 0 | .idClash => 0 | .cfgBad => 0
  | .cfgClamped => 0 | .priorTrip => 0 | .storeFail => 0

/-- The ack-cleared codes. -/
def FaultCode.ackCleared : FaultCode → Bool
  | .cfgBad => true | .cfgClamped => true | .priorTrip => true | .storeFail => true
  | .tempWarn => false | .tempHigh => false | .tempLimit => false | .vswrWarn => false
  | .vswrTrip => false | .detStuck => false | .floorShed => false | .peerLost => false
  | .supvLost => false | .trunkBusy => false | .trunkNoise => false | .idClash => false

/-- The two codes that bring DOWN and a crash write (R86, R129, R135). -/
def FaultCode.trips : FaultCode → Bool
  | .tempLimit => true | .vswrTrip => true
  | .tempWarn => false | .tempHigh => false | .vswrWarn => false | .detStuck => false
  | .floorShed => false | .peerLost => false | .supvLost => false | .trunkBusy => false
  | .trunkNoise => false | .idClash => false | .cfgBad => false | .cfgClamped => false
  | .priorTrip => false | .storeFail => false

/-- The severity is MAJOR or CRITICAL (introduction, section 4.9). -/
def Severity.serious (s : Severity) : Bool := decide (Severity.major.number ≤ s.number)

/-! ### Entries (R115) -/

/-- The entry is ACTIVE. -/
def FaultEntry.active (e : FaultEntry) : Bool :=
  match e.state with
  | .activeUnacked => true
  | .activeAcked => true
  | .clearedUnacked => false

/-- The entry holds the ALARM line (R130). -/
def FaultEntry.alarms (e : FaultEntry) : Bool := e.state == .activeUnacked && e.code.severity.serious

/-- The entry's code and subject, by which it is identified (R114). -/
def FaultEntry.key (e : FaultEntry) : FaultCode × Nat := (e.code, e.subject)

/-! ### The table as a whole -/

/-- The twenty-four positions. -/
abbrev FaultTable := Vector (Option FaultEntry) 24

/-- The entries of the table, in ascending position. -/
def entries (t : FaultTable) : List FaultEntry := t.toList.filterMap id

/-- The ACTIVE entries. -/
def activeEntries (t : FaultTable) : List FaultEntry := (entries t).filter FaultEntry.active

/-- The level that ALARM takes (R130). -/
def alarmLevel (t : FaultTable) : Bool := (entries t).any FaultEntry.alarms

/-- The derating level: the largest derating among the ACTIVE entries (R128). -/
def deratingLevel (t : FaultTable) : Nat := ((activeEntries t).map fun e => e.code.derating).foldr max 0

/-- The DOWN condition (R129). -/
def downCondition (t : FaultTable) : Bool := (activeEntries t).any fun e => e.code.trips

/-- The count of ACTIVE entries of one severity (R127). -/
def severityCount (t : FaultTable) (severity : Severity) : Nat :=
  (activeEntries t).countP fun e => e.code.severity == severity

/-- The fault level: the highest severity among the ACTIVE entries (R127). -/
def faultLevel (t : FaultTable) : Option Severity :=
  if 0 < severityCount t .critical then some .critical
  else if 0 < severityCount t .major then some .major
  else if 0 < severityCount t .minor then some .minor
  else if 0 < severityCount t .note then some .note
  else none

/-! ### Slots -/

/-- Some slot is ACTIVE (R97). -/
def anyActive (slots : Vector SlotState 8) : Bool := slots.toList.any SlotState.isActive

/-! ### Flag bytes (R199, R200) -/

/-- Byte 6 of a beacon: overflow, derated, down. -/
def State.beaconFlags (s : State) : Byte := flagByte [s.supervisor.overflow, decide (0 < s.alloc.derating), s.alloc.down]

/-- Byte 34 of a STATUS body: quiet, overflow, snapshot held, ALARM, crash write pending, deferred restart. -/
def State.statusFlags (s : State) : Byte :=
  flagByte [s.port.quiet, s.supervisor.overflow, s.supervisor.snapshot.isSome, s.supervisor.alarm,
    s.ctl.pendingWrite.isSome, s.ctl.deferredRestart]

end Sys2Proof.Machine
end

