-- ==== Sys2Proof/Machine/Nvm.lean ====
section
/-! DEFINITION. The crash region: how the store controller judges a request for a crash write or erase, and which bytes each step
writes (R190 to R194, R202). -/

namespace Sys2Proof.Machine

/-- An operation begins at its first step (R192, R194). -/
def StoreCtl.begin (c : StoreCtl) (operation : NvmOperation) : StoreCtl :=
  { c with operation := some ⟨operation, 0, c.clock⟩ }

/-- The region status is treated as holding a valid record when a write is judged (R190). -/
def RegionStatus.holdsRecord : RegionStatus → Bool
  | .foundValid => true | .written => true | .unknown => true
  | .empty => false | .foundTorn _ => false

/-- A crash write request is judged at the moment it arrives (R193). -/
def StoreCtl.requestWrite (c : StoreCtl) (record : CrashRecord) : StoreCtl :=
  match c.operation with
  | none => if c.region.holdsRecord then c else c.begin (.crashWrite 0 record)
  | some op =>
    match op.operation with
    | .crashErase _ _ => if c.pendingWrite.isSome then c else { c with pendingWrite := some record }
    | .configRead => c
    | .crashRead => c
    | .crashWrite _ _ => c

/-- A crash erase request is judged at its arrival (R194). In region EMPTY it is completed at once and nothing changes. -/
def StoreCtl.requestErase (c : StoreCtl) : StoreCtl :=
  match c.operation with
  | some _ => c
  | none =>
    if c.pendingWrite.isSome then c
    else match c.region with
      | .empty => c
      | .written => c
      | .foundValid => c.begin (.crashErase 0 false)
      | .foundTorn _ => c.begin (.crashErase 0 false)
      | .unknown => c.begin (.crashErase 0 false)

/-- The valid marker as an erase's step 1 leaves it: known from the crash read, or read from the marker byte first (R194). -/
def validKnown (region : RegionStatus) (marker : Byte) : Bool :=
  match region with
  | .foundValid => true
  | .foundTorn valid => valid
  | .unknown => validSet marker
  | .empty => false
  | .written => true

/-- The address and the bytes that the step of an operation writes (R192, R194, R202); none for the reads. -/
def NvmOperation.written (operation : NvmOperation) (region : RegionStatus) (marker : Byte) : Option (Nat × List Byte) :=
  match operation with
  | .configRead => none
  | .crashRead => none
  | .crashWrite step record =>
    match step with
    | 0 => some (regionAddress, [0xFE#8])
    | 1 => some (regionAddress + 1, bodyBytes record)
    | 2 => some (regionAddress, [0xFD#8])
  | .crashErase step _ =>
    match step with
    | 0 => some (regionAddress, [if validKnown region marker then 0xFC#8 else 0xFE#8])
    | 1 => some (regionAddress, [0xFE#8])
    | 2 => some (regionAddress, [0xFF#8])

/-- The store applies the write cycle of the present step of the operation in flight. -/
def State.applyCycle (s : State) : State :=
  match s.ctl.operation with
  | none => s
  | some op =>
    match op.operation.written s.ctl.region s.marker with
    | none => s
    | some (address, bytes) => s.setStore (s.store.writeBytes address bytes)

end Sys2Proof.Machine
end

