-- ==== Sys2Proof/Machine/FaultTable.lean ====
section
/-! DEFINITION. The fault supervisor: the table's transitions under raise, clear and acknowledgement, the full table, and one change
taken whole with its snapshot, requests and outputs (chapter 7). -/

namespace Sys2Proof.Machine

/-! ### Finding entries and positions -/

/-- The positions with their entries, ascending. -/
def positioned (t : FaultTable) : List (Fin 24 × FaultEntry) :=
  (List.finRange 24).filterMap fun i => t[i].map fun e => (i, e)

/-- The entry with this code and subject, with its position (R114). -/
def findEntry (t : FaultTable) (code : FaultCode) (subject : Nat) : Option (Fin 24 × FaultEntry) :=
  (positioned t).find? fun (_, e) => e.code == code && e.subject == subject

/-- The lowest-numbered empty position (R114). -/
def firstEmpty (t : FaultTable) : Option (Fin 24) := (List.finRange 24).find? fun i => t[i].isNone

/-- The candidate of lowest severity, then of the oldest epoch, then of the lowest position (R123, R124). `epoch` tells which stamp
of an entry is compared, as a number (R116). The list is in ascending position. -/
def evictee (epoch : FaultEntry → EpochCount) : List (Fin 24 × FaultEntry) → Option (Fin 24 × FaultEntry)
  | [] => none
  | (i, e) :: rest =>
    match evictee epoch rest with
    | none => some (i, e)
    | some (j, f) =>
      if f.code.severity.number < e.code.severity.number
          ∨ (f.code.severity.number = e.code.severity.number ∧ (epoch f).toNat < (epoch e).toNat) then some (j, f)
      else some (i, e)

/-! ### Raise (R118, R123, R124) -/

/-- A new entry (R118). -/
def newEntry (code : FaultCode) (subject : Nat) (stamp : EpochCount) : FaultEntry :=
  ⟨code, subject, .activeUnacked, stamp, stamp, 1, 3⟩

/-- A cleared entry returned by a raise (R118). -/
def FaultEntry.returned (e : FaultEntry) (stamp : EpochCount) : FaultEntry :=
  { e with state := .activeUnacked, lastEpoch := stamp, count := saturate 255 e.count, credit := 3 }

/-- What a raise does to the table: the table, whether the overflow flag is set by it, and whether an entry entered
ACTIVE-UNACKED. -/
structure Raised where
  table : FaultTable
  overflow : Bool
  entered : Bool

/-- A raise into a full table (R123, R124). -/
def raiseFull (t : FaultTable) (e : FaultEntry) : Raised :=
  match evictee FaultEntry.lastEpoch ((positioned t).filter fun (_, f) => f.state == .clearedUnacked) with
  | some (i, _) => ⟨t.set i (some e), false, true⟩
  | none =>
    match evictee FaultEntry.firstEpoch
        ((positioned t).filter fun (_, f) => f.active && decide (f.code.severity.number < e.code.severity.number)) with
    | some (i, _) => ⟨t.set i (some e), true, true⟩
    | none => ⟨t, true, false⟩

/-- A raise (R118). -/
def tableRaise (t : FaultTable) (code : FaultCode) (subject : Nat) (stamp : EpochCount) : Raised :=
  match findEntry t code subject with
  | some (i, e) =>
    match e.state with
    | .clearedUnacked => ⟨t.set i (some (e.returned stamp)), false, true⟩
    | .activeUnacked => ⟨t, false, false⟩
    | .activeAcked => ⟨t, false, false⟩
  | none =>
    match firstEmpty t with
    | some i => ⟨t.set i (some (newEntry code subject stamp)), false, true⟩
    | none => raiseFull t (newEntry code subject stamp)

/-! ### Clear (R119) and acknowledgement (R120, R121) -/

/-- What a clear makes of an entry; none when it is removed (R119). -/
def FaultEntry.cleared (e : FaultEntry) : Option FaultEntry :=
  match e.state with
  | .activeUnacked => some { e with state := .clearedUnacked, credit := 3 }
  | .activeAcked => none
  | .clearedUnacked => some e

/-- A clear (R119). -/
def tableClear (t : FaultTable) (code : FaultCode) (subject : Nat) : FaultTable :=
  match findEntry t code subject with
  | some (i, e) => t.set i e.cleared
  | none => t

/-- What an acknowledgement makes of an entry; none when it is removed (R120, R121). -/
def FaultEntry.acknowledged (e : FaultEntry) : Option FaultEntry :=
  match e.state with
  | .activeUnacked => if e.code.ackCleared then none else some { e with state := .activeAcked, credit := 3 }
  | .clearedUnacked => none
  | .activeAcked => some e

/-- The acknowledgement of one entry (R137). -/
def tableAck (t : FaultTable) (code : FaultCode) (subject : Nat) : FaultTable :=
  match findEntry t code subject with
  | some (i, e) => t.set i e.acknowledged
  | none => t

/-- The acknowledgement of every entry (R137). -/
def tableAckAll (t : FaultTable) : FaultTable := tab 24 fun i => (t[i]).bind FaultEntry.acknowledged

/-- How many PRIOR_TRIP entries `t` holds that `u` does not: each asks for a crash erase (R136). -/
def priorTripsRemoved (t u : FaultTable) : Nat :=
  (List.finRange 24).countP fun i =>
    match t[i] with
    | none => false
    | some e => e.code == .priorTrip && u[i].isNone

/-! ### One change taken whole (R126) -/

/-- The carried set after a change: the entries whose state is as it was (R151). -/
def keepCarried (before after : FaultTable) (carried : List (FaultCode × Nat)) : List (FaultCode × Nat) :=
  carried.filter fun (code, subject) =>
    match findEntry before code subject, findEntry after code subject with
    | some (_, e), some (_, f) => e.state == f.state
    | _, _ => false

/-- The snapshot that an entry entering ACTIVE-UNACKED captures (R131, R132). -/
def State.takeSnapshot (s : State) (code : FaultCode) (subject : Nat) (stamp : EpochCount) : Snapshot where
  code := code
  subject := subject
  epoch := stamp
  node := s.ctl.node
  beff := s.alloc.beff
  slots := s.alloc.slots
  operators := match s.spread.records with
    | none => []
    | some r => r.operators.map fun o => (o.operator, o.load, o.offset)
  liveAdjacent := s.view.countAdjacent .live
  lostAdjacent := s.view.countAdjacent .lost
  lastTemp := s.scanner.lastTemp

/-- The record of a crash write request (R135). -/
def State.crashRecord (s : State) (code : FaultCode) (subject : Nat) (stamp : EpochCount) : CrashRecord where
  code := code
  subject := subject
  cause := s.ctl.cause
  stamp := stamp
  applied := tab 8 fun i => (s.alloc.slots[i]).applied
  beff := s.alloc.beff
  lastTemp := s.scanner.lastTemp

/-- Step 2 of a change: a snapshot is captured, or the faults-since-snapshot count rises (R131, R133). -/
def State.serious (s : State) (code : FaultCode) (subject : Nat) (stamp : EpochCount) : State :=
  if code.severity.serious then
    match s.supervisor.snapshot with
    | none => s.setSupervisor
        { s.supervisor with snapshot := some (s.takeSnapshot code subject stamp), sinceSnapshot := 0 }
    | some _ => s.setSupervisor { s.supervisor with sinceSnapshot := saturate 255 s.supervisor.sinceSnapshot }
  else s

/-- Step 3 of a change for an entry that entered ACTIVE-UNACKED: a trip asks for a crash write (R135). -/
def State.tripped (s : State) (code : FaultCode) (subject : Nat) (stamp : EpochCount) : State :=
  if code.trips then s.setCtl (s.ctl.requestWrite (s.crashRecord code subject stamp)) else s

/-- A derating level is handed to the allocation unit (R85, R128). -/
def State.handDerating (s : State) (level : Nat) : State :=
  if level = s.alloc.derating then s
  else if s.inRun then
    let beff := s.cfg.budget - level
    s.setAlloc { s.alloc with
      derating := level
      beff := some beff
      recomputeDue := s.alloc.recomputeDue || s.alloc.beff != some beff }
  else s.setAlloc { s.alloc with derating := level }

/-- The DOWN condition is handed to the allocation unit where it has begun or ended (R86, R129). -/
def State.handDown (s : State) (down : Bool) : State :=
  if down = s.alloc.down then s
  else s.setAlloc { s.alloc with down := down, recomputeDue := s.alloc.recomputeDue || s.inRun }

/-- Step 4 of a change: the outputs of the table, the derating level before DOWN (R126 to R130). -/
def State.handOutputs (s : State) : State :=
  let t := s.supervisor.table
  ((s.setSupervisor { s.supervisor with alarm := alarmLevel t }).handDerating (deratingLevel t)).handDown (downCondition t)

/-- The table takes `t`, and every carried entry whose state changed leaves the carried set (step 1 of R126, R151). -/
def State.setTable (s : State) (t : FaultTable) : State :=
  (s.setComposer { s.composer with carried := keepCarried s.supervisor.table t s.composer.carried }).setSupervisor
    { s.supervisor with table := t }

/-- A raise as one change (R118, R126). The recompute that it asks for is left to `settle`. -/
def State.raiseOnly (s : State) (code : FaultCode) (subject : Nat) : State :=
  let r := tableRaise s.supervisor.table code subject s.stamp
  let s1 := s.setTable r.table
  let s2 := s1.setSupervisor { s1.supervisor with overflow := s1.supervisor.overflow || r.overflow }
  let s3 := if r.entered then (s2.serious code subject s.stamp).tripped code subject s.stamp else s2
  s3.handOutputs

/-- A clear as one change (R119, R126). -/
def State.clearOnly (s : State) (code : FaultCode) (subject : Nat) : State :=
  (s.setTable (tableClear s.supervisor.table code subject)).handOutputs

/-- `n` crash erase requests (R136). -/
def StoreCtl.requestErases (c : StoreCtl) : Nat → StoreCtl
  | 0 => c
  | n + 1 => c.requestErase.requestErases n

/-- Step 3 of a change that turned `before` into the present table by acknowledgement (R136). -/
def State.erasesFor (s : State) (before : FaultTable) : State :=
  s.setCtl (s.ctl.requestErases (priorTripsRemoved before s.supervisor.table))

/-- FAULT-ACK of one entry as one change (R137). A number outside the catalog names no entry. -/
def State.ackOneOnly (s : State) (codeNumber subject : Nat) : State :=
  match FaultCode.ofNumber codeNumber with
  | none => s
  | some code =>
    ((s.setTable (tableAck s.supervisor.table code subject)).erasesFor s.supervisor.table).handOutputs

/-- FAULT-ACK of every entry as one change, with the releases of ALL (R134, R137). -/
def State.ackAllOnly (s : State) : State :=
  let s1 := (s.setTable (tableAckAll s.supervisor.table)).erasesFor s.supervisor.table
  (s1.setSupervisor { s1.supervisor with snapshot := none, sinceSnapshot := 0, overflow := false }).handOutputs

/-! ### Credits (R152, R154) -/

/-- A clean beacon spends one credit of each entry still carried (R152). -/
def spendCredits (t : FaultTable) (carried : List (FaultCode × Nat)) : FaultTable :=
  tab 24 fun i => (t[i]).map fun e => if carried.contains e.key then { e with credit := e.credit - 1 } else e

/-- The re-credit of standing serious faults (R154). -/
def renewCredits (t : FaultTable) : FaultTable :=
  tab 24 fun i => (t[i]).map fun e => if e.alarms then { e with credit := max e.credit 1 } else e

/-- The re-credit is applied where it is due (R154). -/
def State.settleReCredit (s : State) : State :=
  if s.supervisor.reCreditDue then
    s.setSupervisor { s.supervisor with table := renewCredits s.supervisor.table, reCreditDue := false }
  else s

/-- One epoch expiry on the report re-credit timer (R154). -/
def State.countReCredit (s : State) : State :=
  let s1 := s.settleReCredit
  if s1.supervisor.reCreditCount = 63 then
    s1.setSupervisor { s1.supervisor with reCreditCount := 0, reCreditDue := true }
  else s1.setSupervisor { s1.supervisor with reCreditCount := s1.supervisor.reCreditCount + 1 }

end Sys2Proof.Machine
end

