-- ==== Sys2Proof/Machine/FrontEnd.lean ====
section
/-! DEFINITION. The front-end writer: drive values, the dirty set, the order of writes and the PA enable line (chapter 6). -/

namespace Sys2Proof.Machine

/-- The calibration offset of a band (R101). -/
def Image.bandOffset (image : Image) (band : Nat) : Int := image.bandOffsets.toList.getD band 0

/-- The drive value of a slot's output: the mute word, or the applied code with the offset of the slot's band, clamped to 0..143
(R101). -/
def driveOf (image : Image) (slot : Fin 8) (output : Option Nat) : Drive :=
  match output with
  | none => .mute
  | some applied =>
    let band := match image.slots[slot] with
      | some config => config.band
      | none => 0
    .code (clampInt 0 143 (applied + image.bandOffset band)).toNat

/-- The rank of a drive value: the mute word below every code (R103). -/
def Drive.rank : Drive → Nat
  | .mute => 0
  | .code c => c + 1

/-- The value is a decrease against the held value, none when that is unknown (R103). -/
def isDecrease (held : Option Drive) (value : Drive) : Bool :=
  match held with
  | none => value == .mute
  | some h => decide (value.rank < h.rank)

/-- The slot waits with a decrease; a forced mute counts as one (R103, R110). -/
def Writer.waitsDecrease (w : Writer) (slot : Fin 8) : Bool :=
  match w.dirty[slot] with
  | none => false
  | some p => p.forced || isDecrease w.held[slot] p.value

/-- Some decrease is pending in the dirty set. -/
def Writer.decreasePending (w : Writer) : Bool := (List.finRange 8).any w.waitsDecrease

/-- The slot whose write is started next: the lowest decrease, or else the lowest increase (R105). -/
def Writer.choice (w : Writer) : Option (Fin 8) :=
  match (List.finRange 8).find? w.waitsDecrease with
  | some slot => some slot
  | none => (List.finRange 8).find? fun slot => w.dirty[slot].isSome

/-- The write of a slot is started with the value pending at that moment (R102, R105). -/
def Writer.start (w : Writer) (slot : Fin 8) : Writer :=
  match w.dirty[slot] with
  | none => w
  | some p =>
    { w with
      inFlight := some ⟨slot, p.value, w.waitsDecrease slot⟩
      held := w.held.set slot (some p.value)
      dirty := w.dirty.set slot none }

/-- A write is started where none is in flight and the set holds a slot (R102, R105). -/
def Writer.startNext (w : Writer) : Writer :=
  match w.inFlight with
  | some _ => w
  | none =>
    match w.choice with
    | none => w
    | some slot => w.start slot

/-- No write in flight carries a decrease. -/
def Writer.flightAllows (w : Writer) : Bool :=
  match w.inFlight with
  | none => true
  | some f => !f.decrease

/-- The PA enable line is asserted at the first moment the rule allows it (R109). -/
def Writer.assertPa (w : Writer) : Writer :=
  { w with paEnable := w.paEnable || (w.indicator && !w.decreasePending && w.flightAllows) }

/-- One output change enters the dirty set, or leaves it (R104, R106). -/
def Writer.accept (w : Writer) (slot : Fin 8) (value : Drive) : Writer :=
  if w.held[slot] = some value then { w with dirty := w.dirty.set slot none }
  else { w with dirty := w.dirty.set slot (some ⟨value, false⟩) }

/-- The changes of one hand-over, in the order handed (R104). -/
def Writer.acceptAll (w : Writer) (image : Image) : List (Fin 8 × Option Nat) → Writer
  | [] => w
  | (slot, output) :: rest => Writer.acceptAll (w.accept slot (driveOf image slot output)) image rest

/-- The indicator of a hand-over: none ACTIVE drops the PA enable line at once (R107). -/
def Writer.indicate (w : Writer) (someActive : Bool) : Writer :=
  { w with indicator := someActive, paEnable := w.paEnable && someActive }

/-- A hand-over of changed outputs (R97, R104, R105, R107, R109). Where nothing changed, nothing is handed. -/
def Writer.handOver (w : Writer) (image : Image) (changes : List (Fin 8 × Option Nat)) (someActive : Bool) : Writer :=
  match changes with
  | [] => w
  | _ :: _ => (((w.indicate someActive).acceptAll image changes).assertPa).startNext

/-- The write in flight completes: the transceiver takes its word, the line is asserted where the rule allows it, and the next write
starts (R102, R105, R109, R203). -/
def Writer.complete (w : Writer) : Writer :=
  match w.inFlight with
  | none => w
  | some f =>
    (Writer.assertPa { w with
      inFlight := none
      transceiver := w.transceiver.set f.slot (some (driveWord f.slot f.value)) }).startNext

/-- The eight forced mutes of LOAD entry (R110). `keepFlight` is true for a RESTART, where a write in flight completes and the held
values stay; at power-on and pin reset every held value becomes unknown and no write is in flight. -/
def Writer.forceMutes (w : Writer) (keepFlight : Bool) : Writer :=
  Writer.startNext { w with
    held := if keepFlight then w.held else Vector.replicate 8 none
    inFlight := if keepFlight then w.inFlight else none
    dirty := Vector.replicate 8 (some ⟨.mute, true⟩)
    indicator := false
    paEnable := false }

/-- The outputs that differ between two sets of slot states, in ascending slot order (R97). -/
def changedOutputs (before after : Vector SlotState 8) : List (Fin 8 × Option Nat) :=
  (List.finRange 8).filterMap fun i =>
    if (before[i]).applied = (after[i]).applied then none else some (i, (after[i]).applied)

/-- The outputs that changed since `before` are handed to the writer (R97). -/
def State.handOutputChanges (s : State) (before : Vector SlotState 8) : State :=
  s.setWriter (s.writer.handOver s.cfg (changedOutputs before s.alloc.slots) (anyActive s.alloc.slots))

end Sys2Proof.Machine
end

