-- ==== Sys2Proof/Machine/Allocation.lean ====
section
/-! DEFINITION. The allocation unit: linear power, admission of floors, targets fitted to the budget, applied codes, constrained
flags, the recompute and the ramp (chapter 5). -/

namespace Sys2Proof.Machine

/-! ### Linear power (R91) -/

/-- The mantissa table M (introduction, section 4.3). -/
def mantissas : List Nat := [1024, 1085, 1149, 1218, 1290, 1367, 1448, 1534, 1625, 1722, 1825, 1933]

/-- The linear power of a power code. -/
def lin (p : Nat) : Nat := mantissas.getD (p % 12) 0 * 2 ^ (p / 12)

/-- The sum of the linear powers of codes. -/
def linSum (codes : List Nat) : Nat := (codes.map lin).sum

/-! ### States and admission (R81, R88) -/

/-- What a recompute decides for a slot. -/
inductive Verdict where
  | idle | down | muted | shed | active
  deriving DecidableEq, Repr

/-- The verdicts of the slots, in ascending slot order. `room` is lin(B_eff); `sum` is the sum of the floors taken so far. -/
def verdicts (room : Nat) (down : Bool) : (sum : Nat) → List (Option SlotConfig × Bool) → List Verdict
  | _, [] => []
  | sum, (none, _) :: rest => .idle :: verdicts room down sum rest
  | sum, (some config, muted) :: rest =>
    if down then .down :: verdicts room down sum rest
    else if muted then .muted :: verdicts room down sum rest
    else if sum + lin config.floor ≤ room then .active :: verdicts room down (sum + lin config.floor) rest
    else .shed :: verdicts room down sum rest

/-! ### Targets (R90, R92) -/

/-- The offset held for an operator, 0 where no set has named it (R90). -/
def heldOffset (offsets : List (Nat × Int)) (operator : Nat) : Int :=
  match offsets.find? fun (k, _) => k == operator with
  | some (_, offset) => offset
  | none => 0

/-- The offsets of a set replace those held for the operators it names (R90). -/
def replaceOffsets (held set : List (Nat × Int)) : List (Nat × Int) :=
  set ++ held.filter fun (k, _) => !(set.map Prod.fst).contains k

/-- The raw target of a slot (R90). -/
def rawTarget (config : SlotConfig) (offset : Int) : Nat :=
  (min (config.ceiling : Int) (max (config.floor : Int) (config.request + offset))).toNat

/-- The raw target was clamped at the ceiling: the sum exceeds it (R90). -/
def clampedAtCeiling (config : SlotConfig) (offset : Int) : Bool := decide ((config.ceiling : Int) < config.request + offset)

/-- A slot's term under a reduction by `r`: max(f, t - r) for its floor and raw target (R92). -/
def reduced (r : Nat) (floorAndRaw : Nat × Nat) : Nat := max floorAndRaw.1 (floorAndRaw.2 - r)

/-- The reduction found by counting up from `r` for at most `fuel` steps: the first for which the terms fit in `room` (R92). -/
def findReduction (room : Nat) (slots : List (Nat × Nat)) : (fuel r : Nat) → Nat
  | 0, r => r
  | fuel + 1, r => if linSum (slots.map (reduced r)) ≤ room then r else findReduction room slots fuel (r + 1)

/-- The reduction of the fit: 0 where the raw targets fit, else the smallest of 1 to 143 that does (R92). -/
def fitReduction (room : Nat) (slots : List (Nat × Nat)) : Nat := findReduction room slots 143 0

/-! ### Applied codes (R93) -/

/-- The applied code of an ACTIVE slot with this target: its floor where it is newly ACTIVE, else the lesser of the code it has and
its target. -/
def appliedCode (before : SlotState) (floor target : Nat) : Nat :=
  match before with
  | .active _ applied => min applied target
  | .idle => floor
  | .down => floor
  | .muted => floor
  | .shed => floor

/-- The new state of a slot by its verdict. -/
def newSlot (before : SlotState) (verdict : Verdict) (config : Option SlotConfig) (target : SlotConfig → Nat) : SlotState :=
  match verdict, config with
  | .active, some c => .active (target c) (appliedCode before c.floor (target c))
  | .active, none => .idle
  | .idle, _ => .idle
  | .down, _ => .down
  | .muted, _ => .muted
  | .shed, _ => .shed

/-! ### The recompute (R84) -/

/-- The results of one recompute before they are handed on. -/
structure Recomputed where
  slots : Vector SlotState 8
  flags : List (Nat × Bool)

/-- The operators among the present slots, in the order of the slots. -/
def Image.operatorIds (image : Image) : List Nat := (image.slots.toList.filterMap id).map SlotConfig.operator

/-- The distinct operators among the present slots, in ascending id (R58). -/
def Image.operators (image : Image) : List Nat := (List.range 16).filter fun k => image.operatorIds.contains k

/-- Steps 1 to 6 of a recompute (R84) from the inputs as they stand. -/
def recomputed (image : Image) (a : Alloc) : Recomputed :=
  let room := lin (a.beff.getD 0)
  let verdict := verdicts room a.down 0 (image.slots.toList.zip a.mute.toList)
  let present : List (Verdict × SlotConfig) :=
    (verdict.zip image.slots.toList).filterMap fun (v, config) => config.map fun c => (v, c)
  let active := (present.filter fun (v, _) => v == .active).map Prod.snd
  let raw (c : SlotConfig) : Nat := rawTarget c (heldOffset a.offsets c.operator)
  let r := fitReduction room (active.map fun c => (c.floor, raw c))
  let target (c : SlotConfig) : Nat := reduced r (c.floor, raw c)
  let constrained (v : Verdict) (c : SlotConfig) : Bool :=
    v != .active || decide (target c < raw c) || clampedAtCeiling c (heldOffset a.offsets c.operator)
  { slots := tab 8 fun i => newSlot a.slots[i] (verdict.getD i.val .idle) image.slots[i] target
    flags := image.operators.map fun k => (k, present.any fun (v, c) => c.operator == k && constrained v c) }

/-- The flag handed for an operator; an operator that none is handed for keeps its mirror (R75). -/
def mirror (flags : List (Nat × Bool)) (o : OperatorRecord) : OperatorRecord :=
  match flags.find? fun (k, _) => k == o.operator with
  | some (_, flag) => { o with constrained := flag }
  | none => o

/-- The flags are handed to the spreading controller (R75, R96). -/
def Spread.takeFlags (p : Spread) (flags : List (Nat × Bool)) : Spread :=
  { p with records := p.records.map fun r => { r with operators := r.operators.map (mirror flags) } }

/-- What a recompute raises or clears for one slot: FLOOR_SHED is raised where the slot entered SHED and cleared where it is admitted
with its mark standing (R89). -/
def State.floorShed (s : State) (before : Vector SlotState 8) (slot : Fin 8) : State :=
  let now := s.alloc.slots[slot]
  if now == .shed && before[slot] != .shed then
    (s.setAlloc { s.alloc with shedMarks := s.alloc.shedMarks.set slot true }).raiseOnly .floorShed slot.val
  else if now.isActive && s.alloc.shedMarks[slot] then
    (s.setAlloc { s.alloc with shedMarks := s.alloc.shedMarks.set slot false }).clearOnly .floorShed slot.val
  else s

/-- The raises and clears of a recompute, in ascending slot order, all of them before a recompute that one of them asks for by evicting
TEMP_WARN: R89 and R126 leave that order open, and the choice is the model's (assumption 10). -/
def State.floorsShed (s : State) (before : Vector SlotState 8) : List (Fin 8) → State
  | [] => s
  | slot :: rest => (s.floorShed before slot).floorsShed before rest

/-- The steps of a recompute up to its hand-overs: states, targets, applied codes, flags, and the changed outputs (R84). -/
def State.reallocate (s : State) : State :=
  let r := recomputed s.cfg s.alloc
  let s1 := s.setAlloc { s.alloc with slots := r.slots, flags := r.flags, recomputeDue := false }
  (s1.setSpread (s1.spread.takeFlags r.flags)).handOutputChanges s.alloc.slots

/-- One recompute (R84), with its raises and clears of FLOOR_SHED after its last step (assumption 10). -/
def State.recompute (s : State) : State := s.reallocate.floorsShed s.alloc.slots (List.finRange 8)

/-- The recomputes that hand-overs have asked for. The FLOOR_SHED raises of a recompute can evict one entry that derates, TEMP_WARN,
and so ask for one more (R124, R125); `fuel` bounds how often this is followed, and no run comes to its end. -/
def State.settleFuel : (fuel : Nat) → State → State
  | 0, s => if s.alloc.recomputeDue then s.reallocate else s
  | fuel + 1, s => if s.alloc.recomputeDue then State.settleFuel fuel s.recompute else s

/-- The recomputes asked for are taken, after the change that caused them (R126; assumption 9). -/
def State.settle (s : State) : State := State.settleFuel 4 s

/-- A trigger of R83 that asks for a recompute in RUN whatever has changed. -/
def State.recomputeNow (s : State) : State := (s.setAlloc { s.alloc with recomputeDue := s.inRun }).settle

/-- A raise by an owner: the change, and then the recomputes it asks for (R118, R126). -/
def State.raise (s : State) (code : FaultCode) (subject : Nat) : State := (s.raiseOnly code subject).settle

/-- A clear by an owner (R119, R126). -/
def State.clear (s : State) (code : FaultCode) (subject : Nat) : State := (s.clearOnly code subject).settle

/-- Several raises of one code, one for each subject in order. -/
def State.raiseEach (s : State) (code : FaultCode) : List Nat → State
  | [] => s
  | subject :: rest => (s.raise code subject).raiseEach code rest

/-! ### Offset sets, mute flags and the ramp -/

/-- An offset set is handed to the unit, and the recompute follows at once (R74, R83, R90). -/
def State.handOffsets (s : State) (set : List (Nat × Int)) : State :=
  (s.setAlloc { s.alloc with offsets := replaceOffsets s.alloc.offsets set }).recomputeNow

/-- A mute flag under a CARRIER-MASK that names its slot (R87). -/
def MaskForm.apply : MaskForm → Bool → Bool
  | .mute, _ => true
  | .unmute, _ => false
  | .flip, flag => !flag

/-- The mute flags after a CARRIER-MASK: the named slots that are present change, the others do not (R87). -/
def maskFlags (image : Image) (form : MaskForm) (named : Byte) (flags : Vector Bool 8) : Vector Bool 8 :=
  tab 8 fun i => if named.getLsbD i.val && image.slots[i].isSome then form.apply flags[i] else flags[i]

/-- An accepted CARRIER-MASK, with the recompute that follows it at once (R87, R167). -/
def State.maskCarriers (s : State) (form : MaskForm) (named : Byte) : State :=
  (s.setAlloc { s.alloc with mute := maskFlags s.cfg form named s.alloc.mute }).recomputeNow

/-- A slot at a ramp tick: an ACTIVE slot below its target rises by 1 (R94). -/
def SlotState.rise : SlotState → SlotState
  | .active target applied => .active target (if applied < target then applied + 1 else applied)
  | .idle => .idle
  | .down => .down
  | .muted => .muted
  | .shed => .shed

/-- Every slot at a ramp tick (R94). -/
def riseAll (slots : Vector SlotState 8) : Vector SlotState 8 := tab 8 fun i => (slots[i]).rise

/-- The ramp tick period (R94). -/
def State.rampPeriod (s : State) : Nat := s.cfg.period / 8

/-- A ramp tick: the moment comes, the slots rise, the rises are handed on, and the timer runs on from the tick's moment (R94). -/
def State.rampTick (s : State) : State :=
  match s.alloc.ramp with
  | none => s
  | some since =>
    let s1 := s.advanceTo since s.rampPeriod
    let s2 := s1.setAlloc { s1.alloc with
      slots := riseAll s1.alloc.slots
      ramp := some (since + BitVec.ofNat 32 s.rampPeriod) }
    s2.handOutputChanges s1.alloc.slots

end Sys2Proof.Machine
end

