-- ==== Sys2Proof/Machine/CarrierCommands.lean ====
section
/-! DEFINITION. The commands of the ramp timer and of the front-end line (chapters 5 and 6). -/

namespace Sys2Proof.Machine

/-- RAMP_TICK (R94). -/
def execRampTick (s : State) : Result := .next s.rampTick

/-- The write in flight completes at the writer (R102). -/
def State.writeEnds (s : State) : State := s.setWriter s.writer.complete

/-- WRITE_COMPLETE (R102, R105, R109). -/
def execWriteComplete (s : State) : Result := .next s.writeEnds

end Sys2Proof.Machine
end

