-- ==== Sys2Proof/Machine/Spreading.lean ====
section
/-! DEFINITION. The spreading controller: slot and operator loads, neighbour averages, offset steps and limits, and the epoch close
(chapter 4). -/

namespace Sys2Proof.Machine

/-! ### Loads (R60, R61) -/

/-- The smoothed load after an item of the occupancy set; none holds it (R60). -/
def smooth (load : Nat) : Option Nat → Nat
  | some occupancy => (3 * load + occupancy + 2) / 4
  | none => load

/-- The largest load among the present slots of an operator (R61). -/
def operatorLoad (image : Image) (loads : Vector Nat 8) (operator : Nat) : Nat :=
  (List.finRange 8).foldr
    (fun i most => match image.slots[i] with
      | some config => if config.operator = operator then max loads[i] most else most
      | none => most) 0

/-! ### Neighbour average (R62 to R64) -/

/-- What an adjacent entry contributes for an operator: its load and whether it is constrained (R62, R63). -/
structure Contribution where
  load : Nat
  constrained : Bool
  deriving DecidableEq, Repr

/-- A fault level of MAJOR or CRITICAL constrains a contributor for every operator (R63). -/
def levelConstrains : Option Severity → Bool
  | none => false
  | some severity => severity.serious

/-- The contribution of a heard entry: its record for the operator, if it announced one (R62, R63). -/
def heardContribution (h : Heard) (operator : Nat) : Option Contribution :=
  (h.operators.find? fun o => o.operator == operator).map fun o => ⟨o.load, o.constrained || levelConstrains h.level⟩

/-- The contribution of an adjacent position for an operator (R62). -/
def contribution (operator : Nat) : Option Neighbour → Option Contribution
  | none => none
  | some n =>
    match n.state with
    | .lost => some ⟨1000, true⟩
    | .absent => none
    | .live => n.heard.bind fun h => heardContribution h operator
    | .suspect => n.heard.bind fun h => heardContribution h operator

/-- The contributors of an operator, from the adjacent positions (R62). -/
def contributors (view : View) (operator : Nat) : List Contribution := view.adjacent.filterMap (contribution operator)

/-- The neighbour average, none without contributors (R64). -/
def average (cs : List Contribution) : Option Nat :=
  if cs.isEmpty then none else some ((cs.map Contribution.load).sum / cs.length)

/-! ### Steps (R65 to R70) -/

/-- The dead band d of a mode; OFF has none and is not judged by it (R65). -/
def modeBand (mode : SpreadMode) (deadBand : Nat) : Nat :=
  match mode with
  | .off => 0
  | .gentle => 2 * deadBand
  | .normal => deadBand
  | .surge => deadBand / 2

/-- The step of a mode, by whether |diff| is above 4d (R65). -/
def modeStep (mode : SpreadMode) (large : Bool) : Int :=
  match mode, large with
  | .off, _ => 1
  | .gentle, _ => 1
  | .normal, false => 1
  | .normal, true => 2
  | .surge, false => 2
  | .surge, true => 3

/-- Offsets step at the close of epoch `n`: in GENTLE only where n is even (R65, R67). -/
def stepsAt (mode : SpreadMode) (n : EpochCount) : Bool :=
  match mode with
  | .gentle => n.toNat % 2 == 0
  | .off => true
  | .normal => true
  | .surge => true

/-- One step toward 0 (R70). -/
def towardZero (offset : Int) : Int :=
  if 0 < offset then offset - 1 else if offset < 0 then offset + 1 else offset

/-- The move of an offset by its difference (R68, R69). -/
def stepByDifference (mode : SpreadMode) (deadBand : Nat) (load : Nat) (cs : List Contribution) (a : Nat) (offset : Int) : Int :=
  let d : Int := modeBand mode deadBand
  let diff : Int := (load : Int) - a
  let step := modeStep mode (decide (4 * d < |diff|))
  if |diff| ≤ d then offset
  else if diff < 0 then offset + step
  else if cs.all Contribution.constrained then offset
  else offset - step

/-- Stage 4 for one operator at a close at which offsets step (R68, R70). -/
def stepOffset (mode : SpreadMode) (deadBand : Nat) (load : Nat) (cs : List Contribution) (offset : Int) : Int :=
  match mode, average cs with
  | .off, _ => towardZero offset
  | _, none => towardZero offset
  | _, some a => stepByDifference mode deadBand load cs a offset

/-! ### Limits (R71 to R73) -/

/-- Smax_eff (R71). -/
def smaxEffOf (image : Image) (mode : SpreadMode) (lostCount : Nat) : Int :=
  if 1 ≤ lostCount ∧ mode ≠ .off then (image.smax : Int) + image.fill else image.smax

/-- The offset set: each operator with its offset (R74). -/
def offsetSet (r : SpreadRun) : List (Nat × Int) := r.operators.map fun o => (o.operator, o.offset)

/-- An operator record at a close (stages 2 to 5 of R59). -/
def closeOperator (image : Image) (view : View) (mode : SpreadMode) (n : EpochCount) (smaxEff : Int) (loads : Vector Nat 8)
    (o : OperatorRecord) : OperatorRecord :=
  let load := operatorLoad image loads o.operator
  let moved := if stepsAt mode n then
      stepOffset mode image.deadBand load (contributors view o.operator) o.offset
    else o.offset
  { o with load := load, offset := clampInt image.smin smaxEff moved }

/-- The five stages of an epoch close of epoch `n` on the records (R59). -/
def closeRecords (image : Image) (view : View) (lostCount : Nat) (n : EpochCount) (occupancy : Fin 8 → Option Nat)
    (r : SpreadRun) : SpreadRun :=
  let mode := r.pendingMode
  let loads := tab 8 fun i => smooth r.loads[i] (occupancy i)
  let smaxEff := smaxEffOf image mode lostCount
  { r with
    loads := loads
    current := mode
    smaxEff := smaxEff
    operators := r.operators.map (closeOperator image view mode n smaxEff loads) }

/-- The epoch close of the controller, with its hand-over to the allocation unit (R59, R74). -/
def State.spreadClose (s : State) (occupancy : Fin 8 → Option Nat) : State :=
  match s.spread.records with
  | none => s
  | some r =>
    let r' := closeRecords s.cfg s.view s.spread.lostCount s.ctl.epoch occupancy r
    (s.setSpread { s.spread with records := some r' }).handOffsets (offsetSet r')

/-- An operator record whose offset stands above the limit is lowered to it (R73). -/
def lowerTo (limit : Int) (o : OperatorRecord) : OperatorRecord := { o with offset := min o.offset limit }

/-- The LOST count of the view is handed to the controller: Smax_eff follows it, and where that lowers an offset the set is handed on
at once (R36, R71, R73). -/
def State.handLostCount (s : State) : State :=
  let count := s.view.countAdjacent .lost
  match s.spread.records with
  | none => s.setSpread { s.spread with lostCount := count }
  | some r =>
    let limit := smaxEffOf s.cfg r.current count
    let r' := { r with smaxEff := limit, operators := r.operators.map (lowerTo limit) }
    let s1 := s.setSpread { records := some r', lostCount := count }
    if r.operators.any fun o => decide (limit < o.offset) then s1.handOffsets (offsetSet r') else s1

/-- The records built at RUN entry (R58, R78). -/
def newRecords (image : Image) (lostCount : Nat) : SpreadRun where
  loads := Vector.replicate 8 0
  operators := image.operators.map fun k => ⟨k, 0, 0, false⟩
  current := image.startMode
  pendingMode := image.startMode
  smaxEff := smaxEffOf image image.startMode lostCount

/-- An accepted SPREAD-MODE sets the pending mode (R66, R168). -/
def State.setPendingMode (s : State) (mode : SpreadMode) : State :=
  s.setSpread { s.spread with records := s.spread.records.map fun r => { r with pendingMode := mode } }

end Sys2Proof.Machine
end

