-- ==== Sys2Proof/Machine/Scanning.lean ====
section
/-! DEFINITION. The measurement scanner: the scan list, conversions, the stuck watch, occupancy windows, the amplifier's match and its
temperature (chapter 3). -/

namespace Sys2Proof.Machine

/-! ### Channels and the scan list (R41, R43) -/

/-- The forward channel. -/
def channelFwd : Fin 11 := 8
/-- The reflected channel. -/
def channelRfl : Fin 11 := 9
/-- The temperature channel. -/
def channelTemp : Fin 11 := 10

/-- The U channel of a slot. -/
def channelOf (slot : Fin 8) : Fin 11 := ⟨slot.val, by omega⟩

/-- The slot of a U channel, none for the other three channels. -/
def slotOf (channel : Fin 11) : Option (Fin 8) := if h : channel.val < 8 then some ⟨channel.val, h⟩ else none

/-- The U entries with a FWD and RFL pair after every fourth, and one after the last unless a pair already follows it. `since` counts
the U entries since the last pair. -/
def withPairs : (since : Nat) → List (Fin 11) → List (Fin 11)
  | 0, [] => []
  | _ + 1, [] => [channelFwd, channelRfl]
  | since, u :: rest =>
    if since = 3 then u :: channelFwd :: channelRfl :: withPairs 0 rest else u :: withPairs (since + 1) rest

/-- The U channels of the present slots, ascending. -/
def uplinkChannels (image : Image) : List (Fin 11) :=
  ((List.finRange 8).filter fun i => image.slots[i].isSome).map channelOf

/-- The scan list of an image (R43). -/
def scanListOf (image : Image) : List (Fin 11) :=
  match uplinkChannels image with
  | [] => [channelFwd, channelRfl, channelTemp]
  | u :: rest => withPairs 0 (u :: rest) ++ [channelTemp]

/-- The entry whose conversion is started after that of entry `i` (R44). -/
def nextEntry (scanList : List (Fin 11)) (i : Nat) : Nat := if i + 1 < scanList.length then i + 1 else 0

/-! ### The stuck watch (R46, R47) -/

/-- A result of 0 or 1023. -/
def isRail (code : DetectorCode) : Bool := code == 0#10 || code == 1023#10

/-- The runs after a result; the mark is not judged here (R46). -/
def StuckWatch.count (w : StuckWatch) (code : DetectorCode) : StuckWatch :=
  if isRail code then { w with railRun := saturate 64 w.railRun, inRangeRun := 0 }
  else { w with railRun := 0, inRangeRun := saturate 64 w.inRangeRun }

/-- The runs ask for DET_STUCK to be raised (R46). -/
def StuckWatch.raises (w : StuckWatch) : Bool := w.railRun == 64 && !w.standing

/-- The runs ask for DET_STUCK to be cleared (R46). -/
def StuckWatch.clears (w : StuckWatch) : Bool := w.inRangeRun == 64 && w.standing

/-- The stuck watch of a channel is replaced. -/
def State.setStuck (s : State) (channel : Fin 11) (w : StuckWatch) : State :=
  s.setScanner { s.scanner with stuck := s.scanner.stuck.set channel w }

/-- The occupancy window of a slot is replaced. -/
def State.setWindow (s : State) (slot : Fin 8) (w : Window) : State :=
  s.setScanner { s.scanner with windows := s.scanner.windows.set slot w }

/-- The window of a U channel's slot starts afresh where its mark is cleared (R47). -/
def State.resetWindowOf (s : State) (channel : Fin 11) : State :=
  match slotOf channel with
  | some slot => s.setWindow slot ⟨0, 0⟩
  | none => s

/-- The stuck watch of a result's channel, with its raise or clear (R46, R47). -/
def State.watchStuck (s : State) (channel : Fin 11) (code : DetectorCode) : State :=
  let w := (s.scanner.stuck[channel]).count code
  if w.raises then (s.setStuck channel { w with standing := true }).raise .detStuck channel.val
  else if w.clears then ((s.setStuck channel { w with standing := false }).resetWindowOf channel).clear .detStuck channel.val
  else s.setStuck channel w

/-- DET_STUCK stands for a channel. -/
def State.stuckStands (s : State) (channel : Fin 11) : Bool := (s.scanner.stuck[channel]).standing

/-! ### Occupancy (R48, R49) -/

/-- A U result of a present slot counts in the slot's window (R48). -/
def State.countSample (s : State) (slot : Fin 8) (code : DetectorCode) : State :=
  match s.cfg.slots[slot] with
  | none => s
  | some config =>
    let w := s.scanner.windows[slot]
    s.setWindow slot ⟨w.samples + 1, if config.threshold ≤ code.toNat then w.active + 1 else w.active⟩

/-- The occupancy of a window: active * 1000 div samples, a figure of 0 to 1000; a free value in that range where no sample was taken
(R49; assumption 6). -/
def Window.occupancy (w : Window) (slot : Fin 8) (epoch : EpochCount) : Nat :=
  if w.samples = 0 then min 1000 (Config.freeOccupancy slot.val epoch.toNat) else w.active * 1000 / w.samples

/-- The item that the window close hands for a slot: none where the slot is not present or its U channel is stuck (R49). -/
def State.occupancyItem (s : State) (slot : Fin 8) : Option Nat :=
  match s.cfg.slots[slot] with
  | none => none
  | some _ =>
    if s.stuckStands (channelOf slot) then none
    else some ((s.scanner.windows[slot]).occupancy slot s.ctl.epoch)

/-- Every window starts afresh (R49). -/
def State.openWindows (s : State) : State := s.setScanner { s.scanner with windows := Vector.replicate 8 ⟨0, 0⟩ }

/-! ### The amplifier's match (R50 to R53) -/

/-- The counts after a pair that is bad or good (R51). -/
def Scanner.countPair (c : Scanner) (bad : Bool) : Scanner :=
  if bad then { c with badPairs := saturate 255 c.badPairs, goodPairs := 0 }
  else { c with goodPairs := saturate 255 c.goodPairs, badPairs := 0 }

/-- VSWR_WARN after a pair (R52). -/
def State.judgeWarn (s : State) : State :=
  if s.scanner.badPairs = 3 ∧ !s.scanner.vswrWarn then
    (s.setScanner { s.scanner with vswrWarn := true }).raise .vswrWarn 0
  else if s.scanner.goodPairs = 8 ∧ s.scanner.vswrWarn then
    (s.setScanner { s.scanner with vswrWarn := false }).clear .vswrWarn 0
  else s

/-- VSWR_TRIP after a pair; it is latched (R53). -/
def State.judgeTrip (s : State) : State :=
  if s.scanner.badPairs = 19 ∧ !s.scanner.vswrTrip then
    (s.setScanner { s.scanner with vswrTrip := true }).raise .vswrTrip 0
  else s

/-- The pair is skipped (R50). -/
def State.skipsPair (s : State) (forward : Nat) : Bool :=
  decide (forward < s.cfg.fwdMin) || s.stuckStands channelFwd || s.stuckStands channelRfl

/-- The pair of the forward result kept and this reflected result is evaluated (R50 to R53). The forward result is used up. -/
def State.evaluatePair (s : State) (reflected : DetectorCode) : State :=
  match s.scanner.forward with
  | none => s
  | some forward =>
    let s1 := s.setScanner { s.scanner with forward := none }
    if s1.skipsPair forward then s1
    else
      let bad := decide ((forward : Int) - reflected.toNat < s.cfg.rlThreshold)
      ((s1.setScanner (s1.scanner.countPair bad)).judgeWarn).judgeTrip

/-! ### Temperature (R55, R56) -/

/-- TEMP_WARN is raised at a code of 500 or more. -/
def State.raiseWarm (s : State) (code : Nat) : State :=
  if 500 ≤ code ∧ !s.scanner.tempWarn then (s.setScanner { s.scanner with tempWarn := true }).raise .tempWarn 0 else s

/-- TEMP_HIGH is raised at a code of 540 or more. -/
def State.raiseHigh (s : State) (code : Nat) : State :=
  if 540 ≤ code ∧ !s.scanner.tempHigh then (s.setScanner { s.scanner with tempHigh := true }).raise .tempHigh 0 else s

/-- TEMP_LIMIT is raised at a code of 580 or more. -/
def State.raiseLimit (s : State) (code : Nat) : State :=
  if 580 ≤ code ∧ !s.scanner.tempLimit then (s.setScanner { s.scanner with tempLimit := true }).raise .tempLimit 0 else s

/-- TEMP_LIMIT is cleared below a code of 560. -/
def State.clearLimit (s : State) (code : Nat) : State :=
  if code < 560 ∧ s.scanner.tempLimit then (s.setScanner { s.scanner with tempLimit := false }).clear .tempLimit 0 else s

/-- TEMP_HIGH is cleared below a code of 520. -/
def State.clearHigh (s : State) (code : Nat) : State :=
  if code < 520 ∧ s.scanner.tempHigh then (s.setScanner { s.scanner with tempHigh := false }).clear .tempHigh 0 else s

/-- TEMP_WARN is cleared below a code of 480. -/
def State.clearWarm (s : State) (code : Nat) : State :=
  if code < 480 ∧ s.scanner.tempWarn then (s.setScanner { s.scanner with tempWarn := false }).clear .tempWarn 0 else s

/-- The three conditions are judged: raises in rising order, clears in falling order (R56). -/
def State.judgeTemperature (s : State) (code : Nat) : State :=
  (((((s.raiseWarm code).raiseHigh code).raiseLimit code).clearLimit code).clearHigh code).clearWarm code

/-- A TEMP result: the last temperature, and the conditions unless the channel is stuck (R47, R55, R56). -/
def State.takeTemperature (s : State) (code : DetectorCode) : State :=
  let s1 := s.setScanner { s.scanner with lastTemp := some ((code.toNat : Int) - 160) }
  if s1.stuckStands channelTemp then s1 else s1.judgeTemperature code.toNat

/-! ### A conversion completes (R44, R46) -/

/-- The use of a result for its channel's purpose, after the stuck watch (R46). -/
def State.useResult (s : State) (channel : Fin 11) (code : DetectorCode) : State :=
  match slotOf channel with
  | some slot => s.countSample slot code
  | none =>
    if channel = channelFwd then s.setScanner { s.scanner with forward := some code.toNat }
    else if channel = channelRfl then s.evaluatePair code
    else s.takeTemperature code

/-- A result of the scan list entry `i` is handled, and the next conversion is started (R44). -/
def State.convert (s : State) (i : Nat) (code : DetectorCode) : State :=
  match s.scanner.scanList[i]? with
  | none => s
  | some channel =>
    let s1 := (s.watchStuck channel code).useResult channel code
    s1.setScanner { s1.scanner with conversion := some (nextEntry s.scanner.scanList i) }

/-- The scanner acts on a FAULT-ACK notice: a standing VSWR_TRIP is released with both pair counts at 0, and cleared in the table
(R54). -/
def State.releaseTrip (s : State) : State :=
  if s.scanner.releaseNotice then
    let s1 := s.setScanner { s.scanner with releaseNotice := false }
    if s1.scanner.vswrTrip then
      (s1.setScanner { s1.scanner with vswrTrip := false, badPairs := 0, goodPairs := 0 }).clear .vswrTrip 0
    else s1
  else s

/-- The scanner is told of a FAULT-ACK: where VSWR_TRIP stands, its release is due, and where it does not stand, the notice does
nothing (R54; assumption 8). -/
def State.notifyScanner (s : State) : State :=
  s.setScanner { s.scanner with releaseNotice := s.scanner.releaseNotice || s.scanner.vswrTrip }

/-- FAULT-ACK as the supervisor applies it, with the notice to the scanner last (R54, R137). -/
def State.acknowledge (s : State) (selector : AckSelector) : State :=
  match selector with
  | .all => s.ackAllOnly.settle.notifyScanner
  | .one code subject =>
    let s1 := (s.ackOneOnly code subject).settle
    if code = FaultCode.vswrTrip.number ∧ subject = 0 then s1.notifyScanner else s1

end Sys2Proof.Machine
end

