-- ==== Sys2Proof/Machine/Neighbours.lean ====
section
/-! DEFINITION. The neighbour view: beacons stored, unpinned entries created and evicted, silence judged, the clash monitor, and the
table built at LISTEN entry (chapter 2). -/

namespace Sys2Proof.Machine

/-! ### Positions (R21) -/

/-- The pinned kind of a position. -/
inductive PinnedKind where
  | adjacent | supervisor | unpinned
  deriving DecidableEq, Repr

/-- Positions 0 to 7 are adjacent, 8 and 9 supervisor, 10 to 15 unpinned (R21). -/
def pinnedKind (position : Fin 16) : PinnedKind :=
  if position.val < 8 then .adjacent else if position.val < 10 then .supervisor else .unpinned

/-- The unpinned positions, ascending. -/
def unpinnedPositions : List (Fin 16) := [10, 11, 12, 13, 14, 15]

/-- The position of the entry of a station. -/
def View.find (v : View) (id : Nat) : Option (Fin 16) :=
  (List.finRange 16).find? fun i => match v.table[i] with
    | some n => n.id == id
    | none => false

/-- A position takes an entry or is emptied. -/
def State.setEntry (s : State) (position : Fin 16) (entry : Option Neighbour) : State :=
  s.setView { s.view with table := s.view.table.set position entry }

/-- The silence of an entry: the time since it was last heard, none where it was not (R28). -/
def State.silence (s : State) (n : Neighbour) : Option Nat := n.heard.map fun h => s.elapsed h.lastHeard

/-- An age as TABLE-READ reports it: the silence, saturating at 65535, and 65535 for an entry not heard (R37). That of a LOST entry that
has been heard goes on with the clock: R29 and R37 leave it open, and the choice is the model's (assumption 29). -/
def State.age (s : State) (n : Neighbour) : Nat := min 65535 ((s.silence n).getD 65535)

/-! ### Loss conditions (R32) -/

/-- The condition of a pinned entry; an unpinned one has none. -/
def lossCode (position : Fin 16) : Option FaultCode :=
  match pinnedKind position with
  | .adjacent => some .peerLost
  | .supervisor => some .supvLost
  | .unpinned => none

/-- The loss condition of a position is raised for a station. -/
def State.raiseLoss (s : State) (position : Fin 16) (id : Nat) : State :=
  match lossCode position with
  | some code => s.raise code id
  | none => s

/-- The loss condition of a position is cleared for a station. -/
def State.clearLoss (s : State) (position : Fin 16) (id : Nat) : State :=
  match lossCode position with
  | some code => s.clear code id
  | none => s

/-! ### A beacon stored (R25 to R27) -/

/-- A beacon from a station of the table (R25). -/
def State.storeBeacon (s : State) (position : Fin 16) (n : Neighbour) (heard : Heard) : State :=
  let s1 := s.setEntry position (some { n with state := .live, heard := some heard })
  match n.state with
  | .live => s1
  | .suspect => s1
  | .absent => s1.clearLoss position n.id
  | .lost =>
    let s2 := s1.clearLoss position n.id
    if pinnedKind position = .adjacent then s2.handLostCount else s2

/-- The silence of the entry at a position, by which eviction chooses; an empty position has none (R27). -/
def State.silenceAt (s : State) (position : Fin 16) : Nat :=
  match s.view.table[position] with
  | some n => (s.silence n).getD 0
  | none => 0

/-- The position of greatest silence among those listed, the lowest of several (R27). -/
def State.mostSilent (s : State) (best : Fin 16) : List (Fin 16) → Fin 16
  | [] => best
  | p :: rest => if s.silenceAt best < s.silenceAt p then s.mostSilent p rest else s.mostSilent best rest

/-- The position that a station new to the table takes: the lowest empty unpinned one, or that of the entry evicted (R26, R27). -/
def State.newPosition (s : State) : Fin 16 :=
  match unpinnedPositions.find? fun p => s.view.table[p].isNone with
  | some p => p
  | none => s.mostSilent 10 [11, 12, 13, 14, 15]

/-- A beacon of a station that is not in the table creates an unpinned entry (R26, R27). -/
def State.createUnpinned (s : State) (id : Nat) (heard : Heard) : State :=
  s.setEntry s.newPosition (some ⟨id, .live, some heard⟩)

/-! ### The clash monitor (R33, R34) -/

/-- ID_CLASH is cleared where 16 expiries have gone by without a clashing beacon (R34). -/
def State.settleClash (s : State) : State :=
  match s.view.clash with
  | none => s
  | some id =>
    if 16 ≤ s.view.clashCount then (s.setView { s.view with clash := none, clashCount := 0 }).clear .idClash id else s

/-- A beacon of another station carries the own id (R33). A clear that is due comes first (R34). -/
def State.clashBeacon (s : State) (own : Nat) : State :=
  let s1 := s.settleClash.raise .idClash own
  s1.setView { s1.view with clash := some own, clashCount := 0 }

/-- One own epoch expiry on the clash monitor (R34). A clear that is due comes first. -/
def State.countClash (s : State) : State :=
  let s1 := s.settleClash
  match s1.view.clash with
  | none => s1
  | some _ => s1.setView { s1.view with clashCount := s1.view.clashCount + 1 }

/-- A good beacon is delivered to the view (R13, R25 to R27, R33, R39). -/
def State.takeBeacon (s : State) (source : Nat) (payload : List Byte) : State :=
  if s.ownId = some source then s.clashBeacon source
  else
    let heard := heardBeacon payload s.ctl.clock
    match s.view.find source with
    | none => s.createUnpinned source heard
    | some position =>
      match s.view.table[position] with
      | some n => s.storeBeacon position n heard
      | none => s

/-! ### Silence limits (R28 to R30) -/

/-- The limit of 3Q of the entry at a position comes: a LIVE entry becomes SUSPECT (R28). -/
def State.suspectLimit (s : State) (position : Fin 16) : State :=
  match s.view.table[position] with
  | none => s
  | some n =>
    match n.state, n.heard with
    | .live, some h => (s.advanceTo h.lastHeard (3 * h.period + 1)).setEntry position (some { n with state := .suspect })
    | _, _ => s

/-- The limit of 8Q of the entry at a position comes: a SUSPECT entry becomes LOST, or is removed where it is unpinned (R29). -/
def State.lostLimit (s : State) (position : Fin 16) : State :=
  match s.view.table[position] with
  | none => s
  | some n =>
    match n.state, n.heard with
    | .suspect, some h =>
      let s1 := s.advanceTo h.lastHeard (8 * h.period + 1)
      match pinnedKind position with
      | .unpinned => s1.setEntry position none
      | .supervisor => (s1.setEntry position (some { n with state := .lost })).raiseLoss position n.id
      | .adjacent => ((s1.setEntry position (some { n with state := .lost })).raiseLoss position n.id).handLostCount
    | _, _ => s

/-- An ABSENT entry becomes LOST, any other stays (R30). -/
def giveUp (n : Neighbour) : Neighbour := if n.state = .absent then { n with state := .lost } else n

/-- The raises for the entries among `positions` that were ABSENT in `before`, in ascending position (R30). -/
def State.raiseLosses (s : State) (before : Vector (Option Neighbour) 16) : List (Fin 16) → State
  | [] => s
  | p :: rest =>
    match before[p] with
    | some n =>
      if n.state = .absent then (s.raiseLoss p n.id).raiseLosses before rest else s.raiseLosses before rest
    | none => s.raiseLosses before rest

/-- The start-up limit comes: every pinned entry still ABSENT becomes LOST, and the count is handed on once (R30, R36). -/
def State.startUpLimit (s : State) : State :=
  match s.view.listenEntry with
  | none => s
  | some moment =>
    let s1 := s.advanceTo moment (8 * s.cfg.period + 1)
    let before := s1.view.table
    let s2 := s1.setView { s1.view with table := tab 16 fun i => (before[i]).map giveUp }
    (s2.raiseLosses before (List.finRange 16)).handLostCount

/-! ### The table at LISTEN entry (R40) -/

/-- The id configured for a position: the adjacent ids at 0 to 7 and the supervisor ids at 8 and 9, in image order. -/
def configuredId (image : Image) (position : Fin 16) : Option Nat :=
  match pinnedKind position with
  | .adjacent => image.adjacents[position.val]?
  | .supervisor => image.supervisors[position.val - 8]?
  | .unpinned => none

/-- The table built at LISTEN entry. -/
def builtTable (image : Image) : Vector (Option Neighbour) 16 :=
  tab 16 fun i => (configuredId image i).map fun id => ⟨id, .absent, none⟩

end Sys2Proof.Machine
end

