-- ==== Sys2Proof/Machine/Beacons.lean ====
section
/-! DEFINITION. The beacon composer: summaries chosen, the beacon's bytes composed, credits spent (chapter 8). -/

namespace Sys2Proof.Machine

/-! ### Summaries (R148 to R150) -/

/-- An entry is eligible while it holds credit and its severity is at or above the floor (R148). -/
def eligible (floor : Severity) (e : FaultEntry) : Bool :=
  decide (0 < e.credit) && decide (floor.number ≤ e.code.severity.number)

/-- `e` is carried before `f` by severity and first epoch; the position decides a tie (R149). -/
def carriedBefore (e f : FaultEntry) : Bool :=
  decide (f.code.severity.number < e.code.severity.number) ||
    (e.code.severity.number == f.code.severity.number && decide (e.firstEpoch.toNat < f.firstEpoch.toNat))

/-- `e`, at a lower position than every entry of the ordered list, takes its place in it. -/
def insertOrdered (e : FaultEntry) : List FaultEntry → List FaultEntry
  | [] => [e]
  | f :: rest => if carriedBefore f e then f :: insertOrdered e rest else e :: f :: rest

/-- The entries of a list in ascending position, ordered by the keys of R149. -/
def orderEntries : List FaultEntry → List FaultEntry
  | [] => []
  | e :: rest => insertOrdered e (orderEntries rest)

/-- The entries that the composer summarises: the first four eligible ones in order (R148, R149); none while no report floor is held,
which is in LOAD and LISTEN, where no beacon is composed (R142, R156). -/
def State.summarised (s : State) : List FaultEntry :=
  match s.composer.floor with
  | none => []
  | some floor => (orderEntries ((entries s.supervisor.table).filter (eligible floor))).take 4

/-- The four bytes of a summary (R150, R199). -/
def summaryBytes (e : FaultEntry) : List Byte :=
  [byteOf e.code.number, byteOf e.subject, byteOf (e.code.severity.number * 16 + e.state.number), byteOf e.count]

/-! ### Composition (R144 to R147, R199) -/

/-- The five bytes of an operator record (R146, R199). -/
def operatorBytes (o : OperatorRecord) : List Byte :=
  [byteOf o.operator] ++ bytes16 o.load ++ [byteOfInt o.offset, flagByte [o.constrained]]

/-- The operator records that the node announces; none outside RUN (R146). -/
def State.announcedOperators (s : State) : List OperatorRecord :=
  match s.spread.records with
  | none => []
  | some r => r.operators

/-- The payload of a beacon composed now (R145, R199). -/
def State.beaconPayload (s : State) : List Byte :=
  let t := s.supervisor.table
  [byteOf 1, byteOf s.ctl.node.number, byteOf s.ctl.cause.number] ++ bytes16 s.epochInterval ++
    [byteOrAbsent s.alloc.beff, s.beaconFlags, byteOf (levelNumber (faultLevel t)),
     byteOf (severityCount t .note), byteOf (severityCount t .minor), byteOf (severityCount t .major),
     byteOf (severityCount t .critical),
     byteOf s.announcedOperators.length, byteOf s.summarised.length] ++
    s.announcedOperators.flatMap operatorBytes ++ s.summarised.flatMap summaryBytes

/-- The own id as a byte of a frame; 0 without one, when nothing is sent. -/
def State.ownIdByte (s : State) : Byte := byteOf (s.ownId.getD 0)

/-- The beacon frame composed now (R144). -/
def State.beaconFrame (s : State) : List Byte := frameBytes 1#8 s.ownIdByte 63#8 s.beaconPayload

/-- The carried set of a beacon composed now (R151). -/
def State.nowCarried (s : State) : List (FaultCode × Nat) := s.summarised.map FaultEntry.key

/-! ### Outcomes of an attempt (R152) -/

/-- A beacon attempt completed cleanly: the entries still carried spend one credit, and the set is emptied. -/
def State.spendCarried (s : State) : State :=
  (s.setSupervisor { s.supervisor with table := spendCredits s.supervisor.table s.composer.carried }).setComposer
    { s.composer with carried := [] }

/-- A beacon attempt ended otherwise: the set is emptied and no credit changes. -/
def State.forgetCarried (s : State) : State := s.setComposer { s.composer with carried := [] }

end Sys2Proof.Machine
end

