-- ==== Sys2Proof/Machine/TrunkPort.lean ====
section
/-! DEFINITION. The trunk port: the transmit queue, contention, the end of attempts, supersession and withdrawal, bad frames and their
windows (chapter 1). -/

namespace Sys2Proof.Machine

/-! ### The queue and its head (R4, R5) -/

/-- Nothing is eligible. -/
def Port.queueEmpty (p : Port) : Bool := p.answers.isEmpty && p.beacon.isNone

/-- The attempt number of the head: the oldest answer's, or the beacon's (R5). -/
def Port.headAttempt (p : Port) : Nat :=
  match p.answers with
  | a :: _ => a.attempt
  | [] => p.beacon.getD 1

/-- The greatest backoff count of a contention for the head: 2^k - 1 with k the lesser of the attempt number and 6 (R6). -/
def Port.backoffTop (p : Port) : Nat := 2 ^ min p.headAttempt 6 - 1

/-- A beacon attempt is on the line. -/
def Port.beaconOnLine (p : Port) : Bool :=
  match p.tx with
  | .sending a => a.frame == .beacon
  | .silent => false
  | .idle => false
  | .gap _ => false
  | .countdown _ => false

/-- The contention ends where the queue has become empty in GAP or COUNTDOWN (R7). -/
def Port.endContention (p : Port) : Port :=
  match p.tx with
  | .gap _ => if p.queueEmpty then { p with tx := .idle } else p
  | .countdown _ => if p.queueEmpty then { p with tx := .idle } else p
  | .silent => p
  | .idle => p
  | .sending _ => p

/-! ### Sending (R7, R8, R10) -/

/-- The head goes on the line: an answer with its fixed bytes, or the beacon composed now. -/
def State.headOnLine (s : State) : Attempt :=
  match s.port.answers with
  | a :: _ => ⟨.answer, a.bytes, .kept⟩
  | [] => ⟨.beacon, s.beaconFrame, .kept⟩

/-- The port enters SENDING where `now` holds, and otherwise takes the transmit state `other`. A beacon's attempt sets the carried set
(R151). -/
def State.sendIf (s : State) (now : Bool) (other : TxState) : State :=
  (s.setPort { s.port with
      tx := if now then .sending s.headOnLine else other
      line := if now then .busy else s.port.line }).setComposer
    { s.composer with
      carried := if now && s.port.answers.isEmpty then s.nowCarried else s.composer.carried }

/-! ### Contention (R6) -/

/-- The gap is complete with no count frozen: b is drawn, and the port sends at once where it is 0 (R6). -/
def State.drawBackoff (s : State) : State :=
  let b := s.nextDraw s.port.backoffTop
  (s.sendIf (b == 0) (.countdown b)).drawn

/-- A frame is eligible in IDLE: a contention begins, straight with the draw where the line has been idle for a gap (R6). -/
def State.contend (s : State) : State :=
  match s.port.tx with
  | .idle =>
    if s.port.queueEmpty then s
    else match s.port.line with
      | .gapSeen => s.drawBackoff
      | .idle => s.setPort { s.port with tx := .gap none }
      | .busy => s.setPort { s.port with tx := .gap none }
  | .silent => s
  | .gap _ => s
  | .countdown _ => s
  | .sending _ => s

/-- The gap is complete in the transmit state held (R6, R7). -/
def State.gapDone (s : State) : State :=
  match s.port.tx with
  | .gap none => s.drawBackoff
  | .gap (some b) => s.sendIf (b == 0) (.countdown b)
  | .silent => s
  | .idle => s
  | .countdown _ => s
  | .sending _ => s

/-- 16 us of idle line have gone by: any reception has ended, and the receiver has its footing (R2, R6). While the port itself drives
the line there is no gap. -/
def State.gapComplete (s : State) : State :=
  match s.port.tx with
  | .sending _ => s
  | .silent => s.setPort { s.port with line := .gapSeen, footing := s.port.receiver, overlap := none }
  | .idle => s.setPort { s.port with line := .gapSeen, footing := s.port.receiver, overlap := none }
  | .gap _ => (s.setPort { s.port with line := .gapSeen, footing := s.port.receiver, overlap := none }).gapDone
  | .countdown _ => s.setPort { s.port with line := .gapSeen, footing := s.port.receiver, overlap := none }

/-- A whole idle slot has gone by: b falls by 1, and at 0 the head of that moment is sent (R7). -/
def State.slotComplete (s : State) : State :=
  match s.port.tx with
  | .countdown b => s.sendIf (b ≤ 1) (.countdown (b - 1))
  | .silent => s
  | .idle => s
  | .gap _ => s
  | .sending _ => s

/-- Activity of another station: a slot under way is lost and b frozen (R7), and a gap starts afresh (R6). -/
def Port.lostSlot (p : Port) : TxState :=
  match p.tx with
  | .countdown b => .gap (some b)
  | .silent => .silent
  | .idle => .idle
  | .gap b => .gap b
  | .sending a => .sending a

/-- The line becomes busy (R2, R7). -/
def State.lineActivity (s : State) : State := s.setPort { s.port with line := .busy, tx := s.port.lostSlot }

/-! ### Failures of beacons (R18) -/

/-- A dropped beacon counts, and the fifth raises TRUNK_BUSY (R18). -/
def State.dropBeacon (s : State) : State :=
  let n := saturate 255 s.port.failures
  let s1 := s.setPort { s.port with failures := n }
  if n = 5 then (s1.setPort { s1.port with busyStanding := true }).raise .trunkBusy 0 else s1

/-- A clean beacon sets the count to 0 and clears a standing TRUNK_BUSY (R18). -/
def State.beaconDelivered (s : State) : State :=
  let standing := s.port.busyStanding
  let s1 := s.setPort { s.port with failures := 0, busyStanding := false }
  if standing then s1.clear .trunkBusy 0 else s1

/-! ### The end of an attempt (R8, R9, R16, R17, R19) -/

/-- A beacon that waits for the end of the attempt before it enters the slot (R17). -/
def Port.admitWaiting (p : Port) : Port :=
  if p.beaconWaiting then { p with beaconWaiting := false, beacon := some 1 } else p

/-- After a clean frame the port is IDLE with the line just idle, or begins a contention (R8). -/
def State.afterClean (s : State) : State :=
  let p := s.port.admitWaiting
  (s.setPort { p with tx := .idle, line := .idle, overlap := some .clean }).contend

/-- A frame whose last bit reads back unchanged (R8, R10, R16). -/
def State.cleanFrame (s : State) : State :=
  match s.port.tx with
  | .sending a =>
    match a.frame with
    | .answer => (s.setPort { s.port with answers := s.port.answers.drop 1 }).afterClean
    | .beacon => (((s.spendCarried).setPort { s.port with beacon := none }).beaconDelivered).afterClean
  | .silent => s
  | .idle => s
  | .gap _ => s
  | .countdown _ => s

/-- After a collision the port awaits the gap with what is left in the queue, or is IDLE; the remainder of another station's frame may
keep the line busy (R9). -/
def State.afterCollision (s : State) : State :=
  let p := s.port.admitWaiting
  s.setPort { p with tx := if p.queueEmpty then .idle else .gap none, line := .busy, overlap := some .collided }

/-- The oldest answer's attempt number rises, and at 9 the answer is dropped (R9, R16). -/
def retryAnswers : List QueuedAnswer → List QueuedAnswer
  | [] => []
  | a :: rest => if a.attempt + 1 = 9 then rest else { a with attempt := a.attempt + 1 } :: rest

/-- A collision of the beacon that was to be kept: its attempt number rises, and at 9 it is dropped (R9). -/
def State.retryBeacon (s : State) : State :=
  let n := s.port.beacon.getD 1 + 1
  if n = 9 then (s.setPort { s.port with beacon := none }).dropBeacon else s.setPort { s.port with beacon := some n }

/-- A bit read back differs from the bit driven (R9, R16, R17, R19). -/
def State.collision (s : State) : State :=
  match s.port.tx with
  | .sending a =>
    match a.frame, a.doom with
    | .answer, _ => (s.setPort { s.port with answers := retryAnswers s.port.answers }).afterCollision
    | .beacon, .kept => (s.forgetCarried.retryBeacon).afterCollision
    | .beacon, .superseded => (((s.forgetCarried).setPort { s.port with beacon := none }).dropBeacon).afterCollision
    | .beacon, .withdrawn => ((s.forgetCarried).setPort { s.port with beacon := none }).afterCollision
  | .silent => s
  | .idle => s
  | .gap _ => s
  | .countdown _ => s

/-! ### Requests (R17, R142, R143) -/

/-- The beacon on the line is superseded; a withdrawn one stays withdrawn (R17, R19). -/
def supersede (a : Attempt) : Attempt :=
  match a.doom with
  | .kept => { a with doom := .superseded }
  | .superseded => a
  | .withdrawn => a

/-- The doom of the beacon on the line, where one is, is changed. -/
def Port.markOnLine (p : Port) (f : Attempt → Attempt) : Port :=
  match p.tx with
  | .sending a => { p with tx := .sending (f a) }
  | .silent => p
  | .idle => p
  | .gap _ => p
  | .countdown _ => p

/-- The port acts on the beacon it holds when a request is made (R17). The one superseded is counted also where a QUIET of the same
moment follows: R17 counts it and R19 says that the count keeps its value, and the choice is the model's (assumption 19). -/
def State.supersedeBeacon (s : State) : State :=
  if s.port.beaconOnLine then s.setPort (s.port.markOnLine supersede)
  else match s.port.beacon with
    | none => s
    | some _ => (s.setPort ({ s.port with beacon := none }).endContention).dropBeacon

/-- A request whose beacon has not entered the slot is superseded by the next request and counts as dropped (R17). -/
def State.supersedeRequest (s : State) : State :=
  if s.composer.request.isSome || s.port.beaconWaiting then
    ((s.setComposer { s.composer with request := none }).setPort { s.port with beaconWaiting := false }).dropBeacon
  else s

/-- The greatest jitter: P div 8 in RUN, 12 ms in CONFIG_FAULT (R143). -/
def State.jitterTop (s : State) : Nat := if s.inRun then s.cfg.period / 8 else 12

/-- The composer makes a beacon request unless the quiet flag is set or the node has no own id (R142). -/
def State.requestBeacon (s : State) : State :=
  if s.port.quiet || s.ownId.isNone then s
  else
    let s1 := (s.supersedeRequest).supersedeBeacon
    (s1.setComposer { s1.composer with request := some ⟨s1.ctl.clock, s1.nextDraw s1.jitterTop⟩ }).drawn

/-- The jitter of the request ends: the beacon enters the slot with attempt number 1, or waits for the end of the attempt on the
line (R143, R17). -/
def State.jitterEnd (s : State) : State :=
  match s.composer.request with
  | none => s
  | some request =>
    let s1 := (s.advanceTo request.since request.jitter).setComposer { s.composer with request := none }
    if s1.port.beaconOnLine then s1.setPort { s1.port with beaconWaiting := true }
    else (s1.setPort { s1.port with beacon := some 1 }).contend

/-! ### The quiet flag (R19, R169) -/

/-- The beacon on the line is withdrawn. -/
def withdraw (a : Attempt) : Attempt := { a with doom := .withdrawn }

/-- QUIET applied: the flag is set, and the beacon held is withdrawn. A beacon whose jitter has ended and that waits for the end of the
attempt on the line is removed uncounted: R19 does not name that case, and the choice is the model's (assumption 19). With the flag set
already, nothing changes. -/
def State.applyQuiet (s : State) : State :=
  if s.port.quiet then s
  else
    let p := { s.port with quiet := true, beaconWaiting := false }
    let p' := if p.beaconOnLine then p.markOnLine withdraw else ({ p with beacon := none }).endContention
    (s.setPort p').setComposer { s.composer with request := none }

/-- SPEAK applied: the flag is clear. -/
def State.applySpeak (s : State) : State := s.setPort { s.port with quiet := false }

/-! ### Answers (R16, R171) -/

/-- An answer enters the FIFO, and a contention begins where the port was IDLE. -/
def State.queueAnswer (s : State) (destination : Byte) (payload : List Byte) : State :=
  (s.setPort { s.port with
    answers := s.port.answers ++ [⟨frameBytes 3#8 s.ownIdByte destination payload, 1⟩] }).contend

/-! ### Bad frames and windows (R14, R15) -/

/-- TRUNK_NOISE is cleared where four clean windows have closed in a run (R15). -/
def State.settleNoise (s : State) : State :=
  if s.port.noiseStanding ∧ 4 ≤ s.port.cleanRun then
    (s.setPort { s.port with noiseStanding := false, cleanRun := 0 }).clear .trunkNoise 0
  else s

/-- A bad frame counts, and the sixteenth of a window raises TRUNK_NOISE, unless it stands from an earlier window (R14, R125). A clear
that is due comes first (assumption 8). -/
def State.countBadFrame (s : State) : State :=
  let s1 := s.settleNoise
  let n := saturate 255 s1.port.badFrames
  let s2 := s1.setPort { s1.port with badFrames := n }
  if n = 16 ∧ s1.port.badFrames < 16 ∧ !s1.port.noiseStanding then
    (s2.setPort { s2.port with noiseStanding := true }).raise .trunkNoise 0
  else s2

/-- A window closes (R15). A clear that is due comes first. -/
def State.closeNoiseWindow (s : State) : State :=
  let s1 := s.settleNoise
  let run := if s1.port.noiseStanding then (if s1.port.badFrames < 4 then s1.port.cleanRun + 1 else 0) else 0
  s1.setPort { s1.port with badFrames := 0, cleanRun := run }

end Sys2Proof.Machine
end

