-- ==== Sys2Proof/Machine/Starts.lean ====
section
/-! DEFINITION. Starts: LOAD entry by power-on, pin reset or RESTART, the entries into LISTEN, CONFIG_FAULT and RUN, and the NVM
operations with their ends (chapter 10, with the start values that each chapter gives its block). -/

namespace Sys2Proof.Machine

/-! ### LOAD entry (R180) -/

/-- The kinds of LOAD entry. -/
inductive StartKind where
  | powerOn | pinReset | restart
  deriving DecidableEq, Repr

/-- A block's state at LOAD entry: `kept` at a RESTART, `fresh` at power-on and pin reset. -/
def atStart {α : Type} (kind : StartKind) (kept fresh : α) : α :=
  match kind with
  | .restart => kept
  | .powerOn => fresh
  | .pinReset => fresh

/-- The line as the port sees it after it has stopped driving (R3): the idle spell begins where it was the port that drove. -/
def Port.lineAfterCut (p : Port) : LineView :=
  match p.tx with
  | .sending _ => .idle
  | .silent => p.line
  | .idle => p.line
  | .gap _ => p.line
  | .countdown _ => p.line

/-- The port at LOAD entry (R3, R20). The line itself is not the port's. -/
def Port.atLoad (p : Port) : Port := { Port.reset with line := p.lineAfterCut }

/-- The view at LOAD entry (R40). -/
def View.atLoad (v : View) (kind : StartKind) : View :=
  { View.reset with clash := atStart kind v.clash none, clashCount := atStart kind v.clashCount 0 }

/-- The watch of a channel at LOAD entry: the runs are 0, the mark is kept by a RESTART (R57). -/
def StuckWatch.atLoad (kind : StartKind) (w : StuckWatch) : StuckWatch := ⟨0, 0, atStart kind w.standing false⟩

/-- The scanner at LOAD entry (R45, R57). -/
def Scanner.atLoad (c : Scanner) (kind : StartKind) : Scanner :=
  { Scanner.reset with
    stuck := tab 11 fun i => (c.stuck[i]).atLoad kind
    vswrWarn := atStart kind c.vswrWarn false
    vswrTrip := atStart kind c.vswrTrip false
    tempWarn := atStart kind c.tempWarn false
    tempHigh := atStart kind c.tempHigh false
    tempLimit := atStart kind c.tempLimit false
    lastTemp := atStart kind c.lastTemp none }

/-- The allocation unit at LOAD entry (R99, R100). -/
def Alloc.atLoad (a : Alloc) (kind : StartKind) : Alloc :=
  { Alloc.reset with
    derating := atStart kind a.derating 0
    down := atStart kind a.down false
    shedMarks := atStart kind a.shedMarks (Vector.replicate 8 false) }

/-- The writer at LOAD entry (R110, R112). After power-on nothing is known of the transceiver (assumption 12). -/
def Writer.atLoad (w : Writer) (kind : StartKind) : Writer :=
  match kind with
  | .restart => w.forceMutes true
  | .pinReset => w.forceMutes false
  | .powerOn => { w.forceMutes false with transceiver := Vector.replicate 8 none }

/-- The fault supervisor at LOAD entry: emptied at power-on and pin reset, kept by a RESTART, with the re-credit count at 0 (R140,
R141, R156). -/
def Supervisor.atLoad (u : Supervisor) (kind : StartKind) : Supervisor :=
  { atStart kind u Supervisor.reset with reCreditCount := 0, reCreditDue := false }

/-- The store controller at LOAD entry (R180, R197): the configuration read is in flight, after a pin reset behind a wait (R196). -/
def StoreCtl.atLoad (kind : StartKind) : StoreCtl :=
  { StoreCtl.reset with
    cause := atStart kind .restart .powerOn
    storeWait := match kind with
      | .pinReset => true
      | .powerOn => false
      | .restart => false }

/-- The values that every block takes at LOAD entry (R180). -/
def State.enterLoad (s : State) (kind : StartKind) : State :=
  { s with
    port := s.port.atLoad
    view := s.view.atLoad kind
    scanner := s.scanner.atLoad kind
    spread := .reset
    alloc := s.alloc.atLoad kind
    writer := s.writer.atLoad kind
    supervisor := s.supervisor.atLoad kind
    composer := .reset
    handler := .reset
    ctl := .atLoad kind }

/-- What is due at a moment before a RESTART takes effect is taken before it (assumption 8). -/
def State.settleDue (s : State) : State := (((s.settleNoise).settleClash).settleReCredit).releaseTrip

/-- A RESTART takes effect: LOAD entry, and the clears of TRUNK_BUSY and then TRUNK_NOISE (R141, R195). -/
def State.restartNow (s : State) : State :=
  ((s.settleDue.enterLoad .restart).clearOnly .trunkBusy 0).clearOnly .trunkNoise 0

/-- A reset stops every transfer at once: the store applies the write cycle it had started in whole or not at all (R196). -/
def State.cutOperation (s : State) (cycleApplied : Bool) : State := if cycleApplied then s.applyCycle else s

/-- Power-on (R179, R196). -/
def State.powerOn (s : State) (cycleApplied : Bool) : State := (s.cutOperation cycleApplied).enterLoad .powerOn

/-- A pin reset (R179, R196). -/
def State.pinReset (s : State) (cycleApplied : Bool) : State := (s.cutOperation cycleApplied).enterLoad .pinReset

/-- A RESTART accepted: it takes effect at once, or the deferred-restart flag is set while an NVM operation is in flight (R170,
R195). -/
def State.askRestart (s : State) : State :=
  match s.ctl.operation with
  | none => s.restartNow
  | some _ => s.setCtl { s.ctl with deferredRestart := true }

/-- At the end of an operation a deferred RESTART takes effect where none is in flight (R195). -/
def State.restartIfDue (s : State) : State :=
  if s.ctl.deferredRestart && s.ctl.operation.isNone then s.restartNow else s

/-! ### Leaving LOAD (R182, R188, R189) -/

/-- The receiver is switched on: with the line busy it has no footing yet (R2, R3). -/
def Port.switchOn (p : Port) : Port := { p with receiver := true, footing := p.line != .busy }

/-- LISTEN entry (R40, R189). -/
def State.enterListen (s : State) (image : Image) : State :=
  { s with
    ctl := { s.ctl with node := .listen, listenTimer := some s.ctl.clock }
    port := s.port.switchOn
    view := { s.view with table := builtTable image, listenEntry := some s.ctl.clock } }

/-- CONFIG_FAULT entry (R3, R6, R148, R181, R188): the transmitter is off without a valid node id, and the report floor is NOTE. -/
def State.enterConfigFault (s : State) (nodeId : Option Nat) : State :=
  { s with
    ctl := { s.ctl with node := .configFault, epochTimer := some s.ctl.clock }
    port := { s.port.switchOn with tx := if nodeId.isSome then .idle else .silent }
    composer := { s.composer with floor := some .note } }

/-- LOAD is left when the crash read has ended (R182). -/
def State.leaveLoad (s : State) : State :=
  match s.ctl.image with
  | .usable image => s.enterListen image
  | .unusable nodeId => s.enterConfigFault nodeId
  | .none => s.enterConfigFault none

/-! ### RUN entry (R189) -/

/-- What every block sets up at RUN entry before the recompute (R6, R43, R44, R58, R85, R94, R100, R111, R148, R181). The LISTEN timer's
moment has come. -/
def State.setUpRun (s : State) : State :=
  { s with
    ctl := { s.ctl with node := .run, listenTimer := none, epochTimer := some s.ctl.clock, epoch := 0#32 }
    port := { s.port with tx := .idle }
    scanner := { s.scanner with
      scanList := scanListOf s.cfg
      conversion := some 0
      windows := Vector.replicate 8 ⟨0, 0⟩ }
    spread := { s.spread with records := some (newRecords s.cfg s.spread.lostCount) }
    alloc := { s.alloc with
      beff := some (s.cfg.budget - s.alloc.derating)
      offsets := []
      ramp := some s.ctl.clock }
    composer := { s.composer with floor := some s.cfg.reportFloor } }

/-- RUN entry with its recompute (R83, R189). -/
def State.enterRun (s : State) : State := s.setUpRun.recomputeNow

/-- The LISTEN timer expires, 2P after LISTEN entry (R189). -/
def State.listenExpiry (s : State) : State :=
  match s.ctl.listenTimer with
  | none => s
  | some moment =>
    match s.ctl.node with
    | .listen => (s.advanceTo moment (2 * s.cfg.period)).enterRun
    | .load => s
    | .run => s
    | .configFault => s

/-! ### The reads of LOAD (R182 to R187, R191) -/

/-- An NVM operation begins (R182). -/
def State.beginOperation (s : State) (operation : NvmOperation) : State := s.setCtl (s.ctl.begin operation)

/-- No NVM operation is in flight. -/
def State.noOperation (s : State) : State := s.setCtl { s.ctl with operation := none }

/-- The image that was read is judged, with its raises, and the crash read starts (R182, R185 to R187). -/
def State.judgeConfig (s : State) (image : List Byte) : State :=
  let j := judgeRead image
  let s1 := s.setCtl { s.ctl with image := j.held }
  let s2 := match j.bad with
    | some subject => s1.raise .cfgBad subject
    | none => s1
  (s2.raiseEach .cfgClamped j.clamped).beginOperation .crashRead

/-- The configuration read failed: the image is unreadable, and the crash read starts (R183, R185). -/
def State.configUnreadable (s : State) : State :=
  let s1 := s.raise .storeFail 1
  let s2 := s1.setCtl { s1.ctl with image := .unusable none }
  (s2.raise .cfgBad 0).beginOperation .crashRead

/-- The configuration read ends (R185): the store delivers the image that the installer has it hold. -/
def State.configReadEnd (s : State) (loaded : List Byte) : State :=
  match s.ctl.operation with
  | none => s
  | some op =>
    match op.operation with
    | .configRead =>
      if s.ctl.storeWait then s
      else
        let s1 := s.setStore (s.store.writeBytes imageAddress loaded)
        s1.judgeConfig (s1.store.readBytes imageAddress imageLength)
    | .crashRead => s
    | .crashWrite _ _ => s
    | .crashErase _ _ => s

/-- The markers of the region are judged (R191). -/
def State.judgeMarkers (s : State) : State :=
  if inProgressSet s.marker then
    (s.setCtl { s.ctl with region := .foundTorn (validSet s.marker) }).raise .priorTrip 1
  else if validSet s.marker then (s.setCtl { s.ctl with region := .foundValid }).raise .priorTrip 0
  else s.setCtl { s.ctl with region := .empty }

/-- The crash read ends and the node leaves LOAD (R182, R191). -/
def State.crashReadEnd (s : State) : State :=
  match s.ctl.operation with
  | none => s
  | some op =>
    match op.operation with
    | .crashRead => (s.noOperation.judgeMarkers).leaveLoad
    | .configRead => s
    | .crashWrite _ _ => s
    | .crashErase _ _ => s

/-! ### The crash write and the crash erase (R192 to R195) -/

/-- The next step of an operation begins (R192, R194). -/
def State.nextStep (s : State) (operation : NvmOperation) : State := s.beginOperation operation

/-- A crash write completes (R192). -/
def State.writeDone (s : State) : State :=
  (s.setCtl { s.ctl with operation := none, region := .written }).restartIfDue

/-- A crash erase completes: the region is EMPTY, and a pending write is started at that moment (R193, R194). -/
def State.eraseDone (s : State) : State :=
  match s.ctl.pendingWrite with
  | some record =>
    let c := { s.ctl with region := .empty, pendingWrite := none }
    s.setCtl (c.begin (.crashWrite 0 record))
  | none => (s.setCtl { s.ctl with operation := none, region := .empty }).restartIfDue

/-- The write cycle of the present step ends: its bytes stand in the store, and the next step begins or the operation ends (R183,
R192, R194). -/
def State.cycleEnd (s : State) : State :=
  match s.ctl.operation with
  | none => s
  | some op =>
    match op.operation with
    | .configRead => s
    | .crashRead => s
    | .crashWrite step record =>
      let s1 := (s.advanceTo op.since 5).applyCycle
      match step with
      | 0 => s1.nextStep (.crashWrite 1 record)
      | 1 => s1.nextStep (.crashWrite 2 record)
      | 2 => s1.writeDone
    | .crashErase step markerRead =>
      let s1 := (s.advanceTo op.since 5).applyCycle
      match step with
      | 0 => s1.nextStep (.crashErase 1 markerRead)
      | 1 => s1.nextStep (.crashErase 2 markerRead)
      | 2 => s1.eraseDone

/-! ### Failed transfers (R183) -/

/-- The operation fails with its third failed try (R183, R185, R191, R192, R194). -/
def State.operationFails (s : State) (operation : NvmOperation) : State :=
  match operation with
  | .configRead => s.configUnreadable
  | .crashRead =>
    ((s.setCtl { s.ctl with operation := none, region := .unknown }).raise .storeFail 2).leaveLoad
  | .crashWrite _ _ =>
    ((s.setCtl { s.ctl with operation := none, region := .unknown }).raise .storeFail 3).restartIfDue
  | .crashErase _ _ =>
    ((s.setCtl { s.ctl with operation := none, region := .unknown, pendingWrite := none }).raise .storeFail 4).restartIfDue

/-- The operation as it stands where the failing try is the first of a later transfer, none where the operation has none there: a
read may take several transfers, and an erase from UNKNOWN reads the marker byte before it writes (R183, R194; assumption 14). -/
def laterTransfer (operation : NvmOperation) (region : RegionStatus) : Option NvmOperation :=
  match operation with
  | .configRead => some .configRead
  | .crashRead => some .crashRead
  | .crashWrite _ _ => none
  | .crashErase step markerRead =>
    if step = 0 ∧ region = .unknown ∧ markerRead = false then some (.crashErase 0 true) else none

/-- A try of the present transfer fails: it is repeated at once, from this moment, and the third failed try fails the operation
(R183). The 5 ms of a write cycle are counted from the try that succeeds. -/
def State.tryFails (s : State) (op : InFlight) : State :=
  if 3 ≤ op.failedTries + 1 then s.operationFails op.operation
  else s.setCtl { s.ctl with operation := some { op with failedTries := op.failedTries + 1, since := s.ctl.clock } }

/-- An I2C transfer is not acknowledged (R183). While the wait after a pin reset lasts no transfer is made (R196). -/
def State.transferFails (s : State) (later : Bool) : State :=
  match s.ctl.operation with
  | none => s
  | some op =>
    if s.ctl.storeWait then s
    else match later, laterTransfer op.operation s.ctl.region with
      | true, some operation => s.tryFails { op with operation := operation, failedTries := 0 }
      | true, none => s.tryFails op
      | false, _ => s.tryFails op

/-- The wait of 5 ms after a pin reset ends, and the configuration read begins its first transfer (R196). -/
def State.storeWaitEnd (s : State) : State :=
  if s.ctl.storeWait then
    let s1 := s.advanceTo 0#32 5
    s1.setCtl { s1.ctl with storeWait := false }
  else s

end Sys2Proof.Machine
end

