-- ==== Sys2Proof/Machine/Directives.lean ====
section
/-! DEFINITION. The directive handler: delivery, the four checks, the last-refusal record, and the answers it builds (chapter 9). -/

namespace Sys2Proof.Machine

/-! ### Delivery (R13) -/

/-- The frame is addressed to the node: to its own id or to 63. -/
def State.addressed (s : State) (destination : Byte) : Bool :=
  destination == 63#8 || s.ownId == some destination.toNat

/-- A directive frame of these ids reaches the handler: the receiver is on, the source is one that R12 lets through, and the
destination is the node's (R3, R12, R13). -/
def State.delivers (s : State) (source destination : Byte) : Bool :=
  s.port.receiver && source != 0#8 && source != 63#8 && s.addressed destination

/-! ### The four checks (R159 to R163) -/

/-- The source check (R160). In CONFIG_FAULT it is skipped. -/
def State.sourcePasses (s : State) (source : Byte) : Bool :=
  match s.ctl.node with
  | .configFault => true
  | .load => s.cfg.supervisors.contains source.toNat
  | .listen => s.cfg.supervisors.contains source.toNat
  | .run => s.cfg.supervisors.contains source.toNat

/-- The table of R161. `hasId` tells whether the node has an own id. -/
def availableIn (node : NodeState) (hasId : Bool) (kind : DirectiveKind) : Bool :=
  match node with
  | .load => false
  | .listen => kind == .restart
  | .run => true
  | .configFault => if hasId then kind != .carrierMask && kind != .spreadMode else kind == .restart

/-- The availability check: the table, and no query to 63 (R161). -/
def State.availabilityPasses (s : State) (kind : DirectiveKind) (destination : Byte) : Bool :=
  availableIn s.ctl.node s.ownId.isSome kind && !(kind.isQuery && destination == 63#8)

/-- The room check (R163). -/
def State.roomFor (s : State) (kind : DirectiveKind) : Bool := !kind.isQuery || decide (s.port.answers.length < 3)

/-- What the checks decide. -/
inductive Judgement where
  | refused (reason : RefusalReason)
  | accepted (directive : Directive)
  deriving DecidableEq, Repr

/-- The checks in their order (R159). -/
def State.judge (s : State) (source destination : Byte) (payload : List Byte) : Judgement :=
  if !s.sourcePasses source then .refused .notSupervisor
  else match DirectiveKind.ofNumber (kindByte payload).toNat with
  | none => .refused .badArgument
  | some kind =>
    if !s.availabilityPasses kind destination then .refused .notAvailable
    else match judgeArguments kind payload with
    | none => .refused .badArgument
    | some directive => if s.roomFor kind then .accepted directive else .refused .busy

/-- A refusal is recorded and has no other effect (R164). -/
def State.refuse (s : State) (reason : RefusalReason) (source : Byte) (payload : List Byte) : State :=
  s.setHandler ⟨some ⟨reason, kindByte payload, source, s.stamp⟩⟩

/-! ### The STATUS body (R172, R200) -/

/-- The three bytes of a slot in a STATUS body: state, applied code, target. -/
def statusSlot (x : SlotState) : List Byte := [byteOf x.number, byteOrAbsent x.applied, byteOrAbsent x.target]

/-- B, absent outside RUN (R98). -/
def State.budget (s : State) : Option Nat := if s.inRun then some s.cfg.budget else none

/-- The code of the operation in flight, 0 with none. -/
def State.operationNumber (s : State) : Nat :=
  match s.ctl.operation with
  | none => 0
  | some op => op.operation.number

/-- The seven bytes of the last-refusal record. -/
def refusalBytes : Option RefusalRecord → List Byte
  | none => List.replicate 7 0#8
  | some r => [byteOf r.reason.number, r.kind, r.source] ++ bytes32 r.epoch

/-- The body of a STATUS answer. -/
def State.statusBody (s : State) : List Byte :=
  [byteOf s.ctl.node.number, byteOf s.ctl.cause.number] ++ bytes32 s.ctl.epoch ++
    [byteOrAbsent s.budget, byteOrAbsent s.alloc.beff] ++
    s.alloc.slots.toList.flatMap statusSlot ++
    [byteOrAbsent (s.spread.records.map fun r => r.current.number),
     byteOrAbsent (s.spread.records.map fun r => r.pendingMode.number),
     s.statusFlags, byteOf s.supervisor.sinceSnapshot, byteOf s.operationNumber] ++
    refusalBytes s.handler.lastRefusal

/-! ### The SNAPSHOT body (R173, R200) -/

/-- The three bytes of a slot in a SNAPSHOT body: state, target, applied code. -/
def snapshotSlot (x : SlotState) : List Byte := [byteOf x.number, byteOrAbsent x.target, byteOrAbsent x.applied]

/-- The four bytes of an operator in a SNAPSHOT body: id, load, offset. -/
def snapshotOperator : Nat × Nat × Int → List Byte
  | (operator, load, offset) => [byteOf operator] ++ bytes16 load ++ [byteOfInt offset]

/-- The body of a SNAPSHOT answer. -/
def snapshotBody : Option Snapshot → List Byte
  | none => [0#8]
  | some p =>
    [1#8, byteOf p.code.number, byteOf p.subject] ++ bytes32 p.epoch ++ [byteOf p.node.number, byteOrAbsent p.beff] ++
      p.slots.toList.flatMap snapshotSlot ++
      [byteOf p.liveAdjacent, byteOf p.lostAdjacent] ++ bytesTemp p.lastTemp ++ [byteOf p.operators.length] ++
      p.operators.flatMap snapshotOperator

/-! ### TABLE-READ (R174 to R177, R200) -/

/-- The three pairs of cursors (R38). -/
inductive CursorPair where
  | first | second | shared
  deriving DecidableEq, Repr

/-- The pair that a source uses (R174). No supervisor positions are built in CONFIG_FAULT, and every source shares a pair there. -/
def State.cursorPair (s : State) (source : Byte) : CursorPair :=
  if s.ctl.node = .configFault then .shared
  else if s.cfg.supervisors[0]? = some source.toNat then .first
  else if s.cfg.supervisors[1]? = some source.toNat then .second
  else .shared

def View.cursors (v : View) : CursorPair → Cursors
  | .first => v.cursors8
  | .second => v.cursors9
  | .shared => v.cursorsShared

def View.setCursors (v : View) (c : Cursors) : CursorPair → View
  | .first => { v with cursors8 := c }
  | .second => { v with cursors9 := c }
  | .shared => { v with cursorsShared := c }

/-- The number of positions of a table. -/
def TableName.size : TableName → Nat
  | .neighbour => 16
  | .fault => 24

/-- The code of a table in an answer. -/
def TableName.number : TableName → Nat
  | .neighbour => 1
  | .fault => 2

/-- The cursor of a pair for a table. -/
def Cursors.at (c : Cursors) : TableName → Nat
  | .neighbour => c.neighbour.val
  | .fault => c.fault.val

/-- The cursor of a pair for a table is set. -/
def Cursors.move (c : Cursors) (position : Nat) : TableName → Cursors
  | .neighbour => { c with neighbour := Fin.ofNat 16 position }
  | .fault => { c with fault := Fin.ofNat 24 position }

/-- The count in force: 0 is taken as 1 and more than 4 as 4 (R174). -/
def countInForce (count : Nat) : Nat := clampNat 1 4 count

/-- The positions read: upward from the first, none at or beyond the size (R175). -/
def positionsRead (size first count : Nat) : List Nat :=
  ((List.range count).map (first + ·)).filter fun p => decide (p < size)

/-- The cursor after a read (R176). -/
def cursorAfter (size : Nat) (positions : List Nat) : Nat :=
  match positions.getLast? with
  | none => 0
  | some p => if p + 1 < size then p + 1 else 0

/-- The fault level, operator count and class that an entry reports; 0 each for one not heard since the start (R37). -/
def heardBytes : Option Heard → Byte × Byte × Byte
  | none => (0#8, 0#8, 0#8)
  | some h => (byteOf h.cls, byteOf (levelNumber h.level), byteOf h.operators.length)

/-- The eight bytes of a neighbour position (R177). -/
def State.neighbourRecord (s : State) (position : Nat) : List Byte :=
  match s.view.table.toList.getD position none with
  | none => byteOf position :: List.replicate 7 0#8
  | some n =>
    let h := heardBytes n.heard
    [byteOf position, byteOf n.state.number, byteOf n.id, h.1] ++ bytes16 (s.age n) ++ [h.2.1, h.2.2]

/-- The ten bytes of a fault position (R177). -/
def State.faultRecord (s : State) (position : Nat) : List Byte :=
  match s.supervisor.table.toList.getD position none with
  | none => byteOf position :: List.replicate 9 0#8
  | some e =>
    [byteOf position, byteOf e.state.number, byteOf e.code.number, byteOf e.subject, byteOf e.code.severity.number,
     byteOf e.count] ++ bytes32 e.firstEpoch

/-- The record of a position of a table. -/
def State.tableRecord (s : State) : TableName → Nat → List Byte
  | .neighbour, position => s.neighbourRecord position
  | .fault, position => s.faultRecord position

/-- The body of a TABLE answer for the positions read. -/
def State.tableBody (s : State) (table : TableName) (positions : List Nat) : List Byte :=
  [byteOf table.number, byteOf positions.length] ++ positions.flatMap (s.tableRecord table)

/-- The positions that a TABLE-READ from a source reads (R174, R175). -/
def State.readPositions (s : State) (source : Byte) (table : TableName) (start : Option Nat) (count : Nat) : List Nat :=
  positionsRead table.size (start.getD ((s.view.cursors (s.cursorPair source)).at table)) (countInForce count)

/-- The chosen cursor after a read (R176). -/
def State.moveCursor (s : State) (source : Byte) (table : TableName) (positions : List Nat) : State :=
  let pair := s.cursorPair source
  s.setView (s.view.setCursors ((s.view.cursors pair).move (cursorAfter table.size positions) table) pair)

/-! ### Applying a directive (R165 to R171) -/

/-- An answer is queued: the answer kind, the tag, the body (R171, R200). -/
def State.answer (s : State) (source kind tag : Byte) (body : List Byte) : State :=
  s.queueAnswer source (kind :: tag :: body)

/-- A TABLE-READ accepted: the answer is queued and the cursor moves (R175, R176). -/
def State.readTable (s : State) (source tag : Byte) (table : TableName) (start : Option Nat) (count : Nat) : State :=
  let positions := s.readPositions source table start count
  (s.moveCursor source table positions).answer source 3#8 tag (s.tableBody table positions)

/-- An accepted directive is handed to its owner or answered (R165). -/
def State.applyDirective (s : State) (source tag : Byte) : Directive → State
  | .restart => s.askRestart
  | .faultAck selector => s.acknowledge selector
  | .quiet => s.applyQuiet
  | .speak => s.applySpeak
  | .statusQuery => s.answer source 1#8 tag s.statusBody
  | .snapshotQuery => s.answer source 2#8 tag (snapshotBody s.supervisor.snapshot)
  | .tableRead table start count => s.readTable source tag table start count
  | .carrierMask form slots => s.maskCarriers form slots
  | .spreadMode mode => s.setPendingMode mode

/-- The handler takes a directive: it is refused and recorded, or accepted and applied (R158, R159). -/
def State.takeDirective (s : State) (source destination : Byte) (payload : List Byte) : State :=
  match s.judge source destination payload with
  | .refused reason => s.refuse reason source payload
  | .accepted directive => s.applyDirective source (byteAt payload 1) directive

/-- A directive frame on the trunk: taken where it is delivered, and otherwise discarded without being counted (R13). -/
def State.deliverDirective (s : State) (source destination : Byte) (payload : List Byte) : State :=
  if s.delivers source destination then s.takeDirective source destination payload else s

end Sys2Proof.Machine
end

