-- ==== Sys2Proof/WellFormed.lean ====
section
/-! DEFINITION. Which commands can occur: a directive command is a good frame's payload as the trunk port delivers it. -/

namespace Sys2Proof

/-- A directive that the port delivers: its source is neither 0 nor 63 (R12), its destination is a station id or 63 (R1, R13), and
its payload, kind byte included, is at most 88 bytes (R1, R12). -/
def deliverable (source destination : Byte) (payloadLength : Nat) : Bool :=
  source != 0#8 && source != 63#8 && decide (1 ≤ destination.toNat) && decide (destination.toNat ≤ 63) &&
    decide (payloadLength ≤ 88)

/-- The kind byte of a payload names one of the nine directives (R200). -/
def namesADirective : List Byte → Bool
  | [] => false
  | kind :: _ => decide (1 ≤ kind.toNat) && decide (kind.toNat ≤ 9)

/-- The checks on a command's operands. Every other command is well formed whatever its operands are. -/
def Instr.wellFormed : Instr → Bool
  | .powerOn _ => true
  | .pinReset _ => true
  | .pinResetStoreWaitEnd => true
  | .receivedFrame _ _ _ => true
  | .lineActivity => true
  | .gapComplete => true
  | .backoffSlotComplete => true
  | .collision => true
  | .cleanFrame => true
  | .beaconJitterEnd => true
  | .epochExpiry => true
  | .configFaultEpochExpiry => true
  | .listenTimerExpiry => true
  | .conversionComplete _ => true
  | .rampTick => true
  | .writeComplete => true
  | .silenceSuspectLimit _ => true
  | .silenceLostLimit _ => true
  | .startUpLimit => true
  | .idClashClear => true
  | .trunkNoiseClear => true
  | .reCredit => true
  | .vswrTripRelease => true
  | .configReadEnd _ => true
  | .crashReadEnd => true
  | .i2cTransferFail _ => true
  | .writeCycleEnd => true
  | .faultAck source destination rest => deliverable source destination (rest.length + 1)
  | .carrierMask source destination rest => deliverable source destination (rest.length + 1)
  | .spreadMode source destination rest => deliverable source destination (rest.length + 1)
  | .quiet source destination rest => deliverable source destination (rest.length + 1)
  | .speak source destination rest => deliverable source destination (rest.length + 1)
  | .restart source destination rest => deliverable source destination (rest.length + 1)
  | .statusQuery source destination rest => deliverable source destination (rest.length + 1)
  | .snapshotQuery source destination rest => deliverable source destination (rest.length + 1)
  | .tableRead _ source destination rest => deliverable source destination (rest.length + 1)
  | .unknownDirective source destination payload =>
      deliverable source destination payload.length && !namesADirective payload
  | .receiverFirstIdle => true

end Sys2Proof
end

