-- ==== Sys2Proof/Machine/DirectiveCommands.lean ====
section
/-! DEFINITION. The ten commands that are deliveries of directives (chapter 9). The payload of each is its kind byte, then `rest`: the
tag and the arguments (R200). -/

namespace Sys2Proof.Machine

/-- The kind byte of a directive (R200). -/
def DirectiveKind.byte (kind : DirectiveKind) : Byte := byteOf kind.number

/-- FAULT_ACK (R166). -/
def execFaultAck (source destination : Byte) (rest : List Byte) (s : State) : Result :=
  .next (s.deliverDirective source destination (DirectiveKind.faultAck.byte :: rest))

/-- CARRIER_MASK (R167). -/
def execCarrierMask (source destination : Byte) (rest : List Byte) (s : State) : Result :=
  .next (s.deliverDirective source destination (DirectiveKind.carrierMask.byte :: rest))

/-- SPREAD_MODE (R168). -/
def execSpreadMode (source destination : Byte) (rest : List Byte) (s : State) : Result :=
  .next (s.deliverDirective source destination (DirectiveKind.spreadMode.byte :: rest))

/-- QUIET (R169). -/
def execQuiet (source destination : Byte) (rest : List Byte) (s : State) : Result :=
  .next (s.deliverDirective source destination (DirectiveKind.quiet.byte :: rest))

/-- SPEAK (R169). -/
def execSpeak (source destination : Byte) (rest : List Byte) (s : State) : Result :=
  .next (s.deliverDirective source destination (DirectiveKind.speak.byte :: rest))

/-- RESTART (R170). -/
def execRestart (source destination : Byte) (rest : List Byte) (s : State) : Result :=
  .next (s.deliverDirective source destination (DirectiveKind.restart.byte :: rest))

/-- STATUS_QUERY (R172). -/
def execStatusQuery (source destination : Byte) (rest : List Byte) (s : State) : Result :=
  .next (s.deliverDirective source destination (DirectiveKind.statusQuery.byte :: rest))

/-- SNAPSHOT_QUERY (R173). -/
def execSnapshotQuery (source destination : Byte) (rest : List Byte) (s : State) : Result :=
  .next (s.deliverDirective source destination (DirectiveKind.snapshotQuery.byte :: rest))

/-- TABLE_READ (R174 to R177), `wait` ms after the command before it. -/
def execTableRead (wait : Ms) (source destination : Byte) (rest : List Byte) (s : State) : Result :=
  .next ((s.advance wait.toNat).deliverDirective source destination (DirectiveKind.tableRead.byte :: rest))

/-- UNKNOWN_DIRECTIVE (R162). A payload that names one of the nine directives is no unknown directive. -/
def execUnknownDirective (source destination : Byte) (payload : List Byte) (s : State) : Result :=
  .next (if namesADirective payload then s else s.deliverDirective source destination payload)

end Sys2Proof.Machine
end

