-- ==== Sys2Proof/Machine/EpochCommands.lean ====
section
/-! DEFINITION. The commands of the epoch timer and the report re-credit (R154, R181). -/

namespace Sys2Proof.Machine

/-! ### What an expiry brings in RUN and in CONFIG_FAULT alike -/

/-- The trunk port's window, the clash monitor, the re-credit timer and the beacon request at an expiry (R14, R15, R34, R142,
R154). -/
def State.expiryWork (s : State) : State := (((s.closeNoiseWindow).countClash).countReCredit).requestBeacon

/-- The epoch timer runs on from the moment of its expiry (R181). -/
def State.rearmEpoch (s : State) (moment : Ms) (interval : Nat) : State :=
  s.setCtl { s.ctl with epochTimer := some (moment + BitVec.ofNat 32 interval) }

/-- The moment of the expiry has come, and the timer runs on. -/
def State.epochMoment (s : State) (moment : Ms) (interval : Nat) : State :=
  (s.advanceTo moment interval).rearmEpoch moment interval

/-! ### The close of an epoch in RUN (R181) -/

/-- The scanner closes its windows, the controller closes its epoch with the set handed, and the windows open afresh (R49, R59). -/
def State.closeLoads (s : State) : State := (s.spreadClose s.occupancyItem).openWindows

/-- The epoch count rises; it wraps (R181). -/
def State.raiseEpoch (s : State) : State := s.setCtl { s.ctl with epoch := s.ctl.epoch + 1 }

/-- The expiry that ends an epoch: the work of the close, then the count rises (R181). -/
def State.closeEpoch (s : State) : State := ((s.closeLoads).expiryWork).raiseEpoch

/-- The epoch timer expires in RUN (R181). -/
def State.runExpiry (s : State) : State :=
  match s.ctl.node, s.ctl.epochTimer with
  | .run, some moment => (s.epochMoment moment s.cfg.period).closeEpoch
  | _, _ => s

/-- The epoch timer expires in CONFIG_FAULT, every 100 ms; the count stays 0 (R181). -/
def State.configFaultExpiry (s : State) : State :=
  match s.ctl.node, s.ctl.epochTimer with
  | .configFault, some moment => (s.epochMoment moment 100).expiryWork
  | _, _ => s

/-- EPOCH_EXPIRY (R181). -/
def execEpochExpiry (s : State) : Result := .next s.runExpiry

/-- CONFIG_FAULT_EPOCH_EXPIRY (R181). -/
def execConfigFaultEpochExpiry (s : State) : Result := .next s.configFaultExpiry

/-- RE_CREDIT (R154). -/
def execReCredit (s : State) : Result := .next s.settleReCredit

end Sys2Proof.Machine
end

