-- ==== Sys2Proof/Machine/NeighbourCommands.lean ====
section
/-! DEFINITION. The commands of the neighbour view (chapter 2). -/

namespace Sys2Proof.Machine

/-- SILENCE_SUSPECT_LIMIT (R28). -/
def execSilenceSuspectLimit (position : Fin 16) (s : State) : Result := .next (s.suspectLimit position)

/-- SILENCE_LOST_LIMIT (R29). -/
def execSilenceLostLimit (position : Fin 16) (s : State) : Result := .next (s.lostLimit position)

/-- START_UP_LIMIT (R30). -/
def execStartUpLimit (s : State) : Result := .next s.startUpLimit

/-- ID_CLASH_CLEAR (R34). -/
def execIdClashClear (s : State) : Result := .next s.settleClash

end Sys2Proof.Machine
end

