-- ==== Sys2Proof/Machine/ScannerCommands.lean ====
section
/-! DEFINITION. The commands of the measurement scanner (chapter 3). -/

namespace Sys2Proof.Machine

/-- The conversion in flight completes; without one, nothing does (R44). -/
def State.conversionEnds (s : State) (code : DetectorCode) : State :=
  match s.scanner.conversion with
  | none => s
  | some i => s.convert i code

/-- CONVERSION_COMPLETE (R44). -/
def execConversionComplete (code : DetectorCode) (s : State) : Result := .next (s.conversionEnds code)

/-- VSWR_TRIP_RELEASE (R54). -/
def execVswrTripRelease (s : State) : Result := .next s.releaseTrip

end Sys2Proof.Machine
end

