-- ==== Sys2Proof/Machine/StartCommands.lean ====
section
/-! DEFINITION. The commands of power, reset and the configuration store, and the LISTEN timer's expiry (chapter 10). -/

namespace Sys2Proof.Machine

/-- POWER_ON (R179, R180, R196). -/
def execPowerOn (cycleApplied : Bool) (s : State) : Result := .next (s.powerOn cycleApplied)

/-- PIN_RESET (R179, R180, R196). -/
def execPinReset (cycleApplied : Bool) (s : State) : Result := .next (s.pinReset cycleApplied)

/-- PIN_RESET_STORE_WAIT_END (R196). -/
def execPinResetStoreWaitEnd (s : State) : Result := .next s.storeWaitEnd

/-- LISTEN_TIMER_EXPIRY (R189). -/
def execListenTimerExpiry (s : State) : Result := .next s.listenExpiry

/-- CONFIG_READ_END (R185 to R187). -/
def execConfigReadEnd (image : Vector Byte 97) (s : State) : Result := .next (s.configReadEnd image.toList)

/-- CRASH_READ_END (R182, R191). -/
def execCrashReadEnd (s : State) : Result := .next s.crashReadEnd

/-- I2C_TRANSFER_FAIL (R183). -/
def execI2cTransferFail (later : Bool) (s : State) : Result := .next (s.transferFails later)

/-- WRITE_CYCLE_END (R183, R192, R194). -/
def execWriteCycleEnd (s : State) : Result := .next s.cycleEnd

end Sys2Proof.Machine
end

