-- ==== Sys2Proof/Machine/TrunkCommands.lean ====
section
/-! DEFINITION. The commands of the trunk line and of the trunk port's own timers (chapters 1 and 8). -/

namespace Sys2Proof.Machine

/-! ### The end of a frame (R11 to R13) -/

/-- A good frame is delivered by its kind (R13). -/
def State.deliverFrame (s : State) (f : Frame) : State :=
  match f.kind with
  | .beacon => s.takeBeacon f.source.toNat f.payload
  | .directive => s.deliverDirective f.source f.destination f.payload
  | .answer => s

/-- The bytes of a reception are checked and delivered, counted as a bad frame, or discarded, by the own attempt that they overlap
(R11, R12, R13). -/
def State.takeReception (s : State) (overlap : Option AttemptEnd) (wholeBytes : Bool) (bytes : List Byte) : State :=
  match overlap with
  | some .clean => s
  | some .collided =>
    match receivedFrame wholeBytes bytes with
    | some f => s.deliverFrame f
    | none => s
  | none =>
    match receivedFrame wholeBytes bytes with
    | some f => s.deliverFrame f
    | none => s.countBadFrame

/-- The line has been idle for 4 us after a frame: it is idle, the reception's overlap is used up, and a slot under way was lost
(R2, R7, R11). -/
def Port.endReception (p : Port) : Port := { p with line := .idle, overlap := none, tx := p.lostSlot }

/-- The port drives the line. -/
def Port.isSending (p : Port) : Bool :=
  match p.tx with
  | .sending _ => true
  | .silent => false
  | .idle => false
  | .gap _ => false
  | .countdown _ => false

/-- The line as it stands after a frame: idle. -/
def State.lineIdle (s : State) : State := s.setPort { s.port with line := .idle }

/-- The end of a frame on the line, `wait` ms after the command before it. A receiver that is off gathers nothing (R3), nor does one
that has no footing yet (R2); while the port itself drives the line no end is recognised. -/
def State.frameEnds (s : State) (wait : Ms) (wholeBytes : Bool) (bytes : List Byte) : State :=
  let s1 := s.advance wait.toNat
  if s1.port.isSending then s1
  else if !s1.port.receiver then s1.lineIdle
  else if s1.port.footing then (s1.setPort s1.port.endReception).takeReception s1.port.overlap wholeBytes bytes
  else s1

/-- RECEIVED_FRAME (R11 to R13). -/
def execReceivedFrame (wait : Ms) (wholeBytes : Bool) (bytes : List Byte) (s : State) : Result :=
  .next (s.frameEnds wait wholeBytes bytes)

/-! ### The line and the transmit side (R2, R6 to R9) -/

/-- LINE_ACTIVITY (R2, R6, R7). -/
def execLineActivity (s : State) : Result := .next s.lineActivity

/-- GAP_COMPLETE (R2, R6, R7). -/
def execGapComplete (s : State) : Result := .next s.gapComplete

/-- BACKOFF_SLOT_COMPLETE (R7). -/
def execBackoffSlotComplete (s : State) : Result := .next s.slotComplete

/-- COLLISION (R9). -/
def execCollision (s : State) : Result := .next s.collision

/-- CLEAN_FRAME (R8). -/
def execCleanFrame (s : State) : Result := .next s.cleanFrame

/-- BEACON_JITTER_END (R143). -/
def execBeaconJitterEnd (s : State) : Result := .next s.jitterEnd

/-- The receiver takes its footing at the first 4 us of idle after it was switched on with the line busy (R2). -/
def State.firstIdle (s : State) : State :=
  if s.port.receiver && !s.port.footing then s.setPort { s.port with footing := true, line := .idle } else s

/-- RECEIVER_FIRST_IDLE (R2). -/
def execReceiverFirstIdle (s : State) : Result := .next s.firstIdle

/-- TRUNK_NOISE_CLEAR (R15). -/
def execTrunkNoiseClear (s : State) : Result := .next s.settleNoise

end Sys2Proof.Machine
end

