-- ==== Sys2Proof/Machine/Dispatch.lean ====
section
/-! DEFINITION. The meaning of each command: one arm for each constructor of Instr, in the table's order. -/

namespace Sys2Proof.Machine

def exec (i : Instr) (s : State) : Host.Outcome State Fault Refusal :=
  match i with
  | .powerOn cycleApplied => Sys2Proof.Machine.execPowerOn cycleApplied s
  | .pinReset cycleApplied => Sys2Proof.Machine.execPinReset cycleApplied s
  | .pinResetStoreWaitEnd => Sys2Proof.Machine.execPinResetStoreWaitEnd s
  | .receivedFrame wait wholeBytes bytes => Sys2Proof.Machine.execReceivedFrame wait wholeBytes bytes s
  | .lineActivity => Sys2Proof.Machine.execLineActivity s
  | .gapComplete => Sys2Proof.Machine.execGapComplete s
  | .backoffSlotComplete => Sys2Proof.Machine.execBackoffSlotComplete s
  | .collision => Sys2Proof.Machine.execCollision s
  | .cleanFrame => Sys2Proof.Machine.execCleanFrame s
  | .beaconJitterEnd => Sys2Proof.Machine.execBeaconJitterEnd s
  | .epochExpiry => Sys2Proof.Machine.execEpochExpiry s
  | .configFaultEpochExpiry => Sys2Proof.Machine.execConfigFaultEpochExpiry s
  | .listenTimerExpiry => Sys2Proof.Machine.execListenTimerExpiry s
  | .conversionComplete code => Sys2Proof.Machine.execConversionComplete code s
  | .rampTick => Sys2Proof.Machine.execRampTick s
  | .writeComplete => Sys2Proof.Machine.execWriteComplete s
  | .silenceSuspectLimit position => Sys2Proof.Machine.execSilenceSuspectLimit position s
  | .silenceLostLimit position => Sys2Proof.Machine.execSilenceLostLimit position s
  | .startUpLimit => Sys2Proof.Machine.execStartUpLimit s
  | .idClashClear => Sys2Proof.Machine.execIdClashClear s
  | .trunkNoiseClear => Sys2Proof.Machine.execTrunkNoiseClear s
  | .reCredit => Sys2Proof.Machine.execReCredit s
  | .vswrTripRelease => Sys2Proof.Machine.execVswrTripRelease s
  | .configReadEnd image => Sys2Proof.Machine.execConfigReadEnd image s
  | .crashReadEnd => Sys2Proof.Machine.execCrashReadEnd s
  | .i2cTransferFail later => Sys2Proof.Machine.execI2cTransferFail later s
  | .writeCycleEnd => Sys2Proof.Machine.execWriteCycleEnd s
  | .faultAck source destination rest => Sys2Proof.Machine.execFaultAck source destination rest s
  | .carrierMask source destination rest => Sys2Proof.Machine.execCarrierMask source destination rest s
  | .spreadMode source destination rest => Sys2Proof.Machine.execSpreadMode source destination rest s
  | .quiet source destination rest => Sys2Proof.Machine.execQuiet source destination rest s
  | .speak source destination rest => Sys2Proof.Machine.execSpeak source destination rest s
  | .restart source destination rest => Sys2Proof.Machine.execRestart source destination rest s
  | .statusQuery source destination rest => Sys2Proof.Machine.execStatusQuery source destination rest s
  | .snapshotQuery source destination rest => Sys2Proof.Machine.execSnapshotQuery source destination rest s
  | .tableRead wait source destination rest => Sys2Proof.Machine.execTableRead wait source destination rest s
  | .unknownDirective source destination payload => Sys2Proof.Machine.execUnknownDirective source destination payload s
  | .receiverFirstIdle => Sys2Proof.Machine.execReceiverFirstIdle s

end Sys2Proof.Machine
end

