-- ==== Sys2Proof/Safety.lean ====
section
/-! DEFINITION. What holds of every state that a run reaches, one block of the part at a time: the terms in which the statements say
that a step keeps it. -/

namespace Sys2Proof.Machine

/-! ### The store controller -/

/-- The two reads are in flight in LOAD alone (R182). -/
def State.ReadsInLoad (s : State) : Prop :=
  match s.ctl.operation with
  | none => True
  | some op =>
    match op.operation with
    | .configRead => s.ctl.node = .load
    | .crashRead => s.ctl.node = .load
    | .crashWrite _ _ => True
    | .crashErase _ _ => True

/-- The limits of an image's judged fields that the carriers and the offsets rest on (R184, R187). -/
structure Image.InRange (image : Image) : Prop where
  slots : ∀ (i : Fin 8) (c : SlotConfig), image.slots[i] = some c → c.floor ≤ c.ceiling ∧ c.ceiling ≤ 143
  smin : image.smin ≤ 0

/-- A usable image is within its limits. -/
def State.ImageInRange (s : State) : Prop := ∀ image, s.ctl.image = .usable image → image.InRange

/-! ### The fault table and its outputs -/

/-- No two entries of the table have the same code and subject (R114). -/
def State.EntriesDistinct (s : State) : Prop := ((entries s.supervisor.table).map FaultEntry.key).Nodup

/-- The ALARM line, the derating level and the DOWN condition are those of the table as it stands (R128 to R130). -/
structure State.OutputsFollow (s : State) : Prop where
  alarm : s.supervisor.alarm = alarmLevel s.supervisor.table
  derating : s.alloc.derating = deratingLevel s.supervisor.table
  down : s.alloc.down = downCondition s.supervisor.table

/-- The outputs follow the table, and no recompute is left to be taken. -/
structure State.Settled (s : State) : Prop where
  follow : s.OutputsFollow
  taken : s.alloc.recomputeDue = false

/-- The table holds `n` entries at most. -/
def AtMost (n : Nat) (t : FaultTable) : Prop := (entries t).length ≤ n

/-- A raise acted on the entry of the condition: with none and room in the table, a new one stands in the lowest empty position; one
that was CLEARED-UNACKED is ACTIVE-UNACKED again where it stood, with its count, last epoch and credit renewed; an ACTIVE one is as
it was (R118). -/
def RaisedIn (before after : FaultTable) (code : FaultCode) (subject : Nat) (stamp : EpochCount) : Prop :=
  (∀ q : Fin 24, findEntry before code subject = none → firstEmpty before = some q →
    findEntry after code subject = some (q, ⟨code, subject, .activeUnacked, stamp, stamp, 1, 3⟩)) ∧
  ∀ (p : Fin 24) (e : FaultEntry), findEntry before code subject = some (p, e) →
    findEntry after code subject = some (p, if e.state = .clearedUnacked then
      { e with state := .activeUnacked, lastEpoch := stamp, count := min 255 (e.count + 1), credit := 3 } else e)

/-- A raise acted on the entry of the condition as `RaisedIn` says, among other raises and clears of the same moment, so that a new
entry stands in some position (R118). -/
def RaisedAmong (before after : FaultTable) (code : FaultCode) (subject : Nat) (stamp : EpochCount) : Prop :=
  (findEntry before code subject = none →
    ∃ q : Fin 24, findEntry after code subject = some (q, ⟨code, subject, .activeUnacked, stamp, stamp, 1, 3⟩)) ∧
  ∀ (p : Fin 24) (e : FaultEntry), findEntry before code subject = some (p, e) →
    findEntry after code subject = some (p, if e.state = .clearedUnacked then
      { e with state := .activeUnacked, lastEpoch := stamp, count := min 255 (e.count + 1), credit := 3 } else e)

/-- A clear acted on the entry of the condition: an ACTIVE-UNACKED one is CLEARED-UNACKED with its credit renewed, an ACTIVE-ACKED
one is gone, a CLEARED-UNACKED one is as it was, all at the position they had (R119). -/
def ClearedIn (before after : FaultTable) (code : FaultCode) (subject : Nat) : Prop :=
  ∀ (p : Fin 24) (e : FaultEntry), findEntry before code subject = some (p, e) →
    (e.state = .activeUnacked → findEntry after code subject = some (p, { e with state := .clearedUnacked, credit := 3 })) ∧
    (e.state = .activeAcked → findEntry after code subject = none) ∧
    (e.state = .clearedUnacked → findEntry after code subject = some (p, e))

/-- What the entry of a code and subject that entered ACTIVE-UNACKED at MAJOR or above from `s` did to the snapshot: with none held,
one is held that shows the node as it stood in `s`, and the faults-since-snapshot count is 0; a held one is kept, and the count has
risen by 1, saturating at 255 (R131, R132, R133). -/
def State.CapturedOrCounted (s : State) (code : FaultCode) (subject : Nat) (after : Supervisor) : Prop :=
  (s.supervisor.snapshot = none → after.sinceSnapshot = 0 ∧ ∃ p, after.snapshot = some p ∧
    p.code = code ∧ p.subject = subject ∧ p.epoch = s.stamp ∧ p.node = s.ctl.node ∧ p.beff = s.alloc.beff ∧
    p.slots = s.alloc.slots ∧ (s.spread.records = none → p.operators = []) ∧
    (∀ r, s.spread.records = some r → p.operators = r.operators.map fun o => (o.operator, o.load, o.offset)) ∧
    p.liveAdjacent = s.view.countAdjacent .live ∧ p.lostAdjacent = s.view.countAdjacent .lost ∧
    p.lastTemp = s.scanner.lastTemp) ∧
  ∀ p, s.supervisor.snapshot = some p →
    after.snapshot = some p ∧ after.sinceSnapshot = min 255 (s.supervisor.sinceSnapshot + 1)

/-- How the store controller answers a request for a crash erase: with nothing in flight or pending, and the region FOUND_VALID,
FOUND_TORN or UNKNOWN, the erase is started at its first step, before any marker is read; in every other case nothing changes
(R194). -/
def EraseAnswered (before after : StoreCtl) : Prop :=
  (before.operation = none → before.pendingWrite = none →
    before.region = .foundValid ∨ (∃ valid, before.region = .foundTorn valid) ∨ before.region = .unknown →
    after = { before with operation := some ⟨.crashErase 0 false, 0, before.clock⟩ }) ∧
  (before.operation ≠ none ∨ before.pendingWrite ≠ none ∨ before.region = .empty ∨ before.region = .written →
    after = before)

/-- How the store controller answers a request for a crash write that carries `record`: with nothing in flight, the write is started
with it where the region is EMPTY or FOUND_TORN and not acted on where it is FOUND_VALID, WRITTEN or UNKNOWN; a crash write in
flight leaves it not acted on; a crash erase in flight holds it pending, unless a write is pending already, which keeps its own
record (R193). -/
def WriteAnswered (before after : StoreCtl) (record : CrashRecord) : Prop :=
  (before.operation = none → before.region = .empty ∨ (∃ valid, before.region = .foundTorn valid) →
    after = { before with operation := some ⟨.crashWrite 0 record, 0, before.clock⟩ }) ∧
  (before.operation = none → before.region = .foundValid ∨ before.region = .written ∨ before.region = .unknown →
    after = before) ∧
  ∀ op : InFlight, before.operation = some op →
    (∀ step earlier, op.operation = .crashWrite step earlier → after = before) ∧
    ∀ step marker, op.operation = .crashErase step marker →
      (before.pendingWrite = none → after = { before with pendingWrite := some record }) ∧
      (before.pendingWrite ≠ none → after = before)

/-- The entry at `p` goes before the one at `q` by severity, lowest first, then by the stamp that `epoch` names, oldest first, then
by position, lowest first: the order in which entries are evicted (R123, R124). -/
def EvictedBefore (t : FaultTable) (epoch : FaultEntry → EpochCount) (p q : Fin 24) : Prop :=
  ∀ e f, t[p] = some e → t[q] = some f →
    e.code.severity.number < f.code.severity.number ∨
      (e.code.severity.number = f.code.severity.number ∧
        ((epoch e).toNat < (epoch f).toNat ∨ ((epoch e).toNat = (epoch f).toNat ∧ p < q)))

/-- The entry at `p` goes before the one at `q` by severity, highest first, then by first epoch, lowest first, then by position,
lowest first: the order in which a beacon summarises entries (R149). -/
def SummarisedBefore (t : FaultTable) (p q : Fin 24) : Prop :=
  ∀ e f, t[p] = some e → t[q] = some f →
    f.code.severity.number < e.code.severity.number ∨
      (e.code.severity.number = f.code.severity.number ∧
        (e.firstEpoch.toNat < f.firstEpoch.toNat ∨ (e.firstEpoch.toNat = f.firstEpoch.toNat ∧ p < q)))

/-- The entry at `p` holds credit and its severity is at or above the floor (R148). -/
def EligibleAt (t : FaultTable) (floor : Severity) (p : Fin 24) : Prop :=
  ∃ e, t[p] = some e ∧ 0 < e.credit ∧ floor.number ≤ e.code.severity.number

/-! ### Carriers -/

/-- The applied codes of the ACTIVE slots. -/
def appliedCodes (slots : Vector SlotState 8) : List Nat := slots.toList.filterMap SlotState.applied

/-- Every ACTIVE slot is configured, and its codes stand in order: floor, applied code, target, ceiling (R93). -/
def State.CodesInOrder (s : State) : Prop :=
  ∀ (i : Fin 8) (target applied : Nat), s.alloc.slots[i] = .active target applied →
    ∃ c, s.cfg.slots[i] = some c ∧ c.floor ≤ applied ∧ applied ≤ target ∧ target ≤ c.ceiling

/-- The targets of the ACTIVE slots. -/
def targetCodes (slots : Vector SlotState 8) : List Nat := slots.toList.filterMap SlotState.target

/-- The raw target of a slot under the offsets held: its request plus the offset of its operator, within floor and ceiling (R90). -/
def SlotConfig.rawUnder (offsets : List (Nat × Int)) (c : SlotConfig) : Nat :=
  (min (c.ceiling : Int) (max (c.floor : Int) ((c.request : Int) + heldOffset offsets c.operator))).toNat

/-- The floors of the ACTIVE slots below slot `i` (R88). -/
def floorsBelow (image : Image) (slots : Vector SlotState 8) (i : Fin 8) : List Nat :=
  (List.finRange 8).filterMap fun j =>
    if j < i ∧ slots[j].isActive = true then image.slots[j].map SlotConfig.floor else none

/-- The terms of the ACTIVE slots under a reduction by `r`: max(f, t - r) for floor f and raw target t (R92). -/
def termsUnder (image : Image) (a : Alloc) (r : Nat) : List Nat :=
  (List.finRange 8).filterMap fun i =>
    if a.slots[i].isActive = true then image.slots[i].map fun c => max c.floor (c.rawUnder a.offsets - r) else none

/-- A present slot makes its operator constrained: it is not ACTIVE, or its target is below its raw target, or its request plus the
offset exceeds its ceiling (R96). -/
def SlotConfig.Constrains (offsets : List (Nat × Int)) (c : SlotConfig) (slot : SlotState) : Prop :=
  slot.isActive = false ∨ (∃ target, slot.target = some target ∧ target < c.rawUnder offsets) ∨
    (c.ceiling : Int) < (c.request : Int) + heldOffset offsets c.operator

/-- The slots and the flags are what a recompute in RUN makes of the effective budget, the DOWN condition, the mute flags and the
offsets held. -/
structure Allocated (image : Image) (beff : Nat) (a : Alloc) : Prop where
  /-- A slot that is not present is IDLE; with DOWN every present slot is DOWN; without it one with its mute flag set is MUTED
  (R81). -/
  absent : ∀ i : Fin 8, image.slots[i] = none → a.slots[i] = .idle
  down : a.down = true → ∀ (i : Fin 8) (c : SlotConfig), image.slots[i] = some c → a.slots[i] = .down
  muted : a.down = false → ∀ (i : Fin 8) (c : SlotConfig), image.slots[i] = some c → a.mute[i] = true → a.slots[i] = .muted
  /-- Every other is ACTIVE where its floor fits beside those of the ACTIVE slots below it, and otherwise SHED (R81, R88). -/
  candidates : a.down = false → ∀ (i : Fin 8) (c : SlotConfig), image.slots[i] = some c → a.mute[i] = false →
    if linSum (floorsBelow image a.slots i) + lin c.floor ≤ lin beff then a.slots[i].isActive = true else a.slots[i] = .shed
  /-- One reduction serves every ACTIVE slot: the smallest for which the terms fit, 0 where the raw targets do (R90, R92). -/
  targets : ∃ r, linSum (termsUnder image a r) ≤ lin beff ∧ (∀ q, q < r → lin beff < linSum (termsUnder image a q)) ∧
    ∀ (i : Fin 8) (c : SlotConfig) (target applied : Nat), image.slots[i] = some c → a.slots[i] = .active target applied →
      target = max c.floor (c.rawUnder a.offsets - r)
  /-- One flag for each operator among the present slots, set exactly where one of them makes it constrained (R96). -/
  flags : ∀ (k : Nat) (flag : Bool), k ≤ 15 → ((k, flag) ∈ a.flags ↔
    (∃ (i : Fin 8) (c : SlotConfig), image.slots[i] = some c ∧ c.operator = k) ∧
      (flag = true ↔ ∃ (i : Fin 8) (c : SlotConfig), image.slots[i] = some c ∧ c.operator = k ∧
        c.Constrains a.offsets a.slots[i]))

/-- The carriers are within the budget (R85, R92, R93), and in RUN they and the flags are what a recompute makes of the inputs as
they stand, whichever of its triggers came last (R81, R83, R84, R88, R90, R96): a ramp tick changes no state, target or flag. -/
structure State.WithinBudget (s : State) : Prop where
  reads : s.ReadsInLoad
  image : s.ImageInRange
  taken : s.alloc.recomputeDue = false
  beff : s.alloc.beff = if s.inRun then some (s.cfg.budget - s.alloc.derating) else none
  off : s.inRun = false → anyActive s.alloc.slots = false
  order : s.CodesInOrder
  fits : s.inRun = true → linSum (targetCodes s.alloc.slots) ≤ lin (s.cfg.budget - s.alloc.derating)
  allocated : s.inRun = true → Allocated s.cfg (s.cfg.budget - s.alloc.derating) s.alloc

/-- The amplifier is on only while some slot is ACTIVE, and the writer knows whether one is (R97, R107). -/
structure State.AmplifierSafe (s : State) : Prop where
  known : s.writer.indicator = anyActive s.alloc.slots
  off : s.writer.indicator = false → s.writer.paEnable = false

/-- What the one recompute taken between `s` and `t` did to the applied codes, and, with room in the fault table for every raise, to
the marks and the entries of FLOOR_SHED. -/
structure State.OneRecompute (s t : State) : Prop where
  /-- A slot newly ACTIVE is at its floor, any other ACTIVE one at the lesser of the code it had and its target (R93). -/
  applied : ∀ (i : Fin 8) (c : SlotConfig) (target applied : Nat), s.cfg.slots[i] = some c →
    t.alloc.slots[i] = .active target applied →
    (∀ old code, s.alloc.slots[i] = .active old code → applied = min code target) ∧
    (s.alloc.slots[i].isActive = false → applied = c.floor)
  /-- A slot that entered SHED has its mark set and FLOOR_SHED raised (R89). -/
  shed : ∀ i : Fin 8, t.alloc.slots[i] = .shed → s.alloc.slots[i] ≠ .shed →
    t.alloc.shedMarks[i] = true ∧ RaisedAmong s.supervisor.table t.supervisor.table .floorShed i.val s.stamp
  /-- A slot admitted with its mark standing has lost the mark, and FLOOR_SHED is cleared (R89). -/
  admitted : ∀ i : Fin 8, t.alloc.slots[i].isActive = true → s.alloc.shedMarks[i] = true →
    t.alloc.shedMarks[i] = false ∧ ClearedIn s.supervisor.table t.supervisor.table .floorShed i.val
  /-- Every other slot has its mark and its FLOOR_SHED as they were. -/
  kept : ∀ i : Fin 8, (t.alloc.slots[i] = .shed → s.alloc.slots[i] = .shed) →
    (t.alloc.slots[i].isActive = true → s.alloc.shedMarks[i] = false) →
    t.alloc.shedMarks[i] = s.alloc.shedMarks[i] ∧
      findEntry t.supervisor.table .floorShed i.val = findEntry s.supervisor.table .floorShed i.val

/-- What the writer holds of each slot's output (R97, R104, R106): its drive value waits in the dirty set, or nothing waits and it
is the held value. -/
def Writer.Carries (w : Writer) (image : Image) (slots : Vector SlotState 8) : Prop :=
  ∀ i : Fin 8,
    (∃ p, w.dirty[i] = some p ∧ p.value = driveOf image i slots[i].applied) ∨
      (w.dirty[i] = none ∧ w.held[i] = some (driveOf image i slots[i].applied))

/-- Every output of the allocation unit has reached the writer, and every value held the transceiver, but for the write in flight.
-/
structure State.OutputsReachWriter (s : State) : Prop where
  reads : s.ReadsInLoad
  taken : s.alloc.recomputeDue = false
  idle : s.inRun = false → anyActive s.alloc.slots = false
  outputs : s.writer.Carries s.cfg s.alloc.slots
  /-- A write in flight carries the held value of its slot (R102). -/
  flight : ∀ f, s.writer.inFlight = some f → s.writer.held[f.slot] = some f.value
  /-- A held value with no write in flight for its slot is what the transceiver took last for it (R102, R113). -/
  settings : ∀ (i : Fin 8) (value : Drive), s.writer.held[i] = some value →
    (∀ f, s.writer.inFlight = some f → f.slot ≠ i) → s.writer.transceiver[i] = some (driveWord i value)

/-- The flags handed stand in the mirrors of their operators' records; the records are otherwise as they were (R75, R96). -/
def MirrorsTake (flags : List (Nat × Bool)) (before after : Spread) : Prop :=
  after.lostCount = before.lostCount ∧ (before.records = none → after.records = none) ∧
  ∀ r, before.records = some r → ∃ operators, after.records = some { r with operators := operators } ∧
    operators.length = r.operators.length ∧
    ∀ (i : Nat) (o o' : OperatorRecord), r.operators[i]? = some o → operators[i]? = some o' →
      o' = { o with constrained := o'.constrained } ∧
      (∀ flag, (o.operator, flag) ∈ flags → o'.constrained = flag) ∧
      ((∀ flag, (o.operator, flag) ∉ flags) → o'.constrained = o.constrained)

/-! ### Offsets -/

/-- Every offset lies within its limits (R71 to R73), and the limit is that of the number of adjacent entries that are LOST, which
the controller has been handed (R36, R40). -/
structure State.OffsetsInLimits (s : State) : Prop where
  reads : s.ReadsInLoad
  image : s.ImageInRange
  run : s.spread.records.isSome → s.inRun
  cleared : s.ctl.node = .load → ∀ p : Fin 16, p.val < 8 → s.view.table[p] = none
  handed : s.spread.lostCount = s.view.countAdjacent .lost
  limit : ∀ r, s.spread.records = some r → r.smaxEff = smaxEffOf s.cfg r.current s.spread.lostCount
  inLimits : ∀ r, s.spread.records = some r → ∀ o ∈ r.operators, s.cfg.smin ≤ o.offset ∧ o.offset ≤ r.smaxEff

/-- The offset set of the records has been handed: the allocation unit holds the offset of each operator record, and of every other
operator what it held before (R74, R90). -/
def SpreadRun.OffsetsHanded (r : SpreadRun) (before after : Alloc) : Prop :=
  ((r.operators.map OperatorRecord.operator).Nodup → ∀ o ∈ r.operators, heldOffset after.offsets o.operator = o.offset) ∧
  ∀ k, (∀ o ∈ r.operators, o.operator ≠ k) → heldOffset after.offsets k = heldOffset before.offsets k

/-! ### The trunk port -/

/-- The queue holds at most three answers and one beacon, each in one of its eight attempts (R4, R9, R16). -/
structure Port.QueueInBounds (p : Port) : Prop where
  room : p.answers.length ≤ 3
  answers : ∀ a ∈ p.answers, 1 ≤ a.attempt ∧ a.attempt ≤ 8
  beacon : ∀ n, p.beacon = some n → 1 ≤ n ∧ n ≤ 8

/-- The receiver and the transmitter are on where the node state says so: the receiver everywhere but in LOAD; nothing queued or
sent in LISTEN or by a node without an id, and the transmitter not SILENT in RUN, nor in CONFIG_FAULT with an own id (R3, R6). -/
structure State.PortByNodeState (s : State) : Prop where
  reads : s.ReadsInLoad
  receiver : s.port.receiver = (s.ctl.node != .load)
  silent : s.ctl.node = .listen ∨ s.ownId = none →
    s.port.tx = .silent ∧ s.port.answers = [] ∧ s.port.beacon = none ∧ s.port.beaconWaiting = false ∧
      s.composer.request = none
  sends : s.ctl.node = .run ∨ s.ctl.node = .configFault → s.ownId ≠ none → s.port.tx ≠ .silent

end Sys2Proof.Machine
end

