-- ==== Sys2Proof/Certificates/Slice0/Obligations.lean ====
section
/-! DEFINITION. The statements for the provers. Each says in its docstring which rules of spec/ it speaks for. A statement writes
`t = s.setPort t.port` to say that `t` is `s` but for the port, and so for the other blocks. -/

section

open Sys2Proof Sys2Proof.Machine

/-! ### The queue and the step -/

/-- The model's own queue (spec/95: a step is whole): a step carries out the command at the front on the state with the rest. The
queue and its order are the model's choice (log entry 3). -/
def Obligations.StepRunsFrontCommand : Prop :=
  ∀ (s : State) (c : Instr) (rest : List Instr), s.pending = c :: rest → step s = exec c (s.setPending rest)

/-- No command stops the machine in any state, and none touches the queue of waiting commands. That a command whose event cannot
occur changes nothing, and so completes too, is the model's reading (log entry 15). -/
def Obligations.EveryCommandCompletesAndKeepsQueue : Prop :=
  ∀ (c : Instr) (s : State), ∃ t, exec c s = .next t ∧ t.pending = s.pending

/-! ### Starts (chapter 10) -/

/-- What the part holds right after power-on (R20, R40, R57, R77, R100, R110, R140, R156, R178, R197). -/
def Obligations.ResetHoldsPowerOnValues : Prop :=
  let s := State.reset
  (s.ctl.node = .load ∧ s.ctl.cause = .powerOn ∧ s.ctl.clock = 0#32 ∧ s.ctl.image = .none ∧ s.ctl.listenTimer = none ∧
    s.ctl.epochTimer = none ∧ s.ctl.epoch = 0#32 ∧ s.ctl.operation = some ⟨.configRead, 0, 0#32⟩ ∧
    s.ctl.pendingWrite = none ∧ s.ctl.region = .unknown ∧ s.ctl.deferredRestart = false) ∧
  (s.port.receiver = false ∧ s.port.tx = .silent ∧ s.port.beacon = none ∧ s.port.answers = [] ∧ s.port.failures = 0 ∧
    s.port.badFrames = 0 ∧ s.port.cleanRun = 0 ∧ s.port.busyStanding = false ∧ s.port.noiseStanding = false ∧
    s.port.quiet = false) ∧
  ((∀ p : Fin 16, s.view.table[p] = none) ∧ s.view.cursors8 = ⟨0, 0⟩ ∧ s.view.cursors9 = ⟨0, 0⟩ ∧
    s.view.cursorsShared = ⟨0, 0⟩ ∧ s.view.listenEntry = none ∧ s.view.clash = none ∧ s.view.clashCount = 0) ∧
  (s.scanner.conversion = none ∧ s.scanner.forward = none ∧ s.scanner.badPairs = 0 ∧ s.scanner.goodPairs = 0 ∧
    (∀ c : Fin 11, s.scanner.stuck[c] = ⟨0, 0, false⟩) ∧ s.scanner.vswrWarn = false ∧ s.scanner.vswrTrip = false ∧
    s.scanner.tempWarn = false ∧ s.scanner.tempHigh = false ∧ s.scanner.tempLimit = false ∧ s.scanner.lastTemp = none) ∧
  (s.spread.records = none ∧ s.spread.lostCount = 0) ∧
  ((∀ i : Fin 8, s.alloc.slots[i] = .idle) ∧ (∀ i : Fin 8, s.alloc.mute[i] = false) ∧ s.alloc.beff = none ∧
    s.alloc.derating = 0 ∧ s.alloc.down = false ∧ s.alloc.ramp = none ∧ (∀ i : Fin 8, s.alloc.shedMarks[i] = false)) ∧
  ((∀ i : Fin 8, i ≠ 0 → s.writer.held[i] = none ∧ s.writer.dirty[i] = some ⟨.mute, true⟩) ∧
    s.writer.inFlight = some ⟨0, .mute, true⟩ ∧ s.writer.indicator = false ∧ s.writer.paEnable = false) ∧
  ((∀ p : Fin 24, s.supervisor.table[p] = none) ∧ s.supervisor.alarm = false ∧ s.supervisor.overflow = false ∧
    s.supervisor.snapshot = none ∧ s.supervisor.sinceSnapshot = 0 ∧ s.supervisor.reCreditCount = 0) ∧
  (s.composer.request = none ∧ s.composer.carried = [] ∧ s.composer.floor = none ∧ s.handler.lastRefusal = none)

/-- POWER_ON and PIN_RESET from any state take the values of power-on (R179, R180, R197). The port has stopped driving, and what
other stations do with the line goes on. The store keeps its bytes, but for the write cycle of the step in flight where the store
had applied it: then it holds that step's bytes too (R196; `State.applyCycle`, whose bytes for a crash write and a crash erase are
those of `CrashWriteStepsReachTheStore` and `CrashEraseStepsReachTheStore`). After a pin reset the first transfer of the
configuration read is held back (R196). That a cut cycle is applied in whole is the model's choice (log entry 13), and so is that
the transceiver, which is not reset, keeps what it took (log entry 12) and what the line is (log entry 11). -/
def Obligations.PowerOnAndPinResetTakeResetValues : Prop :=
  ∀ (cycleApplied : Bool) (s : State),
    let line : LineView := if s.port.isSending then .idle else s.port.line
    let store := if cycleApplied then s.applyCycle.store else s.store
    (∃ t, exec (.powerOn cycleApplied) s = .next t ∧
      t = { State.reset with
        pending := s.pending, draws := s.draws, store := store, port := { Port.reset with line := line } }) ∧
    (∃ t, exec (.pinReset cycleApplied) s = .next t ∧
      t = { State.reset with
        pending := s.pending, draws := s.draws, store := store, port := { Port.reset with line := line }
        ctl := { StoreCtl.reset with storeWait := true }
        writer := { Writer.reset with transceiver := s.writer.transceiver } }) ∧
    (∀ (op : InFlight) (address : Nat) (bytes : List Byte), s.store.wf → s.ctl.operation = some op →
      op.operation.written s.ctl.region s.marker = some (address, bytes) →
      ∀ a, s.applyCycle.store.read a =
        if address ≤ a ∧ a < address + bytes.length then byteAt bytes (a - address) else s.store.read a) ∧
    ((∀ op, s.ctl.operation = some op → op.operation.written s.ctl.region s.marker = none) → s.applyCycle.store = s.store)

/-- PIN_RESET_STORE_WAIT_END: the wait ends, 5 ms of the own clock after LOAD entry, and nothing else changes (R196). That the
command brings the clock to its moment is the model's choice (log entry 3). -/
def Obligations.StoreWaitEndsAfterFiveMilliseconds : Prop :=
  ∀ s : State, s.ctl.storeWait = true → ∃ t, exec .pinResetStoreWaitEnd s = .next t ∧
    t = s.setCtl { s.ctl with storeWait := false, clock := t.ctl.clock } ∧
    t.ctl.clock = (if s.ctl.clock.toNat < 5 then 5#32 else s.ctl.clock)

/-- CONFIG_READ_END in LOAD: the image brought stands in the store, is judged, and the crash read starts; the carriers, the port,
the view, the scanner, the handler and every other byte of the store are as they were. What the judgement raises is said with the
table empty before it. An image that is not usable raises CFG_BAD once, in position 0, and ALARM is asserted. The subject is 0 where
the image is blank, 1 for a wrong format marker, 2 for a wrong length; then, of an image whose frame passes, the first field that
fails: 3 for the node id, 5 for the supervisor list, 6 for the adjacent list, and of the lowest slot that fails its operator id or
its floor. From 5 on the node id is valid and kept. A usable image raises CFG_CLAMPED for each clamped field in ascending index, of
which the table takes the first 24 and sets the overflow flag for more (R117, R118, R124, R130, R182, R185 to R188, R201). That the
command brings the image is the model's choice (log entry 7). -/
def Obligations.ConfigReadJudgesTheImage : Prop :=
  ∀ (image : Vector Byte 97) (s : State) (op : InFlight),
    s.ctl.operation = some op → op.operation = .configRead → s.ctl.storeWait = false → s.ctl.node = .load →
    s.alloc.recomputeDue = false → s.store.wf →
    let b (i : Nat) : Nat := imageByte image.toList i
    let framed := (image[0] = 0xC7#8 ∧ image[1] = 0x2E#8) ∧ (image[2] = 0#8 ∧ image[3] = 97#8)
    let supervisors := [b 8, b 9].take (b 7)
    let adjacents := [b 11, b 12, b 13, b 14, b 15, b 16, b 17, b 18].take (b 10)
    let bad3 := ¬(1 ≤ b 4 ∧ b 4 ≤ 62)
    let bad5 := 2 < b 7 ∨ ¬ supervisors.Nodup ∨ ∃ id ∈ supervisors, ¬(1 ≤ id ∧ id ≤ 62) ∨ id = b 4
    let bad6 := 8 < b 10 ∨ ¬ adjacents.Nodup ∨ ∃ id ∈ adjacents, ¬(1 ≤ id ∧ id ≤ 62) ∨ id = b 4 ∨ id ∈ supervisors
    let badSlot (k subject : Nat) : Prop := b (33 + 8 * k) = 1 ∧
      ((subject = 33 + 8 * k ∧ b (34 + 8 * k) = 0) ∨
        (subject = 36 + 8 * k ∧ b (34 + 8 * k) ≠ 0 ∧ b (38 + 8 * k) < b (37 + 8 * k)))
    ∃ t, exec (.configReadEnd image) s = .next t ∧
      t.ctl = { s.ctl with
        image := (judgeRead image.toList).held, operation := some ⟨.crashRead, 0, s.ctl.clock⟩ } ∧
      t.store.wf ∧ (∀ a, t.store.read a = if h : a < 97 then image[a] else s.store.read a) ∧
      t.port = s.port ∧ t.view = s.view ∧ t.scanner = s.scanner ∧ t.spread = s.spread ∧ t.writer = s.writer ∧
      t.alloc.slots = s.alloc.slots ∧ t.alloc.mute = s.alloc.mute ∧ t.handler = s.handler ∧ t.draws = s.draws ∧
      (∀ subject : Nat, s.supervisor.table = Vector.replicate 24 none →
        ((subject = 0 ∧ ∀ i : Fin 97, image[i] = 255#8) ∨
          (subject = 1 ∧ (∃ i : Fin 97, image[i] ≠ 255#8) ∧ ¬(image[0] = 0xC7#8 ∧ image[1] = 0x2E#8)) ∨
          (subject = 2 ∧ (image[0] = 0xC7#8 ∧ image[1] = 0x2E#8) ∧ ¬(image[2] = 0#8 ∧ image[3] = 97#8)) ∨
          (subject = 3 ∧ framed ∧ bad3) ∨ (subject = 5 ∧ framed ∧ ¬ bad3 ∧ bad5) ∨
          (subject = 6 ∧ framed ∧ ¬ bad3 ∧ ¬ bad5 ∧ bad6) ∨
          (framed ∧ ¬ bad3 ∧ ¬ bad5 ∧ ¬ bad6 ∧ ∃ k, k < 8 ∧ badSlot k subject ∧ ∀ j x, j < k → ¬ badSlot j x)) →
        t.ctl.image = .unusable (if subject ≤ 3 then none else some (b 4)) ∧ t.supervisor.alarm = true ∧
          ∀ q : Fin 24, t.supervisor.table[q] =
            if q = 0 then some ⟨.cfgBad, subject, .activeUnacked, 0#32, 0#32, 1, 3⟩ else none) ∧
      (s.supervisor.table = Vector.replicate 24 none → framed → ¬ bad3 → ¬ bad5 → ¬ bad6 →
        (∀ k x, k < 8 → ¬ badSlot k x) →
        (∃ im, t.ctl.image = .usable im) ∧
        t.supervisor.overflow = (s.supervisor.overflow || decide (24 < (judgeRead image.toList).clamped.length)) ∧
        ∀ q : Fin 24, t.supervisor.table[q] = (judgeRead image.toList).clamped[q.val]?.map fun index =>
          ⟨.cfgClamped, index, .activeUnacked, 0#32, 0#32, 1, 3⟩)

/-- A usable image: no id is listed twice or is the node's own, every judged field is the field as read where it lies within its
range, its default where it holds the default code, and the end of the range otherwise, so that it lies within its range, and every
slot's request lies between its floor and its ceiling; the clamped fields, in ascending index, are those that were outside their
range (R184, R186, R187, R201). -/
def Obligations.UsableImageIsInRange : Prop :=
  ∀ (bytes : List Byte) (im : Image), (judgeRead bytes).held = .usable im →
    let b (i : Nat) : Nat := imageByte bytes i
    let w (i : Nat) : Nat := imageWord bytes i
    let signed (i : Nat) : Int := imageSigned bytes i
    let clamped := (judgeRead bytes).clamped
    im.nodeId = imageByte bytes 4 ∧ 1 ≤ im.nodeId ∧ im.nodeId ≤ 62 ∧
    (imageWord bytes 5 = 65535 → im.period = 100) ∧
    (50 ≤ imageWord bytes 5 ∧ imageWord bytes 5 ≤ 1000 → im.period = imageWord bytes 5) ∧
    50 ≤ im.period ∧ im.period ≤ 1000 ∧
    im.supervisors.length ≤ 2 ∧ im.adjacents.length ≤ 8 ∧ (im.nodeId :: im.supervisors ++ im.adjacents).Nodup ∧
    (∀ id ∈ im.supervisors ++ im.adjacents, 1 ≤ id ∧ id ≤ 62) ∧
    im.budget ≤ 143 ∧ 10 ≤ im.deadBand ∧ im.deadBand ≤ 250 ∧ -80 ≤ im.smin ∧ im.smin ≤ 0 ∧ im.smax ≤ 24 ∧
    im.fill ≤ 24 ∧ im.smax + im.fill ≤ 36 ∧ im.fwdMin ≤ 1023 ∧ 8 ≤ im.rlThreshold ∧ im.rlThreshold ≤ 160 ∧
    (∀ i : Fin 4, -16 ≤ im.bandOffsets[i] ∧ im.bandOffsets[i] ≤ 16) ∧
    (∀ (i : Fin 8) (c : SlotConfig), im.slots[i] = some c →
      1 ≤ c.operator ∧ c.operator ≤ 15 ∧ c.band ≤ 3 ∧ c.floor ≤ c.request ∧ c.request ≤ c.ceiling ∧ c.ceiling ≤ 143 ∧
      c.threshold ≤ 1023) ∧
    im.supervisors = [b 8, b 9].take (b 7) ∧
    im.adjacents = [b 11, b 12, b 13, b 14, b 15, b 16, b 17, b 18].take (b 10) ∧
    im.period = (if w 5 = 65535 then 100 else max 50 (min 1000 (w 5))) ∧ im.budget = min 143 (b 19) ∧
    im.startMode.number = min 3 (b 20) ∧ im.deadBand = (if b 21 = 255 then 50 else max 10 (min 250 (b 21))) ∧
    im.smin = (if signed 22 = -128 then -40 else max (-80) (min 0 (signed 22))) ∧
    im.smax = (if b 23 = 255 then 12 else min 24 (b 23)) ∧
    im.fill = min (if b 24 = 255 then 12 else min 24 (b 24)) (36 - im.smax) ∧
    im.reportFloor.number = (if b 25 = 255 then 2 else max 1 (min 4 (b 25))) ∧
    im.fwdMin = (if w 26 = 65535 then 200 else min 1023 (w 26)) ∧
    im.rlThreshold = (if b 28 = 255 then 40 else max 8 (min 160 (b 28))) ∧
    (∀ i : Fin 4, im.bandOffsets[i] = max (-16) (min 16 (signed (29 + i.val)))) ∧
    (∀ i : Fin 8, im.slots[i] = none ↔ b (33 + 8 * i.val) ≠ 1) ∧
    (∀ (i : Fin 8) (c : SlotConfig), im.slots[i] = some c →
      c.operator = min 15 (b (34 + 8 * i.val)) ∧ c.band = min 3 (b (35 + 8 * i.val)) ∧
      c.request = min c.ceiling (max c.floor (b (36 + 8 * i.val))) ∧ c.floor = min 143 (b (37 + 8 * i.val)) ∧
      c.ceiling = min 143 (b (38 + 8 * i.val)) ∧ c.threshold = min 1023 (w (39 + 8 * i.val)) ∧
      (33 + 8 * i.val ∈ clamped ↔ c.operator ≠ b (34 + 8 * i.val)) ∧
      (34 + 8 * i.val ∈ clamped ↔ c.band ≠ b (35 + 8 * i.val)) ∧
      (35 + 8 * i.val ∈ clamped ↔ c.request ≠ b (36 + 8 * i.val)) ∧
      (36 + 8 * i.val ∈ clamped ↔ c.floor ≠ b (37 + 8 * i.val)) ∧
      (37 + 8 * i.val ∈ clamped ↔ c.ceiling ≠ b (38 + 8 * i.val)) ∧
      (38 + 8 * i.val ∈ clamped ↔ c.threshold ≠ w (39 + 8 * i.val))) ∧
    clamped.Pairwise (· < ·) ∧
    (4 ∈ clamped ↔ w 5 ≠ 65535 ∧ im.period ≠ w 5) ∧ (7 ∈ clamped ↔ im.budget ≠ b 19) ∧
    (8 ∈ clamped ↔ im.startMode.number ≠ b 20) ∧ (9 ∈ clamped ↔ b 21 ≠ 255 ∧ im.deadBand ≠ b 21) ∧
    (10 ∈ clamped ↔ signed 22 ≠ -128 ∧ im.smin ≠ signed 22) ∧ (11 ∈ clamped ↔ b 23 ≠ 255 ∧ im.smax ≠ b 23) ∧
    (12 ∈ clamped ↔ b 24 ≠ 255 ∧ im.fill ≠ b 24) ∧ (13 ∈ clamped ↔ b 25 ≠ 255 ∧ im.reportFloor.number ≠ b 25) ∧
    (14 ∈ clamped ↔ w 26 ≠ 65535 ∧ im.fwdMin ≠ w 26) ∧ (15 ∈ clamped ↔ b 28 ≠ 255 ∧ im.rlThreshold ≠ b 28) ∧
    (∀ i : Fin 4, 16 + i.val ∈ clamped ↔ im.bandOffsets[i] ≠ signed (29 + i.val)) ∧
    ∀ index ∈ clamped, index = 4 ∨ (7 ≤ index ∧ index ≤ 19) ∨
      ∃ i : Fin 8, im.slots[i] ≠ none ∧ 33 + 8 * i.val ≤ index ∧ index ≤ 38 + 8 * i.val

/-- CRASH_READ_END: the region is judged by its two markers, nothing is in flight, and the node leaves LOAD: to LISTEN with a usable
image, its table built and its timer started, and otherwise to CONFIG_FAULT, where the report floor is NOTE. A torn record raises
PRIOR_TRIP with subject 1, a valid one with subject 0, in the lowest empty position (R40, R118, R148, R156, R182, R188, R189, R191,
R202). -/
def Obligations.CrashReadLeavesLoad : Prop :=
  ∀ (s : State) (op : InFlight),
    s.ctl.operation = some op → op.operation = .crashRead → s.ctl.node = .load → s.alloc.recomputeDue = false →
    ∃ t, exec .crashReadEnd s = .next t ∧ t.ctl.operation = none ∧
      t.ctl.region =
        (if (s.store.read 128).getLsbD 0 = false then .foundTorn (!(s.store.read 128).getLsbD 1)
         else if (s.store.read 128).getLsbD 1 = false then .foundValid else .empty) ∧
      (∀ im, s.ctl.image = .usable im →
        t.ctl.node = .listen ∧ t.ctl.listenTimer = some s.ctl.clock ∧ t.view.listenEntry = some s.ctl.clock ∧
        t.port.tx = s.port.tx ∧ t.composer.floor = s.composer.floor ∧
        ∀ p : Fin 16, t.view.table[p] =
          (if p.val < 8 then im.adjacents[p.val]? else if p.val < 10 then im.supervisors[p.val - 8]? else none).map
            fun id => ⟨id, .absent, none⟩) ∧
      (∀ id, s.ctl.image = .unusable id →
        t.ctl.node = .configFault ∧ t.ctl.epochTimer = some s.ctl.clock ∧ t.view = s.view ∧
        t.composer.floor = some .note ∧ t.port.tx = if id.isSome then .idle else .silent) ∧
      t.port.receiver = true ∧ t.store = s.store ∧ t.scanner = s.scanner ∧ t.spread = s.spread ∧
      t.alloc.slots = s.alloc.slots ∧ t.handler = s.handler ∧ t.draws = s.draws ∧ t.ctl.clock = s.ctl.clock ∧
      ∀ q : Fin 24, findEntry s.supervisor.table .priorTrip 0 = none → findEntry s.supervisor.table .priorTrip 1 = none →
        firstEmpty s.supervisor.table = some q →
        t.supervisor.table =
          (if (s.store.read 128).getLsbD 0 = false then
            s.supervisor.table.set q (some ⟨.priorTrip, 1, .activeUnacked, 0#32, 0#32, 1, 3⟩)
          else if (s.store.read 128).getLsbD 1 = false then
            s.supervisor.table.set q (some ⟨.priorTrip, 0, .activeUnacked, 0#32, 0#32, 1, 3⟩)
          else s.supervisor.table)

/-- I2C_TRANSFER_FAIL. Before the third try the transfer is repeated from this moment, and nothing but the count of its failed tries
and that moment, from which its write cycle is counted, changes; where an earlier transfer of a read has succeeded meanwhile, the
count begins again. The third failed try ends the operation: nothing is in flight and STORE_FAIL is raised with the operation as
subject, in the lowest empty position. Of the configuration read, which leaves no image, CFG_BAD is then raised with subject 0 and
the crash read starts; of the crash read the region is UNKNOWN, no PRIOR_TRIP is raised and the node leaves LOAD; of a crash write
or a crash erase the region is UNKNOWN, a write that was held pending behind an erase is discarded, and the store keeps its bytes;
the last two are said where no RESTART is deferred (R182, R183, R185, R191 to R194). The count for each transfer by an operand is
the model's reading (log entry 14), and so is that a failed write leaves the bytes (log entry 13). -/
def Obligations.FailedTriesAreRepeatedThenEndTheOperation : Prop :=
  ∀ (s : State) (op : InFlight), s.ctl.operation = some op → s.ctl.storeWait = false →
    (op.failedTries < 2 → ∃ t, exec (.i2cTransferFail false) s = .next t ∧
      t = s.setCtl { s.ctl with
        operation := some { op with failedTries := op.failedTries + 1, since := s.ctl.clock } }) ∧
    (op.operation = .configRead ∨ op.operation = .crashRead → ∃ t, exec (.i2cTransferFail true) s = .next t ∧
      t = s.setCtl { s.ctl with operation := some { op with failedTries := 1, since := s.ctl.clock } }) ∧
    (op.failedTries = 2 → op.operation = .configRead → s.Settled → s.supervisor.table = Vector.replicate 24 none →
      ∃ t, exec (.i2cTransferFail false) s = .next t ∧
        t.ctl = { s.ctl with image := .unusable none, operation := some ⟨.crashRead, 0, s.ctl.clock⟩ } ∧
        t.store = s.store ∧ t.alloc = s.alloc ∧ t.writer = s.writer ∧ t.port = s.port ∧ t.view = s.view ∧
        t.supervisor.alarm = true ∧ ∀ q : Fin 24, t.supervisor.table[q] =
          if q = 0 then some ⟨.storeFail, 1, .activeUnacked, s.stamp, s.stamp, 1, 3⟩
          else if q = 1 then some ⟨.cfgBad, 0, .activeUnacked, s.stamp, s.stamp, 1, 3⟩ else none) ∧
    ∀ q : Fin 24, op.failedTries = 2 → s.Settled → firstEmpty s.supervisor.table = some q →
      (op.operation = .crashRead → findEntry s.supervisor.table .storeFail 2 = none →
        ∃ t, exec (.i2cTransferFail false) s = .next t ∧ t.ctl.operation = none ∧ t.ctl.region = .unknown ∧
          (∀ im, s.ctl.image = .usable im → t.ctl.node = .listen ∧ t.ctl.listenTimer = some s.ctl.clock) ∧
          (∀ id, s.ctl.image = .unusable id → t.ctl.node = .configFault ∧ t.ctl.epochTimer = some s.ctl.clock) ∧
          t.port.receiver = true ∧ t.store = s.store ∧ t.alloc = s.alloc ∧ t.writer = s.writer ∧
          t.supervisor.table = s.supervisor.table.set q (some ⟨.storeFail, 2, .activeUnacked, s.stamp, s.stamp, 1, 3⟩)) ∧
      (∀ step record, op.operation = .crashWrite step record → s.ctl.deferredRestart = false →
        findEntry s.supervisor.table .storeFail 3 = none →
        ∃ t, exec (.i2cTransferFail false) s = .next t ∧
          t.ctl = { s.ctl with operation := none, region := .unknown } ∧ t.store = s.store ∧ t.alloc = s.alloc ∧
          t.writer = s.writer ∧ t.port = s.port ∧
          t.supervisor.table = s.supervisor.table.set q (some ⟨.storeFail, 3, .activeUnacked, s.stamp, s.stamp, 1, 3⟩)) ∧
      (∀ step marker, op.operation = .crashErase step marker → s.ctl.deferredRestart = false →
        findEntry s.supervisor.table .storeFail 4 = none →
        ∃ t, exec (.i2cTransferFail false) s = .next t ∧
          t.ctl = { s.ctl with operation := none, region := .unknown, pendingWrite := none } ∧ t.store = s.store ∧
          t.alloc = s.alloc ∧ t.writer = s.writer ∧ t.port = s.port ∧
          t.supervisor.table = s.supervisor.table.set q (some ⟨.storeFail, 4, .activeUnacked, s.stamp, s.stamp, 1, 3⟩))

/-- WRITE_CYCLE_END in a crash write: 5 ms have gone by since the step's transfer, the marker byte is 0xFE after step 1 and 0xFD
after step 3, the body stands at bytes 129 to 159 after step 2 with each field in its place, every other byte of the store is as it
was, and with step 3 the region is WRITTEN and nothing is in flight (R183, R192, R202). That the command brings the clock to its
moment is the model's choice (log entry 3). -/
def Obligations.CrashWriteStepsReachTheStore : Prop :=
  ∀ (s : State) (op : InFlight) (record : CrashRecord),
    s.ctl.operation = some op → s.ctl.deferredRestart = false → s.store.wf →
    (op.operation = .crashWrite 0 record → ∃ t, exec .writeCycleEnd s = .next t ∧ t = (s.setCtl t.ctl).setStore t.store ∧
      t.ctl = { s.ctl with clock := t.ctl.clock, operation := some ⟨.crashWrite 1 record, 0, t.ctl.clock⟩ } ∧
      5 ≤ t.elapsed op.since ∧
      ∀ a, t.store.read a = if a = 128 then 0xFE#8 else s.store.read a) ∧
    (op.operation = .crashWrite 1 record → ∃ t, exec .writeCycleEnd s = .next t ∧ t = (s.setCtl t.ctl).setStore t.store ∧
      t.ctl = { s.ctl with clock := t.ctl.clock, operation := some ⟨.crashWrite 2 record, 0, t.ctl.clock⟩ } ∧
      5 ≤ t.elapsed op.since ∧
      ∀ a, t.store.read a = if 129 ≤ a ∧ a < 160 then byteAt (bodyBytes record) (a - 129) else s.store.read a) ∧
    (op.operation = .crashWrite 2 record → ∃ t, exec .writeCycleEnd s = .next t ∧ t = (s.setCtl t.ctl).setStore t.store ∧
      t.ctl = { s.ctl with clock := t.ctl.clock, operation := none, region := .written } ∧ 5 ≤ t.elapsed op.since ∧
      ∀ a, t.store.read a = if a = 128 then 0xFD#8 else s.store.read a) ∧
    ((bodyBytes record).length = 31 ∧ byteAt (bodyBytes record) 0 = byteOf record.code.number ∧
      byteAt (bodyBytes record) 1 = byteOf record.subject ∧ byteAt (bodyBytes record) 2 = byteOf record.cause.number ∧
      [byteAt (bodyBytes record) 3, byteAt (bodyBytes record) 4, byteAt (bodyBytes record) 5,
        byteAt (bodyBytes record) 6] = bytes32 record.stamp ∧
      (∀ i : Fin 8, byteAt (bodyBytes record) (7 + i.val) = byteOrAbsent record.applied[i]) ∧
      byteAt (bodyBytes record) 15 = byteOrAbsent record.beff ∧
      [byteAt (bodyBytes record) 16, byteAt (bodyBytes record) 17] = bytesTemp record.lastTemp ∧
      ∀ k, 18 ≤ k → k ≤ 30 → byteAt (bodyBytes record) k = 0xFF#8)

/-- WRITE_CYCLE_END in a crash erase: 5 ms have gone by since the step's transfer; step 1 sets in-progress and leaves valid as it is
known, step 2 clears valid, step 3 clears in-progress; no other byte changes; at the end the region is EMPTY, and a pending write
starts at that moment (R183, R193, R194, R202). That the command brings the clock to its moment is the model's choice (log entry 3).
-/
def Obligations.CrashEraseStepsReachTheStore : Prop :=
  ∀ (s : State) (op : InFlight) (marker : Bool),
    s.ctl.operation = some op → s.ctl.deferredRestart = false → s.store.wf →
    (op.operation = .crashErase 0 marker → ∃ t, exec .writeCycleEnd s = .next t ∧ t = (s.setCtl t.ctl).setStore t.store ∧
      t.ctl = { s.ctl with clock := t.ctl.clock, operation := some ⟨.crashErase 1 marker, 0, t.ctl.clock⟩ } ∧
      5 ≤ t.elapsed op.since ∧
      (s.ctl.region = .foundValid → t.store.read 128 = 0xFC#8) ∧
      (s.ctl.region = .foundTorn true → t.store.read 128 = 0xFC#8) ∧
      (s.ctl.region = .foundTorn false → t.store.read 128 = 0xFE#8) ∧
      (s.ctl.region = .unknown → t.store.read 128 = if (s.store.read 128).getLsbD 1 then 0xFE#8 else 0xFC#8) ∧
      ∀ a, a ≠ 128 → t.store.read a = s.store.read a) ∧
    (op.operation = .crashErase 1 marker → ∃ t, exec .writeCycleEnd s = .next t ∧ t = (s.setCtl t.ctl).setStore t.store ∧
      t.ctl = { s.ctl with clock := t.ctl.clock, operation := some ⟨.crashErase 2 marker, 0, t.ctl.clock⟩ } ∧
      5 ≤ t.elapsed op.since ∧
      ∀ a, t.store.read a = if a = 128 then 0xFE#8 else s.store.read a) ∧
    (op.operation = .crashErase 2 marker → ∃ t, exec .writeCycleEnd s = .next t ∧ t = (s.setCtl t.ctl).setStore t.store ∧
      5 ≤ t.elapsed op.since ∧
      (s.ctl.pendingWrite = none →
        t.ctl = { s.ctl with clock := t.ctl.clock, operation := none, region := .empty }) ∧
      (∀ record, s.ctl.pendingWrite = some record →
        t.ctl = { s.ctl with
          clock := t.ctl.clock, operation := some ⟨.crashWrite 0 record, 0, t.ctl.clock⟩, region := .empty
          pendingWrite := none }) ∧
      ∀ a, t.store.read a = if a = 128 then 0xFF#8 else s.store.read a)

/-- LISTEN_TIMER_EXPIRY: the node enters RUN with epoch 0, its transmitter free, the scan begun, every load and offset 0, B_eff the
budget less the derating level, the report floor of the image, and every carrier that is admitted at its floor (R58, R85, R93, R94,
R148, R181, R189). Of the recompute of RUN entry the slots, targets and flags are said by `EveryStepKeepsCarriersWithinBudget`; with
room in the fault table FLOOR_SHED is raised for each slot that it sheds and cleared for each that it admits with the mark kept from
before (R83, R89, R100). The scan list holds the U channels of the present slots in ascending order, a FWD and a RFL entry after
every fourth of them and after the last, a single such pair where no slot is present, and TEMP at the end (R43). That the command
brings the clock to its moment is the model's choice (log entry 3). -/
def Obligations.ListenExpiryEntersRun : Prop :=
  ∀ (s : State) (moment : Ms), s.ctl.node = .listen → s.ctl.listenTimer = some moment → s.cfg.period ≤ 1000 →
    let uplinks := ((List.finRange 8).filter fun i => s.cfg.slots[i].isSome).map channelOf
    let n := uplinks.length
    let pairs := max 1 ((n + 3) / 4)
    ∃ t, exec .listenTimerExpiry s = .next t ∧
      t.ctl.node = .run ∧ t.ctl.epoch = 0#32 ∧ t.ctl.listenTimer = none ∧ t.ctl.epochTimer = some t.ctl.clock ∧
      2 * s.cfg.period ≤ t.elapsed moment ∧ t.ctl.image = s.ctl.image ∧
      t.port = { s.port with tx := .idle } ∧ t.view = s.view ∧ t.handler = s.handler ∧ t.store = s.store ∧
      t.scanner = { s.scanner with
        scanList := t.scanner.scanList, conversion := some 0, windows := Vector.replicate 8 ⟨0, 0⟩ } ∧
      t.scanner.scanList.length = n + 2 * pairs + 1 ∧
      (∀ k, k < n → t.scanner.scanList[k + 2 * (k / 4)]? = uplinks[k]?) ∧
      (∀ j, j < pairs → t.scanner.scanList[min (4 * (j + 1)) n + 2 * j]? = some channelFwd ∧
        t.scanner.scanList[min (4 * (j + 1)) n + 2 * j + 1]? = some channelRfl) ∧
      t.scanner.scanList[n + 2 * pairs]? = some channelTemp ∧
      t.composer.request = s.composer.request ∧ t.composer.floor = some s.cfg.reportFloor ∧
      t.alloc.ramp = some t.ctl.clock ∧ t.alloc.mute = s.alloc.mute ∧
      t.alloc.beff = some (s.cfg.budget - t.alloc.derating) ∧
      (∃ r, t.spread.records = some r ∧ r.current = s.cfg.startMode ∧ r.pendingMode = s.cfg.startMode ∧
        (∀ i : Fin 8, r.loads[i] = 0) ∧ r.operators.map OperatorRecord.operator = s.cfg.operators ∧
        ∀ o ∈ r.operators, o.load = 0 ∧ o.offset = 0) ∧
      ((∀ i : Fin 8, s.alloc.slots[i].isActive = false) → ∀ (i : Fin 8) (target applied : Nat),
        t.alloc.slots[i] = .active target applied → ∃ c, s.cfg.slots[i] = some c ∧ applied = c.floor) ∧
      (s.Settled → s.EntriesDistinct → AtMost 16 s.supervisor.table → s.OneRecompute t)

/-! ### The trunk port (chapter 1) -/

/-- RECEIVED_FRAME, where it is bad: one that overlaps no own attempt adds 1 to the bad-frame count, which saturates at 255, and
nothing else changes but the line, a backoff slot under way that is lost, and the clock. The one that brings the count to 16 marks
TRUNK_NOISE as standing and raises it in the lowest empty position, and where it stands already nothing is raised. After a clean own
attempt the reception is the own echo and is discarded whatever it holds; after a collision its bytes, where they fail the checks,
are discarded uncounted (R7, R11, R12, R14, R118, R125). Which reception overlaps an attempt is the model's reading (log entry 16).
A frame is bad where bits are left over that fill no byte, where it has fewer than 6 bytes, where its length field exceeds 88 or
differs from the received length less 6, where its CRC differs from that of the bytes before it, where its kind is not 1, 2 or 3 or
its source is 0 or 63, and where it is a beacon not to 63, of more than 8 operator records or 4 summaries, or of another length than
they take; every other is good, with the fields at their places (R11, R12, R198, R199). -/
def Obligations.BadFramesAreCountedOrDiscarded : Prop :=
  (∀ (whole : Bool) (bytes : List Byte),
    let field (i : Nat) : Nat := (byteAt bytes i).toNat
    let last := bytes.length - 2
    let bits := (bytes.take last).flatMap fun b => (List.range 8).map fun i => b.getMsbD i
    let check : BitVec 16 :=
      bits.foldl (fun r bit => if r.msb = bit then r <<< 1 else (r <<< 1) ^^^ 0x1021#16) 0xFFFF#16
    (receivedFrame whole bytes = none ↔
      whole = false ∨ bytes.length < 6 ∨ 88 < field 3 ∨ field 3 + 6 ≠ bytes.length ∨
      256 * field last + field (last + 1) ≠ check.toNat ∨
      (field 0 ≠ 1 ∧ field 0 ≠ 2 ∧ field 0 ≠ 3) ∨ field 1 = 0 ∨ field 1 = 63 ∨
      (field 0 = 1 ∧ (field 2 ≠ 63 ∨ 8 < field 16 ∨ 4 < field 17 ∨ field 3 ≠ 14 + 5 * field 16 + 4 * field 17))) ∧
    ∀ f, receivedFrame whole bytes = some f →
      f.kind = (if field 0 = 1 then .beacon else if field 0 = 2 then .directive else .answer) ∧
      f.source = byteAt bytes 1 ∧ f.destination = byteAt bytes 2 ∧ f.payload = (bytes.drop 4).take (field 3)) ∧
  ∀ (s : State) (wait : Ms) (whole : Bool) (bytes : List Byte),
    s.port.receiver = true → s.port.footing = true → s.port.isSending = false →
    (s.port.overlap = none → receivedFrame whole bytes = none → s.port.cleanRun < 4 →
      s.port.badFrames ≠ 15 ∨ s.port.noiseStanding = true →
      ∃ t, exec (.receivedFrame wait whole bytes) s = .next t ∧
        t = (s.setPort t.port).setCtl { s.ctl with clock := s.ctl.clock + wait } ∧
        t.port = { s.port with
          line := .idle, tx := s.port.lostSlot, badFrames := min 255 (s.port.badFrames + 1) }) ∧
    (s.port.overlap = none → receivedFrame whole bytes = none → s.port.cleanRun < 4 → s.port.badFrames = 15 →
      s.port.noiseStanding = false →
      ∃ t, exec (.receivedFrame wait whole bytes) s = .next t ∧
        t.port = { s.port with line := .idle, tx := s.port.lostSlot, badFrames := 16, noiseStanding := true } ∧
        t.view = s.view ∧ t.scanner = s.scanner ∧ t.store = s.store ∧
        (s.Settled → RaisedIn s.supervisor.table t.supervisor.table .trunkNoise 0 s.stamp ∧
          (AtMost 23 s.supervisor.table → t.alloc = s.alloc ∧ t.writer = s.writer))) ∧
    ((s.port.overlap = some .clean ∨ (s.port.overlap = some .collided ∧ receivedFrame whole bytes = none)) →
      ∃ t, exec (.receivedFrame wait whole bytes) s = .next t ∧
        t = (s.setPort t.port).setCtl { s.ctl with clock := s.ctl.clock + wait } ∧
        t.port = { s.port with line := .idle, overlap := none, tx := s.port.lostSlot })

/-- A frame laid out as the part sends frames passes the checks of a receiving port and comes out as it went in: the kind, the ids
and the payload of 0 to 88 bytes. A beacon that the composer builds, of a node with an own id and at most eight operators, is such a
frame, of at most 76 bytes (R1, R12, R144, R198, R199). The payload of that beacon, byte by byte: class, node state, start cause,
period, B_eff, flags, fault level and severity counts of the ACTIVE entries, the counts, the operator records and the summaries
(R145 to R147, R150, R199). The entries summarised are the first four that are eligible under the report floor held, by severity,
first epoch and position (R148, R149). -/
def Obligations.SentFramesAreReceivedAsSent : Prop :=
  (∀ (kindByte source destination : Byte) (kind : FrameKind) (payload : List Byte),
    FrameKind.ofByte kindByte = some kind → source ≠ 0#8 → source ≠ 63#8 → payload.length ≤ 88 →
    (kind = .beacon → beaconShape destination payload = true) →
    receivedFrame true (frameBytes kindByte source destination payload) = some ⟨kind, source, destination, payload⟩) ∧
  (∀ (s : State) (id : Nat), s.ownId = some id → 1 ≤ id → id ≤ 62 → s.announcedOperators.length ≤ 8 →
    receivedFrame true s.beaconFrame = some ⟨.beacon, byteOf id, 63#8, s.beaconPayload⟩ ∧
      20 ≤ s.beaconFrame.length ∧ s.beaconFrame.length ≤ 76) ∧
  (∀ s : State,
    let at' (i : Nat) : Byte := byteAt s.beaconPayload i
    let active := activeEntries s.supervisor.table
    let m := s.announcedOperators.length
    s.beaconPayload.length = 14 + 5 * m + 4 * s.summarised.length ∧
    at' 0 = 1#8 ∧ at' 1 = byteOf s.ctl.node.number ∧ at' 2 = byteOf s.ctl.cause.number ∧
    [at' 3, at' 4] = bytes16 (if s.ctl.node = .run then s.cfg.period else 100) ∧ at' 5 = byteOrAbsent s.alloc.beff ∧
    (at' 6).getLsbD 0 = s.supervisor.overflow ∧ (at' 6).getLsbD 1 = decide (0 < s.alloc.derating) ∧
    (at' 6).getLsbD 2 = s.alloc.down ∧ (∀ i, 3 ≤ i → (at' 6).getLsbD i = false) ∧
    (∀ e ∈ active, e.code.severity.number ≤ (at' 7).toNat) ∧
    ((active = [] ∧ at' 7 = 0#8) ∨ ∃ e ∈ active, at' 7 = byteOf e.code.severity.number) ∧
    (∀ severity : Severity, at' (7 + severity.number) =
      byteOf (active.filter fun e => e.code.severity == severity).length) ∧
    at' 12 = byteOf m ∧ at' 13 = byteOf s.summarised.length ∧
    (s.spread.records = none → m = 0) ∧ (∀ r, s.spread.records = some r → s.announcedOperators = r.operators) ∧
    (∀ (k : Nat) (o : OperatorRecord), s.announcedOperators[k]? = some o →
      [at' (14 + 5 * k), at' (15 + 5 * k), at' (16 + 5 * k), at' (17 + 5 * k), at' (18 + 5 * k)] =
        [byteOf o.operator, byteOf (o.load / 256), byteOf o.load, byteOfInt o.offset, if o.constrained then 1#8 else 0#8]) ∧
    ∀ (k : Nat) (e : FaultEntry), s.summarised[k]? = some e →
      [at' (14 + 5 * m + 4 * k), at' (15 + 5 * m + 4 * k), at' (16 + 5 * m + 4 * k), at' (17 + 5 * m + 4 * k)] =
        [byteOf e.code.number, byteOf e.subject, byteOf (16 * e.code.severity.number + e.state.number),
          byteOf e.count]) ∧
  ∀ (s : State) (floor : Severity), s.composer.floor = some floor →
    ∃ chosen : List (Fin 24),
      s.summarised.map some = chosen.map (fun p => s.supervisor.table[p]) ∧ chosen.length ≤ 4 ∧
      chosen.Pairwise (SummarisedBefore s.supervisor.table) ∧ (∀ p ∈ chosen, EligibleAt s.supervisor.table floor p) ∧
      ∀ p : Fin 24, EligibleAt s.supervisor.table floor p → p ∉ chosen →
        chosen.length = 4 ∧ ∀ q ∈ chosen, SummarisedBefore s.supervisor.table q p

/-- RECEIVED_FRAME with a beacon of another station, received with no own attempt or after an own collision: the entry of a station
that the table holds is LIVE with the fields of this beacon, heard now. One that was ABSENT or LOST has its PEER_LOST or SUPV_LOST
cleared, and the count of LOST adjacent entries that the spreading controller holds follows one that was LOST; Smax_eff follows the
count at once, every offset above it is lowered to it, and where one was, the offset set is handed to the allocation unit, and
otherwise nothing is. A station that the table does not hold takes the lowest empty position of 10 to 15 as a LIVE entry, or where
there is none that of the unpinned entry of greatest silence, the lowest of several. Nothing else of the view changes. Where no
offset is lowered, nothing but the cleared entry changes in the fault table and no carrier moves; where one is, with room in the
table, the clear stands among the raises and clears of FLOOR_SHED by the recompute that follows in RUN (R83, R89, R93). The fields
are taken from the beacon's bytes: class, period clamped to 50 to 1000, fault level of at most CRITICAL, and the records of
operators 1 to 15, each operator's first, with its load of at most 1000 (R11, R23, R25 to R27, R31, R32, R36, R71, R73, R74, R119,
R199). Which reception overlaps an attempt is the model's reading (log entry 16). -/
def Obligations.BeaconIsStoredInItsEntry : Prop :=
  (∀ (s : State) (wait : Ms) (bytes : List Byte) (f : Frame) (p : Fin 16),
    s.port.receiver = true → s.port.footing = true → s.port.isSending = false →
    s.port.overlap = none ∨ s.port.overlap = some .collided →
    receivedFrame true bytes = some f → f.kind = .beacon → s.ownId ≠ some f.source.toNat →
    let port : Port := { s.port with line := .idle, overlap := none, tx := s.port.lostSlot }
    let heard := heardBeacon f.payload (s.ctl.clock + wait)
    let silence (q : Fin 16) : Nat := (s.advance wait.toNat).silenceAt q
    (∀ n, s.view.find f.source.toNat = some p → s.view.table[p] = some n → (n.state = .live ∨ n.state = .suspect) →
      ∃ t, exec (.receivedFrame wait true bytes) s = .next t ∧
        t = ((s.setPort port).setCtl { s.ctl with clock := s.ctl.clock + wait }).setView t.view ∧
        t.view = { s.view with table := s.view.table.set p (some ⟨n.id, .live, some heard⟩) }) ∧
    (∀ n, s.view.find f.source.toNat = some p → s.view.table[p] = some n → (n.state = .absent ∨ n.state = .lost) →
      p.val < 10 →
      ∃ t, exec (.receivedFrame wait true bytes) s = .next t ∧ t.port = port ∧
        t.view = { s.view with table := s.view.table.set p (some ⟨n.id, .live, some heard⟩) } ∧
        t.scanner = s.scanner ∧ t.store = s.store ∧ t.handler = s.handler ∧
        t.spread.lostCount =
          (if p.val < 8 ∧ n.state = .lost then t.view.countAdjacent .lost else s.spread.lostCount) ∧
        (∀ r, s.spread.records = some r → p.val < 8 → n.state = .lost →
          let limit : Int :=
            if 1 ≤ t.spread.lostCount ∧ r.current ≠ .off then (s.cfg.smax : Int) + s.cfg.fill else s.cfg.smax
          ∃ r', t.spread.records = some r' ∧ r' = { r with smaxEff := limit, operators := r'.operators } ∧
            r'.operators.map (fun o => (o.operator, o.load, o.offset)) =
              r.operators.map (fun o => (o.operator, o.load, min o.offset limit)) ∧
            ((∃ o ∈ r.operators, limit < o.offset) → r'.OffsetsHanded s.alloc t.alloc) ∧
            ((∀ o ∈ r.operators, o.offset ≤ limit) → t.alloc.offsets = s.alloc.offsets)) ∧
        (s.Settled → s.EntriesDistinct →
          let code : FaultCode := if p.val < 8 then .peerLost else .supvLost
          let lowers : Prop := p.val < 8 ∧ n.state = .lost ∧ ∃ r, s.spread.records = some r ∧ ∃ o ∈ r.operators,
            (if 1 ≤ t.spread.lostCount ∧ r.current ≠ .off then (s.cfg.smax : Int) + s.cfg.fill else s.cfg.smax) < o.offset
          (¬ lowers → t.alloc = s.alloc ∧ t.writer = s.writer) ∧
          (lowers → s.ctl.node = .run → AtMost 16 s.supervisor.table → s.OneRecompute t) ∧
          (¬ lowers ∨ AtMost 16 s.supervisor.table →
            ClearedIn s.supervisor.table t.supervisor.table code n.id ∧
            ∀ (other : FaultCode) (subject : Nat), ¬(other = code ∧ subject = n.id) →
              ¬ lowers ∨ other ≠ .floorShed ∨ 8 ≤ subject →
              findEntry t.supervisor.table other subject = findEntry s.supervisor.table other subject))) ∧
    (s.view.find f.source.toNat = none → 10 ≤ p.val →
      (s.view.table[p] = none ∧ ∀ q : Fin 16, 10 ≤ q.val → q.val < p.val → s.view.table[q] ≠ none) ∨
        ((∀ q : Fin 16, 10 ≤ q.val → s.view.table[q] ≠ none) ∧
          ∀ q : Fin 16, 10 ≤ q.val → q ≠ p → silence q < silence p ∨ (silence q = silence p ∧ p < q)) →
      ∃ t, exec (.receivedFrame wait true bytes) s = .next t ∧
        t = ((s.setPort port).setCtl { s.ctl with clock := s.ctl.clock + wait }).setView t.view ∧
        t.view = { s.view with table := s.view.table.set p (some ⟨f.source.toNat, .live, some heard⟩) })) ∧
  ∀ (payload : List Byte) (moment : Ms),
    let at' (i : Nat) : Nat := (byteAt payload i).toNat
    let id (k : Nat) : Nat := at' (14 + 5 * k)
    let kept := (List.range (at' 12)).filter fun k => decide (1 ≤ id k ∧ id k ≤ 15 ∧ ∀ j ∈ List.range k, id j ≠ id k)
    (heardBeacon payload moment).cls = at' 0 ∧
    (heardBeacon payload moment).period = max 50 (min 1000 (256 * at' 3 + at' 4)) ∧
    (heardBeacon payload moment).lastHeard = moment ∧ levelNumber (heardBeacon payload moment).level = min 4 (at' 7) ∧
    (heardBeacon payload moment).operators = kept.map fun k =>
      ⟨id k, min 1000 (256 * at' (15 + 5 * k) + at' (16 + 5 * k)), (byteAt payload (18 + 5 * k)).getLsbD 0⟩

/-- RECEIVED_FRAME with another station's beacon under the own id: the clash mark stands, the count of quiet epochs is 0, and no
entry of the view changes. ID_CLASH is raised with the own id as subject, in the lowest empty position, and where its entry is
ACTIVE the table is as it was (R11, R33, R118). That the mark carries the id is the model's reading (log entry 20). -/
def Obligations.OwnIdFromAnotherStationIsAClash : Prop :=
  ∀ (s : State) (wait : Ms) (bytes : List Byte) (f : Frame),
    s.port.receiver = true → s.port.footing = true → s.port.isSending = false →
    s.port.overlap = none ∨ s.port.overlap = some .collided →
    receivedFrame true bytes = some f → f.kind = .beacon → s.ownId = some f.source.toNat →
    ∃ t, exec (.receivedFrame wait true bytes) s = .next t ∧
      t.view = { s.view with clash := some f.source.toNat, clashCount := 0 } ∧ t.scanner = s.scanner ∧
      t.handler = s.handler ∧ t.store = s.store ∧
      t.port = { s.port with line := .idle, overlap := none, tx := s.port.lostSlot } ∧
      (s.Settled → s.view.clash = none ∨ s.view.clashCount < 16 →
        RaisedIn s.supervisor.table t.supervisor.table .idClash f.source.toNat s.stamp ∧
        (AtMost 23 s.supervisor.table → t.alloc = s.alloc ∧ t.writer = s.writer) ∧
        ∀ (p : Fin 24) (e : FaultEntry), findEntry s.supervisor.table .idClash f.source.toNat = some (p, e) →
          e.active = true → t.supervisor.table = s.supervisor.table)

/-- RECEIVED_FRAME with a directive acts as the directive's own command does on the state with the line idle again (R11, R13, R158,
R200). -/
def Obligations.ReceivedDirectiveActsAsItsCommand : Prop :=
  ∀ (s : State) (wait : Ms) (bytes rest : List Byte) (f : Frame),
    s.port.receiver = true → s.port.footing = true → s.port.isSending = false →
    s.port.overlap = none ∨ s.port.overlap = some .collided →
    receivedFrame true bytes = some f → f.kind = .directive →
    let s' := (s.advance wait.toNat).setPort s.port.endReception
    let whole := exec (.receivedFrame wait true bytes) s
    (f.payload = 1#8 :: rest → whole = exec (.restart f.source f.destination rest) s') ∧
    (f.payload = 2#8 :: rest → whole = exec (.faultAck f.source f.destination rest) s') ∧
    (f.payload = 3#8 :: rest → whole = exec (.quiet f.source f.destination rest) s') ∧
    (f.payload = 4#8 :: rest → whole = exec (.speak f.source f.destination rest) s') ∧
    (f.payload = 5#8 :: rest → whole = exec (.statusQuery f.source f.destination rest) s') ∧
    (f.payload = 6#8 :: rest → whole = exec (.snapshotQuery f.source f.destination rest) s') ∧
    (f.payload = 7#8 :: rest → whole = exec (.tableRead 0#32 f.source f.destination rest) s') ∧
    (f.payload = 8#8 :: rest → whole = exec (.carrierMask f.source f.destination rest) s') ∧
    (f.payload = 9#8 :: rest → whole = exec (.spreadMode f.source f.destination rest) s') ∧
    (namesADirective f.payload = false → whole = exec (.unknownDirective f.source f.destination f.payload) s')

/-- LINE_ACTIVITY: the line is busy, a countdown is frozen at its b and goes back to GAP, and nothing else changes (R2, R7). -/
def Obligations.ActivityFreezesTheCountdown : Prop :=
  ∀ s : State, ∃ t, exec .lineActivity s = .next t ∧ t = s.setPort { s.port with line := .busy, tx := t.port.tx } ∧
    (∀ b, s.port.tx = .countdown b → t.port.tx = .gap (some b)) ∧
    ((∀ b, s.port.tx ≠ .countdown b) → t.port.tx = s.port.tx)

/-- GAP_COMPLETE in GAP: without a frozen count, b is drawn from 0 to 2^k - 1 with k the lesser of the head's attempt number and 6,
once; with one, the countdown goes on from it; a b of 0 sends the head at once (R6, R7). The draw is a free value in its range (log
entry 5). -/
def Obligations.GapDrawsOrResumesTheBackoff : Prop :=
  ∀ (s : State) (frozen : Option Nat), s.port.tx = .gap frozen →
    ∃ (t : State) (b : Nat), exec .gapComplete s = .next t ∧
      (b = 0 → t.port.tx = .sending s.headOnLine ∧ t.port.line = .busy) ∧
      (b ≠ 0 → t.port.tx = .countdown b ∧ t.port.line = .gapSeen) ∧
      (frozen = none → b ≤ 2 ^ min s.port.headAttempt 6 - 1 ∧ t.draws = s.draws + 1) ∧
      (∀ k, frozen = some k → b = k ∧ t.draws = s.draws) ∧
      t = (((s.setPort t.port).setComposer t.composer).setDraws t.draws) ∧
      t.port = { s.port with
        tx := t.port.tx, line := t.port.line, footing := s.port.receiver, overlap := none }

/-- BACKOFF_SLOT_COMPLETE in COUNTDOWN: b falls by 1, and where it reaches 0 the head of that moment is sent: the oldest answer with
its fixed bytes, or else the beacon with the bytes composed now (R5, R7, R10, R144). -/
def Obligations.BackoffSlotCountsDownAndSends : Prop :=
  ∀ (s : State) (b : Nat), s.port.tx = .countdown b →
    ∃ t, exec .backoffSlotComplete s = .next t ∧ t = (s.setPort t.port).setComposer t.composer ∧
      (2 ≤ b → t = s.setPort { s.port with tx := .countdown (b - 1) }) ∧
      (b = 1 → t.port.line = .busy ∧
        (∀ a rest, s.port.answers = a :: rest → t.port.tx = .sending ⟨.answer, a.bytes, .kept⟩ ∧ t.composer = s.composer) ∧
        (s.port.answers = [] → t.port.tx = .sending ⟨.beacon, s.beaconFrame, .kept⟩ ∧
          t.composer = { s.composer with carried := s.summarised.map FaultEntry.key }))

/-- COLLISION in an answer's attempt: its number rises, and with the eighth attempt spent the answer leaves the queue; the port
awaits the gap while anything is queued, and the beacon failure count does not change (R9, R16, R18). -/
def Obligations.CollidedAnswerRetriesEightTimes : Prop :=
  ∀ (s : State) (bytes : List Byte) (doom : Doom) (a : QueuedAnswer) (rest : List QueuedAnswer),
    s.port.tx = .sending ⟨.answer, bytes, doom⟩ → s.port.answers = a :: rest → s.port.beaconWaiting = false →
    ∃ t, exec .collision s = .next t ∧ t = s.setPort t.port ∧
      t.port = { s.port with
        answers := if a.attempt = 8 then rest else { a with attempt := a.attempt + 1 } :: rest
        tx := if a.attempt = 8 ∧ rest = [] ∧ s.port.beacon = none then .idle else .gap none
        line := .busy, overlap := some .collided }

/-- COLLISION in a beacon's attempt: no credit changes and the carried set is emptied. A beacon to be kept has its number raised,
and is dropped and counted after its eighth attempt; one superseded is removed and counted; one withdrawn is removed uncounted. A
beacon that waits for the end of the attempt enters the slot with attempt number 1, whatever the outcome. The port awaits the gap
with what is left in the queue, or is IDLE. The fifth failure in a run raises TRUNK_BUSY, which then stands, in the lowest empty
position (R9, R17, R18, R19, R118, R152). -/
def Obligations.CollidedBeaconIsKeptOrDropped : Prop :=
  ∀ (s : State) (bytes : List Byte) (doom : Doom) (n : Nat),
    s.port.tx = .sending ⟨.beacon, bytes, doom⟩ → s.port.beacon = some n →
    ∃ t, exec .collision s = .next t ∧ t.composer.carried = [] ∧ t.view = s.view ∧ t.scanner = s.scanner ∧
      t.port.beaconWaiting = false ∧ t.port.line = .busy ∧ t.port.overlap = some .collided ∧
      t.port.tx = (if t.port.answers = [] ∧ t.port.beacon = none then .idle else .gap none) ∧
      (s.port.beaconWaiting = true → t.port.beacon = some 1) ∧
      (s.port.beaconWaiting = false → t.port.beacon = if doom = .kept ∧ n ≠ 8 then some (n + 1) else none) ∧
      (doom = .kept → n ≠ 8 → t.port.failures = s.port.failures ∧ t.supervisor = s.supervisor) ∧
      (doom = .kept → n = 8 → t.port.failures = min 255 (s.port.failures + 1)) ∧
      (doom = .superseded → t.port.failures = min 255 (s.port.failures + 1)) ∧
      (doom = .withdrawn → t.port.failures = s.port.failures ∧ t.supervisor = s.supervisor) ∧
      (s.port.failures ≠ 4 → t.supervisor = s.supervisor) ∧ t.port.answers = s.port.answers ∧
      ((doom = .kept ∧ n = 8) ∨ doom = .superseded → s.port.failures = 4 →
        t.port.busyStanding = true ∧
        (s.Settled → RaisedIn s.supervisor.table t.supervisor.table .trunkBusy 0 s.stamp ∧
          (AtMost 23 s.supervisor.table → t.alloc = s.alloc ∧ t.writer = s.writer)))

/-- CLEAN_FRAME: an answer sent leaves the FIFO; a beacon sent leaves the slot, sets the failure count to 0, ends TRUNK_BUSY, and
takes one unit of credit from every entry it still carried. After either the line is idle with a clean frame last on it, a waiting
beacon stands in the slot, and the port is IDLE with nothing queued and in GAP otherwise; nothing else of the port changes. Where
TRUNK_BUSY stood its entry is cleared: an ACTIVE-UNACKED one is CLEARED-UNACKED with a credit of 3, an ACTIVE-ACKED one is gone (R8,
R10, R16, R17, R18, R119, R152). -/
def Obligations.CleanFrameLeavesTheQueue : Prop :=
  ∀ (s : State) (bytes : List Byte) (doom : Doom),
    (∀ a rest, s.port.tx = .sending ⟨.answer, bytes, doom⟩ → s.port.answers = a :: rest →
      ∃ t, exec .cleanFrame s = .next t ∧ t = s.setPort t.port ∧ t.port.answers = rest ∧
        t.port.failures = s.port.failures ∧ t.port.overlap = some .clean ∧
        t.port.beacon = (if s.port.beaconWaiting then some 1 else s.port.beacon) ∧
        t.port.tx = (if t.port.answers = [] ∧ t.port.beacon = none then .idle else .gap none) ∧
        t.port = { s.port with
          answers := rest, beacon := t.port.beacon, beaconWaiting := false, tx := t.port.tx, line := .idle
          overlap := some .clean }) ∧
    (s.port.tx = .sending ⟨.beacon, bytes, doom⟩ →
      let spent (e : FaultEntry) : FaultEntry :=
        if (e.code, e.subject) ∈ s.composer.carried then { e with credit := e.credit - 1 } else e
      ∃ t, exec .cleanFrame s = .next t ∧ t.port.failures = 0 ∧ t.port.busyStanding = false ∧
        t.port.beacon = (if s.port.beaconWaiting then some 1 else none) ∧ t.port.answers = s.port.answers ∧
        t.port.tx = (if t.port.answers = [] ∧ t.port.beacon = none then .idle else .gap none) ∧
        t.port = { s.port with
          failures := 0, busyStanding := false, beacon := t.port.beacon, beaconWaiting := false, tx := t.port.tx
          line := .idle, overlap := some .clean } ∧
        t.composer.carried = [] ∧ t.view = s.view ∧ t.scanner = s.scanner ∧
        (s.port.busyStanding = false → t.alloc = s.alloc ∧ t.writer = s.writer ∧
          ∀ p : Fin 24, t.supervisor.table[p] = s.supervisor.table[p].map spent) ∧
        (s.port.busyStanding = true → s.Settled → t.alloc = s.alloc ∧ t.writer = s.writer ∧
          (∀ p : Fin 24, (∀ e, findEntry s.supervisor.table .trunkBusy 0 ≠ some (p, e)) →
            t.supervisor.table[p] = s.supervisor.table[p].map spent) ∧
          ∀ (p : Fin 24) (e : FaultEntry), findEntry s.supervisor.table .trunkBusy 0 = some (p, e) →
            t.supervisor.table[p] = match e.state with
              | .activeUnacked => some { e with state := .clearedUnacked, credit := 3 }
              | .activeAcked => none
              | .clearedUnacked => some (spent e)))

/-- BEACON_JITTER_END: the request is over once its jitter has gone by; the beacon stands in the slot with attempt number 1, or
waits for the end of the beacon attempt that is on the line (R17, R143). That the command brings the clock to its moment is the
model's choice (log entry 3). -/
def Obligations.JitterEndPutsTheBeaconInItsSlot : Prop :=
  ∀ (s : State) (r : BeaconRequest), s.composer.request = some r → r.jitter ≤ 125 →
    ∃ t, exec .beaconJitterEnd s = .next t ∧ t.composer.request = none ∧ r.jitter ≤ t.elapsed r.since ∧
      (s.port.beaconOnLine = false → t.port.beacon = some 1 ∧ t.port.tx ≠ .idle) ∧
      (s.port.beaconOnLine = true → t.port = { s.port with beaconWaiting := true }) ∧
      t.port.answers = s.port.answers ∧ t.port.failures = s.port.failures ∧ t.supervisor = s.supervisor ∧
      t.view = s.view ∧ t.scanner = s.scanner ∧ t.alloc = s.alloc ∧ t.store = s.store

/-- RECEIVER_FIRST_IDLE: a receiver switched on with the line busy takes the line as idle and the next activity as a frame's start;
only then is a frame gathered (R2). -/
def Obligations.FirstIdleGivesFooting : Prop :=
  ∀ s : State, s.port.receiver = true → s.port.footing = false →
    (∃ t, exec .receiverFirstIdle s = .next t ∧ t = s.setPort { s.port with footing := true, line := .idle }) ∧
    ∀ (wait : Ms) (whole : Bool) (bytes : List Byte), exec (.receivedFrame wait whole bytes) s = .next (s.advance wait.toNat)

/-- TRUNK_NOISE_CLEAR after the fourth clean window in a run, and ID_CLASH_CLEAR after sixteen own epochs without a clashing beacon:
the mark ends and its count is 0, the entry is cleared in the table, and the carriers are untouched (R15, R34, R119). That it is a
step of its own, due from its cause on, is the model's choice (log entry 8). -/
def Obligations.StandingTrunkConditionsEnd : Prop :=
  ∀ s : State, s.Settled →
    (s.port.noiseStanding = true → s.port.cleanRun = 4 → ∃ t, exec .trunkNoiseClear s = .next t ∧
      t = ((s.setPort { s.port with noiseStanding := false, cleanRun := 0 }).setSupervisor t.supervisor).setComposer t.composer ∧
      t.composer.request = s.composer.request ∧ t.supervisor = { s.supervisor with table := t.supervisor.table } ∧
      ∀ (p : Fin 24) (e : FaultEntry), findEntry s.supervisor.table .trunkNoise 0 = some (p, e) →
        (e.state = .activeUnacked → t.supervisor.table =
          s.supervisor.table.set p (some { e with state := .clearedUnacked, credit := 3 })) ∧
        (e.state = .activeAcked → t.supervisor.table = s.supervisor.table.set p none) ∧
        (e.state = .clearedUnacked → t.supervisor.table = s.supervisor.table)) ∧
    (∀ id, s.view.clash = some id → s.view.clashCount = 16 → ∃ t, exec .idClashClear s = .next t ∧
      t = ((s.setView { s.view with clash := none, clashCount := 0 }).setSupervisor t.supervisor).setComposer t.composer ∧
      t.composer.request = s.composer.request ∧
      t.supervisor = { s.supervisor with table := t.supervisor.table, alarm := t.supervisor.alarm } ∧
      ∀ (p : Fin 24) (e : FaultEntry), findEntry s.supervisor.table .idClash id = some (p, e) →
        (e.state = .activeUnacked → t.supervisor.table =
          s.supervisor.table.set p (some { e with state := .clearedUnacked, credit := 3 })) ∧
        (e.state = .activeAcked → t.supervisor.table = s.supervisor.table.set p none) ∧
        (e.state = .clearedUnacked → t.supervisor.table = s.supervisor.table))

/-! ### The epoch timer (chapters 3, 4, 8 and 10) -/

/-- EPOCH_EXPIRY in RUN: P has gone by since the moment the epoch began, the count rises by 1, the timer runs on from the moment of
its expiry, the windows of occupancy and of bad frames begin at 0, and unless the node is quiet a beacon is requested with a jitter
of 0 to P div 8. CONFIG_FAULT_EPOCH_EXPIRY: 100 ms have gone by, the count stays, the timer runs on by 100 ms, and a node with an
own id that is not quiet requests a beacon with a jitter of 0 to 12 ms, one without an id none (R14, R49, R142, R143, R181). In both
the expiry counts for the run of clean windows while TRUNK_NOISE stands, for the clash while it stands, and for the re-credit, which
falls due with the sixty-fourth (R15, R34, R154). A request supersedes a request that has not entered the slot and a beacon in the
slot that is not on the line: each is a dropped beacon, and the fifth in a run makes TRUNK_BUSY stand and, with room in the fault
table, raises it there, in RUN with the stamp of the epoch that closes; a beacon on the line is marked as superseded, unless it was
withdrawn (R17, R18, R19, R118). That the command brings the clock to its moment is the model's choice (log entry 3), and so is that
a clear due at the sixteenth expiry or the fourth clean window is made at its own command (log entry 8). The stamp of a raise made
in the expiry is the model's reading (log entry 17), and so is that the beacon is still requested and the slot empty after the
expiry for a jitter of 0 too, whose end is the next BEACON_JITTER_END (log entry 22). -/
def Obligations.EpochExpiriesRunTheTimerAndRequestBeacons : Prop :=
  ∀ (s : State) (moment : Ms), s.ctl.epochTimer = some moment →
    let unsent : Nat := (if s.composer.request.isSome || s.port.beaconWaiting then 1 else 0) +
      (if s.port.beacon.isSome && !s.port.beaconOnLine then 1 else 0)
    let counted (t : State) : Prop :=
      (s.port.noiseStanding = false → t.port.noiseStanding = false ∧ t.port.cleanRun = 0) ∧
      (s.port.noiseStanding = true → s.port.cleanRun < 4 → t.port.noiseStanding = true ∧
        t.port.cleanRun = if s.port.badFrames < 4 then s.port.cleanRun + 1 else 0) ∧
      (s.view.clash = none → t.view = s.view) ∧
      (∀ id, s.view.clash = some id → s.view.clashCount < 16 →
        t.view = { s.view with clashCount := s.view.clashCount + 1 }) ∧
      t.supervisor.reCreditCount = (if s.supervisor.reCreditCount = 63 then 0 else s.supervisor.reCreditCount + 1) ∧
      t.supervisor.reCreditDue = decide (s.supervisor.reCreditCount = 63)
    let superseded (t : State) : Prop :=
      (s.port.failures ≤ 253 → t.port.failures = s.port.failures + unsent) ∧
      (s.port.failures < 5 → 5 ≤ t.port.failures → t.port.busyStanding = true) ∧
      (s.port.failures < 5 → 5 ≤ t.port.failures → s.Settled → s.EntriesDistinct → AtMost 15 s.supervisor.table →
        RaisedAmong s.supervisor.table t.supervisor.table .trunkBusy 0 s.stamp) ∧
      (5 ≤ s.port.failures ∨ t.port.failures < 5 → t.port.busyStanding = s.port.busyStanding) ∧
      t.port.beaconWaiting = false ∧
      (∀ bytes doom, s.port.tx = .sending ⟨.beacon, bytes, doom⟩ → t.port.beacon = s.port.beacon ∧
        t.port.tx = .sending ⟨.beacon, bytes, if doom = .withdrawn then .withdrawn else .superseded⟩) ∧
      (s.port.beaconOnLine = false → t.port.beacon = none)
    (s.ctl.node = .run → ∃ t, exec .epochExpiry s = .next t ∧ t.ctl.node = .run ∧ t.ctl.epoch = s.ctl.epoch + 1#32 ∧
      (s.cfg.period ≤ 1000 → s.cfg.period ≤ t.elapsed moment) ∧
      t.ctl.epochTimer = some (moment + BitVec.ofNat 32 s.cfg.period) ∧ t.ctl.image = s.ctl.image ∧
      (∀ i : Fin 8, t.scanner.windows[i] = ⟨0, 0⟩) ∧ t.port.badFrames = 0 ∧ t.port.answers = s.port.answers ∧
      t.view.table = s.view.table ∧ t.store = s.store ∧ t.handler = s.handler ∧ counted t ∧
      (s.port.quiet = true → t.composer.request = s.composer.request ∧ t.port.failures = s.port.failures) ∧
      (s.port.quiet = false → superseded t ∧
        ∃ r, t.composer.request = some r ∧ r.since = t.ctl.clock ∧ r.jitter ≤ s.cfg.period / 8)) ∧
    (s.ctl.node = .configFault → ∃ t, exec .configFaultEpochExpiry s = .next t ∧ t.ctl.node = .configFault ∧
      100 ≤ t.elapsed moment ∧
      t.ctl.epoch = s.ctl.epoch ∧ t.ctl.epochTimer = some (moment + 100#32) ∧ t.port.badFrames = 0 ∧
      t.port.answers = s.port.answers ∧ t.view.table = s.view.table ∧ t.scanner = s.scanner ∧ t.store = s.store ∧ counted t ∧
      (s.port.quiet = true ∨ s.ownId = none →
        t.composer.request = s.composer.request ∧ t.port.failures = s.port.failures) ∧
      (s.port.quiet = false → s.ownId ≠ none → superseded t ∧
        ∃ r, t.composer.request = some r ∧ r.since = t.ctl.clock ∧ r.jitter ≤ 12))

/-- The loads at an epoch close (R60, R61): a slot's load L goes to (3 L + occ + 2) div 4 with the occupancy that its window closed
with, and is held where its U channel is stuck; a load of at most 1000 gives one of at most 1000, and one of at most 999 one of at
most 999. The load of each operator record is then the largest of the present slots configured for it, whatever their carrier
states. -/
def Obligations.EpochCloseSmoothsLoads : Prop :=
  ∀ (s : State) (moment : Ms) (r : SpreadRun), s.ctl.node = .run → s.ctl.epochTimer = some moment →
    s.spread.records = some r →
    ∃ t r', exec .epochExpiry s = .next t ∧ t.spread.records = some r' ∧
      (∀ (i : Fin 8) (c : SlotConfig), s.cfg.slots[i] = some c →
        let w := s.scanner.windows[i]
        (s.stuckStands (channelOf i) = true → r'.loads[i] = r.loads[i]) ∧
        (s.stuckStands (channelOf i) = false → w.samples ≠ 0 →
          r'.loads[i] = (3 * r.loads[i] + w.active * 1000 / w.samples + 2) / 4) ∧
        (w.active ≤ w.samples → r.loads[i] ≤ 1000 → r'.loads[i] ≤ 1000) ∧
        (w.active ≤ w.samples → r.loads[i] ≤ 999 → r'.loads[i] ≤ 999)) ∧
      r'.operators.map OperatorRecord.operator = r.operators.map OperatorRecord.operator ∧
      ∀ o ∈ r'.operators,
        (∀ (i : Fin 8) (c : SlotConfig), s.cfg.slots[i] = some c → c.operator = o.operator → r'.loads[i] ≤ o.load) ∧
        ((∃ (i : Fin 8) (c : SlotConfig), s.cfg.slots[i] = some c ∧ c.operator = o.operator ∧ o.load = r'.loads[i]) ∨
          ((∀ (i : Fin 8) (c : SlotConfig), s.cfg.slots[i] = some c → c.operator ≠ o.operator) ∧ o.load = 0))

/-- The offsets at an epoch close, operator by operator. The contributors of an operator come from the adjacent positions 0 to 7 in
their order: a LIVE or SUSPECT entry with a record for the operator offers that record's load, constrained where the record is or
where its fault level is MAJOR or CRITICAL; a LOST one offers 1000 and is constrained; every other offers nothing. The mode latched
is the pending one; at a close at which it steps, an operator with contributors moves by its difference against their average, with
the dead band and step of the mode, held where every contributor is constrained, and one without contributors, or any in OFF, moves
one toward 0; then the offset is clamped to Smin..Smax_eff, and the set is handed to the allocation unit (R62 to R72, R74, R90),
which recomputes at once: the slots, targets and flags are said by `EveryStepKeepsCarriersWithinBudget`; where no re-credit is due
and the fault table has room, the applied codes, the marks and FLOOR_SHED are as that one recompute leaves them (R83, R89, R93,
R118, R119). That a FLOOR_SHED raised there has the stamp of the epoch that closes is the model's reading (log entry 17). -/
def Obligations.EpochCloseStepsOffsets : Prop :=
  ∀ (s : State) (moment : Ms) (r : SpreadRun), s.ctl.node = .run → s.ctl.epochTimer = some moment →
    s.spread.records = some r →
    let offered (k : Nat) (p : Fin 16) : Option Contribution :=
      match s.view.table[p] with
      | none => none
      | some n =>
        if n.state = .lost then some ⟨1000, true⟩
        else if n.state = .absent then none
        else match n.heard with
          | none => none
          | some h => (h.operators.find? fun a => a.operator == k).map fun a =>
              ⟨a.load, a.constrained || decide (h.level = some .major ∨ h.level = some .critical)⟩
    ∃ t r', exec .epochExpiry s = .next t ∧ t.spread.records = some r' ∧ r'.current = r.pendingMode ∧
      r'.OffsetsHanded s.alloc t.alloc ∧
      r'.smaxEff = (if 1 ≤ s.spread.lostCount ∧ r.pendingMode ≠ .off then (s.cfg.smax : Int) + s.cfg.fill else s.cfg.smax) ∧
      (∀ (k : Nat) (o o' : OperatorRecord), r.operators[k]? = some o → r'.operators[k]? = some o' →
        let cs := [0, 1, 2, 3, 4, 5, 6, 7].filterMap (offered o.operator)
        let diff : Int := (o'.load : Int) - ((cs.map Contribution.load).sum / cs.length : Nat)
        let d : Int := match r.pendingMode with
          | .off => 0
          | .gentle => 2 * (s.cfg.deadBand : Int)
          | .normal => s.cfg.deadBand
          | .surge => (s.cfg.deadBand / 2 : Nat)
        let far := 4 * d < |diff|
        let jump : Int := match r.pendingMode with
          | .off => 1
          | .gentle => 1
          | .normal => if far then 2 else 1
          | .surge => if far then 3 else 2
        let home : Int := if 0 < o.offset then o.offset - 1 else if o.offset < 0 then o.offset + 1 else 0
        let moved : Int :=
          if r.pendingMode = .gentle ∧ s.ctl.epoch.toNat % 2 = 1 then o.offset
          else if r.pendingMode = .off ∨ cs = [] then home
          else if |diff| ≤ d then o.offset
          else if diff < 0 then o.offset + jump
          else if ∀ c ∈ cs, c.constrained = true then o.offset
          else o.offset - jump
        o'.operator = o.operator ∧ o'.offset = min r'.smaxEff (max s.cfg.smin moved)) ∧
      (s.Settled → s.EntriesDistinct → AtMost 15 s.supervisor.table → s.supervisor.reCreditDue = false → s.OneRecompute t)

/-- RE_CREDIT where it is due: every ACTIVE-UNACKED entry of MAJOR or above has a credit of at least 1, every other entry and every
other record is untouched (R154). That it is a step of its own, due from its cause on, is the model's choice (log entry 8). -/
def Obligations.ReCreditRenewsStandingFaults : Prop :=
  ∀ s : State, s.supervisor.reCreditDue = true → ∃ t, exec .reCredit s = .next t ∧
    t = s.setSupervisor { s.supervisor with table := t.supervisor.table, reCreditDue := false } ∧
    ∀ p : Fin 24, t.supervisor.table[p] = s.supervisor.table[p].map fun e =>
      if e.state = .activeUnacked ∧ (e.code.severity = .major ∨ e.code.severity = .critical) then
        { e with credit := max e.credit 1 } else e

/-! ### The measurement scanner (chapter 3) -/

/-- CONVERSION_COMPLETE starts the next conversion of the list, the first after the last, and leaves the view, the port, the handler
and the store alone (R44). -/
def Obligations.ConversionStartsTheNext : Prop :=
  ∀ (s : State) (code : DetectorCode) (i : Nat), s.scanner.conversion = some i → i < s.scanner.scanList.length →
    ∃ t, exec (.conversionComplete code) s = .next t ∧ t.scanner.scanList = s.scanner.scanList ∧
      t.scanner.conversion = some (if i + 1 = s.scanner.scanList.length then 0 else i + 1) ∧
      t.port = s.port ∧ t.view = s.view ∧ t.handler = s.handler ∧ t.store = s.store ∧ t.draws = s.draws

/-- CONVERSION_COMPLETE on the U channel of a present slot, where the stuck watch asks for nothing: the sample count rises by 1, the
active count too where the result is at least the threshold, the runs of the channel are counted, and only the scanner changes (R46,
R48). -/
def Obligations.UplinkResultCountsASample : Prop :=
  ∀ (s : State) (code : DetectorCode) (i : Nat) (slot : Fin 8) (c : SlotConfig),
    s.scanner.conversion = some i → s.scanner.scanList[i]? = some (channelOf slot) → s.cfg.slots[slot] = some c →
    (∀ w, w = s.scanner.stuck[channelOf slot] →
      ((code = 0#10 ∨ code = 1023#10) → w.railRun < 63 ∨ w.standing = true) ∧
      (code ≠ 0#10 → code ≠ 1023#10 → w.inRangeRun < 63 ∨ w.standing = false)) →
    ∃ t, exec (.conversionComplete code) s = .next t ∧ t = s.setScanner t.scanner ∧
      t.scanner.windows = s.scanner.windows.set slot
        ⟨s.scanner.windows[slot].samples + 1,
         if c.threshold ≤ code.toNat then s.scanner.windows[slot].active + 1 else s.scanner.windows[slot].active⟩ ∧
      (code = 0#10 ∨ code = 1023#10 → t.scanner.stuck[channelOf slot] =
        ⟨min 64 (s.scanner.stuck[channelOf slot].railRun + 1), 0, s.scanner.stuck[channelOf slot].standing⟩) ∧
      (code ≠ 0#10 → code ≠ 1023#10 → t.scanner.stuck[channelOf slot] =
        ⟨0, min 64 (s.scanner.stuck[channelOf slot].inRangeRun + 1), s.scanner.stuck[channelOf slot].standing⟩)

/-- CONVERSION_COMPLETE with the sixty-fourth rail result in a run: DET_STUCK stands for the channel, whichever of the eleven it is,
and is raised with the channel as subject. It takes the lowest empty position, and a snapshot of the node is held, or counted where
one was held. In a full table it takes that of a CLEARED-UNACKED entry, the first to be evicted by severity, last epoch and
position, and the overflow flag stays; where there is none, that of an ACTIVE entry of lower severity, the first by severity, first
epoch and position, and the flag is set; where there is none, the newcomer is dropped, the flag is set and nothing else of the
supervisor changes (R46, R118, R123 to R125, R131 to R133). With the sixty-fourth in-range result in a run while DET_STUCK stands,
it stands no longer and is cleared; the window of a U channel starts afresh with this result as its first sample (R46 to R48, R119).
-/
def Obligations.SixtyFourthRailResultRaisesDetStuck : Prop :=
  ∀ (s : State) (code : DetectorCode) (i : Nat) (channel : Fin 11),
    s.scanner.conversion = some i → s.scanner.scanList[i]? = some channel → s.Settled →
    let new : FaultEntry := ⟨.detStuck, channel.val, .activeUnacked, s.stamp, s.stamp, 1, 3⟩
    let table := s.supervisor.table
    let lower (p : Fin 24) : Prop := ∃ e, table[p] = some e ∧ e.code.severity.number < 3
    let isCleared (p : Fin 24) : Prop := ∃ e, table[p] = some e ∧ e.state = .clearedUnacked
    ((code = 0#10 ∨ code = 1023#10) → s.scanner.stuck[channel].railRun = 63 → s.scanner.stuck[channel].standing = false →
      findEntry table .detStuck channel.val = none →
      ∃ t, exec (.conversionComplete code) s = .next t ∧ t.scanner.stuck[channel] = ⟨64, 0, true⟩ ∧
        (∀ p, firstEmpty table = some p → t.supervisor.table = table.set p (some new) ∧
          t.supervisor.alarm = true ∧ t.supervisor.overflow = s.supervisor.overflow ∧
          s.CapturedOrCounted .detStuck channel.val t.supervisor ∧ t.alloc = s.alloc ∧ t.writer = s.writer) ∧
        (∀ p, firstEmpty table = none → isCleared p →
          (∀ q, isCleared q → q ≠ p → EvictedBefore table FaultEntry.lastEpoch p q) →
          t.supervisor.table = table.set p (some new) ∧ t.supervisor.alarm = true ∧
            t.supervisor.overflow = s.supervisor.overflow ∧ t.alloc = s.alloc ∧ t.writer = s.writer) ∧
        (∀ p, firstEmpty table = none → (∀ q, ¬ isCleared q) → lower p →
          (∀ q, lower q → q ≠ p → EvictedBefore table FaultEntry.firstEpoch p q) →
          t.supervisor.overflow = true ∧ findEntry t.supervisor.table .detStuck channel.val = some (p, new) ∧
            ((∀ e, table[p] = some e → e.code ≠ .tempWarn) →
              t.supervisor.table = table.set p (some new) ∧ t.alloc = s.alloc ∧ t.writer = s.writer)) ∧
        (firstEmpty table = none → (∀ q, ¬ isCleared q) → (∀ q, ¬ lower q) →
          t.supervisor = { s.supervisor with overflow := true } ∧ t.alloc = s.alloc ∧ t.writer = s.writer ∧ t.ctl = s.ctl)) ∧
    (code ≠ 0#10 → code ≠ 1023#10 → s.scanner.stuck[channel].inRangeRun = 63 → s.scanner.stuck[channel].standing = true →
      ∃ t, exec (.conversionComplete code) s = .next t ∧ t.scanner.stuck[channel] = ⟨0, 64, false⟩ ∧
        (∀ slot c, channel = channelOf slot → s.cfg.slots[slot] = some c →
          t.scanner.windows[slot] = ⟨1, if c.threshold ≤ code.toNat then 1 else 0⟩) ∧
        (channel ≠ channelRfl → channel ≠ channelTemp →
          (s.EntriesDistinct → ClearedIn table t.supervisor.table .detStuck channel.val) ∧
          (findEntry table .detStuck channel.val = none → t.supervisor.table = table) ∧
          t.alloc = s.alloc ∧ t.writer = s.writer))

/-- CONVERSION_COMPLETE with a TEMP result of 580 or more on a node in RUN with an empty fault table: TEMP_LIMIT's entry stands
beside TEMP_WARN's and TEMP_HIGH's, ALARM is asserted, a snapshot is held, B_eff is the budget less 12, DOWN holds, no slot is
ACTIVE and PA enable is dropped; a crash write is asked for, and the store controller answers it as `WriteAnswered` says in each
region and with each operation in flight; its record names TEMP_LIMIT, the epoch, and the B_eff that held before DOWN (R56, R85,
R86, R107, R126, R128 to R131, R135, R193). That the record shows B_eff from before DOWN is the model's reading (log entry 28). With
any TEMP result, judged after its stuck watch: while the channel is stuck the temperature is kept and nothing else, and otherwise
the three conditions stand by their thresholds, each raised at its own and ended only below a lower one, and a condition that ends
is cleared in the table (R46, R47, R55, R56, R119). -/
def Obligations.OverheatedAmplifierTrips : Prop :=
  (∀ (s : State) (code : DetectorCode) (i : Nat),
    s.scanner.conversion = some i → s.scanner.scanList[i]? = some channelTemp → s.ctl.node = .run → 580 ≤ code.toNat →
    code ≠ 1023#10 → s.scanner.stuck[channelTemp].standing = false → s.Settled → s.AmplifierSafe →
    s.supervisor.table = Vector.replicate 24 none →
    s.scanner.tempWarn = false → s.scanner.tempHigh = false → s.scanner.tempLimit = false →
    ∃ t, exec (.conversionComplete code) s = .next t ∧ t.scanner.lastTemp = some ((code.toNat : Int) - 160) ∧
      t.scanner.tempWarn = true ∧ t.scanner.tempHigh = true ∧ t.scanner.tempLimit = true ∧
      (∀ c ∈ [FaultCode.tempWarn, .tempHigh, .tempLimit], ∃ p, findEntry t.supervisor.table c 0 =
        some (p, ⟨c, 0, .activeUnacked, s.ctl.epoch, s.ctl.epoch, 1, 3⟩)) ∧
      t.supervisor.alarm = true ∧ t.supervisor.snapshot ≠ none ∧
      t.alloc.down = true ∧ t.alloc.beff = some (s.cfg.budget - 12) ∧ anyActive t.alloc.slots = false ∧
      t.writer.paEnable = false ∧
      ∃ record, WriteAnswered s.ctl t.ctl record ∧ record.code = .tempLimit ∧
        record.subject = 0 ∧ record.cause = s.ctl.cause ∧ record.stamp = s.ctl.epoch ∧
        record.beff = some (s.cfg.budget - 12) ∧ record.lastTemp = some ((code.toNat : Int) - 160)) ∧
  ∀ (s : State) (code : DetectorCode) (i : Nat),
    s.scanner.conversion = some i → s.scanner.scanList[i]? = some channelTemp →
    let watch := s.scanner.stuck[channelTemp]
    let rail := code = 0#10 ∨ code = 1023#10
    let stuck := (watch.standing = true ∧ (rail ∨ watch.inRangeRun < 63)) ∨
      (watch.standing = false ∧ rail ∧ 63 ≤ watch.railRun)
    ∃ t, exec (.conversionComplete code) s = .next t ∧ t.scanner.lastTemp = some ((code.toNat : Int) - 160) ∧
      (stuck → t.scanner.tempWarn = s.scanner.tempWarn ∧ t.scanner.tempHigh = s.scanner.tempHigh ∧
        t.scanner.tempLimit = s.scanner.tempLimit ∧ (watch.standing = true → t = s.setScanner t.scanner)) ∧
      (¬ stuck →
        t.scanner.tempWarn = (decide (500 ≤ code.toNat) || (decide (480 ≤ code.toNat) && s.scanner.tempWarn)) ∧
        t.scanner.tempHigh = (decide (540 ≤ code.toNat) || (decide (520 ≤ code.toNat) && s.scanner.tempHigh)) ∧
        t.scanner.tempLimit = (decide (580 ≤ code.toNat) || (decide (560 ≤ code.toNat) && s.scanner.tempLimit))) ∧
      (¬ stuck → s.Settled → s.EntriesDistinct → AtMost 13 s.supervisor.table →
        (s.scanner.tempWarn = true → t.scanner.tempWarn = false →
          ClearedIn s.supervisor.table t.supervisor.table .tempWarn 0) ∧
        (s.scanner.tempHigh = true → t.scanner.tempHigh = false →
          ClearedIn s.supervisor.table t.supervisor.table .tempHigh 0) ∧
        (s.scanner.tempLimit = true → t.scanner.tempLimit = false →
          ClearedIn s.supervisor.table t.supervisor.table .tempLimit 0))

/-- CONVERSION_COMPLETE with a reflected result whose return loss lies below the threshold: the pair is bad, the third in a run
raises VSWR_WARN and the nineteenth VSWR_TRIP; a pair that is not below it is good, and the eighth in a run ends VSWR_WARN; one with
a forward reading below fwd_min, or while DET_STUCK stands for FWD or RFL after the result's stuck watch, is neither, and the counts
and marks are kept. A forward result is kept for its pair (R46, R47, R50 to R53). In the table, where it has room: VSWR_WARN's entry
derates by 24, which B_eff follows from a lower level, and asserts ALARM; VSWR_TRIP's brings DOWN, every present slot of a node in
RUN DOWN, and a request for a crash write whose record shows the slots and B_eff from before, answered as `WriteAnswered` says in
each region and with each operation in flight; with no snapshot held one is captured, its fields as they stood before too, and a
held one is kept and the count beside it rises, for a new entry and for one that returns; the end of VSWR_WARN clears its entry
(R85, R86, R118, R119, R128 to R133, R135, R193). That the record and the snapshot show them from before DOWN is the model's reading
(log entry 28). -/
def Obligations.PairsAreJudgedByReturnLoss : Prop :=
  (∀ (s : State) (code : DetectorCode) (i forward : Nat),
    s.scanner.conversion = some i → s.scanner.scanList[i]? = some channelRfl → s.scanner.forward = some forward →
    s.scanner.stuck[channelFwd].standing = false → s.scanner.stuck[channelRfl].standing = false →
    (code = 0#10 ∨ code = 1023#10 → s.scanner.stuck[channelRfl].railRun < 63) →
    ∃ t, exec (.conversionComplete code) s = .next t ∧ t.scanner.forward = none ∧
      (forward < s.cfg.fwdMin → t.scanner.badPairs = s.scanner.badPairs ∧ t.scanner.goodPairs = s.scanner.goodPairs ∧
        t = s.setScanner t.scanner) ∧
      (s.cfg.fwdMin ≤ forward → (forward : Int) - code.toNat < s.cfg.rlThreshold →
        t.scanner.badPairs = min 255 (s.scanner.badPairs + 1) ∧ t.scanner.goodPairs = 0 ∧
        (s.scanner.badPairs = 2 → t.scanner.vswrWarn = true) ∧ (s.scanner.badPairs = 18 → t.scanner.vswrTrip = true) ∧
        (s.scanner.badPairs ≠ 2 → t.scanner.vswrWarn = s.scanner.vswrWarn) ∧
        (s.scanner.badPairs ≠ 18 → t.scanner.vswrTrip = s.scanner.vswrTrip) ∧
        (s.scanner.badPairs = 2 → s.scanner.vswrWarn = false → s.Settled → AtMost 15 s.supervisor.table →
          RaisedIn s.supervisor.table t.supervisor.table .vswrWarn 0 s.stamp ∧
          (findEntry s.supervisor.table .vswrWarn 0 = none → t.supervisor.alarm = true) ∧
          t.alloc.derating = 24 ∧ (s.ctl.node = .run → s.alloc.derating < 24 → t.alloc.beff = some (s.cfg.budget - 24))) ∧
        (s.scanner.badPairs = 18 → s.scanner.vswrTrip = false → s.Settled →
          ∀ (q : Fin 24) (x : FaultEntry),
          (findEntry s.supervisor.table .vswrTrip 0 = none ∧ firstEmpty s.supervisor.table = some q ∧
            x = ⟨.vswrTrip, 0, .activeUnacked, s.stamp, s.stamp, 1, 3⟩) ∨
          (∃ e, findEntry s.supervisor.table .vswrTrip 0 = some (q, e) ∧ e.state = .clearedUnacked ∧
            x = { e with state := .activeUnacked, lastEpoch := s.stamp, count := min 255 (e.count + 1), credit := 3 }) →
          t.supervisor.table = s.supervisor.table.set q (some x) ∧ s.CapturedOrCounted .vswrTrip 0 t.supervisor ∧
          t.supervisor.alarm = true ∧ t.alloc.down = true ∧
          (s.ctl.node = .run → s.alloc.down = false →
            ∀ k : Fin 8, t.alloc.slots[k] = if s.cfg.slots[k].isSome then .down else .idle) ∧
          (∃ record, WriteAnswered s.ctl t.ctl record ∧ record.code = .vswrTrip ∧
            record.subject = 0 ∧ record.cause = s.ctl.cause ∧ record.stamp = s.stamp ∧ record.beff = s.alloc.beff ∧
            record.lastTemp = s.scanner.lastTemp ∧ ∀ k : Fin 8, record.applied[k] = s.alloc.slots[k].applied))) ∧
      (s.cfg.fwdMin ≤ forward → (s.cfg.rlThreshold : Int) ≤ (forward : Int) - code.toNat →
        t.scanner.goodPairs = min 255 (s.scanner.goodPairs + 1) ∧ t.scanner.badPairs = 0 ∧
        t.scanner.vswrTrip = s.scanner.vswrTrip ∧
        (s.scanner.goodPairs = 7 → t.scanner.vswrWarn = false) ∧
        (s.scanner.goodPairs ≠ 7 → t.scanner.vswrWarn = s.scanner.vswrWarn) ∧
        (s.scanner.goodPairs = 7 → s.scanner.vswrWarn = true → s.Settled → s.EntriesDistinct →
          AtMost 16 s.supervisor.table → ClearedIn s.supervisor.table t.supervisor.table .vswrWarn 0))) ∧
  (∀ (s : State) (code : DetectorCode) (i forward : Nat),
    s.scanner.conversion = some i → s.scanner.scanList[i]? = some channelRfl → s.scanner.forward = some forward →
    let watch := s.scanner.stuck[channelRfl]
    let rail := code = 0#10 ∨ code = 1023#10
    let skipped := forward < s.cfg.fwdMin ∨ s.scanner.stuck[channelFwd].standing = true ∨
      (watch.standing = true ∧ (rail ∨ watch.inRangeRun < 63)) ∨ (watch.standing = false ∧ rail ∧ 63 ≤ watch.railRun)
    ∃ t, exec (.conversionComplete code) s = .next t ∧ t.scanner.forward = none ∧
      (skipped → t.scanner.badPairs = s.scanner.badPairs ∧ t.scanner.goodPairs = s.scanner.goodPairs ∧
        t.scanner.vswrWarn = s.scanner.vswrWarn ∧ t.scanner.vswrTrip = s.scanner.vswrTrip) ∧
      (¬ skipped → (t.scanner.badPairs, t.scanner.goodPairs) =
        if (forward : Int) - code.toNat < s.cfg.rlThreshold then (min 255 (s.scanner.badPairs + 1), 0)
        else (0, min 255 (s.scanner.goodPairs + 1)))) ∧
  ∀ (s : State) (code : DetectorCode) (i : Nat),
    s.scanner.conversion = some i → s.scanner.scanList[i]? = some channelFwd →
    ∃ t, exec (.conversionComplete code) s = .next t ∧ t.scanner.forward = some code.toNat ∧
      t.scanner.badPairs = s.scanner.badPairs ∧ t.scanner.goodPairs = s.scanner.goodPairs ∧
      t.scanner.vswrWarn = s.scanner.vswrWarn ∧ t.scanner.vswrTrip = s.scanner.vswrTrip

/-- VSWR_TRIP_RELEASE after a FAULT-ACK's notice: a standing trip is released with both pair counts at 0, and its entry is cleared
in the table: an ACTIVE-ACKED one is gone, an ACTIVE-UNACKED one is CLEARED-UNACKED; the table changes in nothing else where no
recompute follows, which is outside RUN and while another trip keeps DOWN; DOWN is then what the table says. In RUN the end of DOWN
brings a recompute: the slots, targets and flags are said by `EveryStepKeepsCarriersWithinBudget`, and with room in the table every
carrier that is admitted stands at its floor, FLOOR_SHED is raised for each slot shed and cleared for each admitted with its mark.
Without a notice nothing changes (R54, R83, R89, R93, R119, R129, R137). That it is a step of its own, due from its cause on, is the
model's choice (log entry 8). -/
def Obligations.TripReleaseEndsTheLatch : Prop :=
  ∀ s : State,
    (s.scanner.releaseNotice = true → s.scanner.vswrTrip = true → ∃ t, exec .vswrTripRelease s = .next t ∧
      t.scanner = { s.scanner with vswrTrip := false, badPairs := 0, goodPairs := 0, releaseNotice := false } ∧
      t.alloc.down = downCondition t.supervisor.table ∧ t.alloc.recomputeDue = false ∧
      t.port = s.port ∧ t.view = s.view ∧ t.handler = s.handler ∧ t.store = s.store ∧
      (s.EntriesDistinct → ∀ p e, findEntry s.supervisor.table .vswrTrip 0 = some (p, e) → e.state = .activeAcked →
        findEntry t.supervisor.table .vswrTrip 0 = none) ∧
      (s.Settled → s.EntriesDistinct → AtMost 16 s.supervisor.table →
        ClearedIn s.supervisor.table t.supervisor.table .vswrTrip 0 ∧
        (s.ctl.node = .run → s.alloc.down = true → t.alloc.down = false → s.OneRecompute t)) ∧
      (s.Settled → (s.ctl.node ≠ .run ∨ ∃ e ∈ activeEntries s.supervisor.table, e.code = .tempLimit) →
        t.supervisor.table = tableClear s.supervisor.table .vswrTrip 0)) ∧
    (s.scanner.releaseNotice = true → s.scanner.vswrTrip = false → ∃ t, exec .vswrTripRelease s = .next t ∧
      t = s.setScanner { s.scanner with releaseNotice := false }) ∧
    (s.scanner.releaseNotice = false → ∃ t, exec .vswrTripRelease s = .next t ∧ t = s)

/-! ### Carriers and the front-end line (chapters 5 and 6) -/

/-- RAMP_TICK in RUN: P div 8 has gone by since the moment the timer runs from, every ACTIVE slot below its target rises by 1, every
other slot is left as it is, and the timer runs on by P div 8 from the tick's moment; only the unit, the writer and the clock change
(R94). The rises are handed to the writer: the drive value of a slot that rose is its new code with the calibration offset of its
band, within 0 to 143; it waits in the dirty set, is the write just started, or, where it is the value held already, waits no more;
a write in flight goes on, and a slot that did not rise waits as before unless its write is the one just started. PA enable is then
asserted where no decrease waits or is in flight, and otherwise stays as it is (R97, R101, R102, R104 to R106, R109). That the
command brings the clock to its moment is the model's choice (log entry 3). -/
def Obligations.RampTickRaisesCarriersByOne : Prop :=
  ∀ (s : State) (moment : Ms), s.alloc.ramp = some moment →
    let rose (i : Fin 8) (code : Nat) : Prop := ∃ target, code ≤ target ∧ s.alloc.slots[i] = .active target (code - 1) ∧ 1 ≤ code
    let value (i : Fin 8) (code : Nat) : Drive :=
      let offset : Int := match s.cfg.slots[i] with
        | some c => s.cfg.bandOffsets.toList.getD c.band 0
        | none => s.cfg.bandOffsets[0]
      .code (min 143 (max 0 ((code : Int) + offset))).toNat
    ∃ t, exec .rampTick s = .next t ∧
      t = ((s.setAlloc { s.alloc with
          slots := t.alloc.slots, ramp := some (moment + BitVec.ofNat 32 (s.cfg.period / 8)) }).setWriter t.writer).setCtl
        { s.ctl with clock := t.ctl.clock } ∧
      (s.cfg.period ≤ 1000 → s.cfg.period / 8 ≤ t.elapsed moment) ∧
      (∀ i : Fin 8,
        (∀ target applied, s.alloc.slots[i] = .active target applied →
          t.alloc.slots[i] = .active target (if applied < target then applied + 1 else applied)) ∧
        (s.alloc.slots[i].isActive = false → t.alloc.slots[i] = s.alloc.slots[i])) ∧
      ((∀ i code, ¬ rose i code) → t.writer = s.writer) ∧
      (∀ f, s.writer.inFlight = some f → t.writer.inFlight = some f ∧ t.writer.held = s.writer.held) ∧
      ∀ (i : Fin 8),
        (∀ code, rose i code → t.writer.indicator = true ∧
          t.writer.paEnable = (s.writer.paEnable ||
            (decide (∀ j : Fin 8, t.writer.waitsDecrease j = false) && t.writer.flightAllows)) ∧
          (s.writer.held[i] = some (value i code) → t.writer.dirty[i] = none ∧ t.writer.held[i] = s.writer.held[i]) ∧
          (s.writer.held[i] ≠ some (value i code) →
            (t.writer.dirty[i] = some ⟨value i code, false⟩ ∧ t.writer.held[i] = s.writer.held[i]) ∨
            (s.writer.inFlight = none ∧ t.writer.dirty[i] = none ∧ t.writer.held[i] = some (value i code) ∧
              ∃ g, t.writer.inFlight = some g ∧ g.slot = i ∧ g.value = value i code))) ∧
        ((∀ code, ¬ rose i code) →
          (t.writer.dirty[i] = s.writer.dirty[i] ∧ t.writer.held[i] = s.writer.held[i]) ∨
          (s.writer.inFlight = none ∧ t.writer.dirty[i] = none ∧
            ∃ g, t.writer.inFlight = some g ∧ g.slot = i ∧ t.writer.held[i] = some g.value ∧
              s.writer.dirty[i].map PendingDrive.value = some g.value))

/-- WRITE_COMPLETE: the transceiver takes the word of the write, slot in bits 15 to 13, bit 12 for the mute word, the code in bits 7
to 0; the writer then starts a decrease of the lowest slot while one waits, or else an increase of the lowest, or is idle. PA enable
is asserted where some slot is ACTIVE and no decrease waits, and otherwise stays as it is (R102, R105, R109, R203). -/
def Obligations.WriteCompleteServesDecreasesFirst : Prop :=
  ∀ (s : State) (f : WriteInFlight), s.writer.inFlight = some f →
    ∃ t, exec .writeComplete s = .next t ∧ t = s.setWriter t.writer ∧
      t.writer.paEnable =
        (s.writer.paEnable || (s.writer.indicator && decide (∀ i : Fin 8, s.writer.waitsDecrease i = false))) ∧
      t.writer.transceiver = s.writer.transceiver.set f.slot
        (some (match f.value with
          | .mute => BitVec.ofNat 16 (f.slot.val * 8192 + 4096)
          | .code c => BitVec.ofNat 16 (f.slot.val * 8192 + c % 256))) ∧
      ((∀ i : Fin 8, s.writer.dirty[i] = none) → t.writer.inFlight = none ∧ t.writer.dirty = s.writer.dirty) ∧
      (∀ i : Fin 8, s.writer.waitsDecrease i = true → (∀ j : Fin 8, j < i → s.writer.waitsDecrease j = false) →
        ∃ g, t.writer.inFlight = some g ∧ g.slot = i ∧ s.writer.dirty[i].map PendingDrive.value = some g.value) ∧
      (∀ i : Fin 8, (∀ j : Fin 8, s.writer.waitsDecrease j = false) → s.writer.dirty[i].isSome = true →
        (∀ j : Fin 8, j < i → s.writer.dirty[j] = none) →
        ∃ g, t.writer.inFlight = some g ∧ g.slot = i ∧ s.writer.dirty[i].map PendingDrive.value = some g.value)

/-! ### The neighbour view (chapter 2) -/

/-- The silence limits of an entry heard with period Q. SILENCE_SUSPECT_LIMIT: once more than 3 Q ms have gone by, a LIVE entry is
SUSPECT with every stored field kept, and nothing else changes but the clock. SILENCE_LOST_LIMIT: once more than 8 Q ms have gone
by, a SUSPECT adjacent or supervisor entry is LOST with its fields kept, and an unpinned one is removed; a LOST adjacent entry
counts at the spreading controller, and PEER_LOST or SUPV_LOST is raised with the station's id. Where no offset stands above the
limit with the loss counted, which is Smax and the fill allowance, or Smax in OFF, Smax_eff is that limit, no offset moves and no
carrier does (R28, R29, R32, R36, R71, R73, R118). That the command brings the clock to its moment is the model's choice (log entry
3). -/
def Obligations.SilenceLimitsJudgeAnEntry : Prop :=
  ∀ (s : State) (p : Fin 16) (n : Neighbour) (h : Heard), s.view.table[p] = some n → n.heard = some h → h.period ≤ 1000 →
    (n.state = .live → ∃ t, exec (.silenceSuspectLimit p) s = .next t ∧ 3 * h.period < t.elapsed h.lastHeard ∧
      t = (s.setView { s.view with table := s.view.table.set p (some { n with state := .suspect }) }).setCtl
        { s.ctl with clock := t.ctl.clock }) ∧
    (n.state = .suspect → ∃ t, exec (.silenceLostLimit p) s = .next t ∧ 8 * h.period < t.elapsed h.lastHeard ∧
      t.view = { s.view with table := s.view.table.set p (if p.val < 10 then some { n with state := .lost } else none) } ∧
      (p.val < 8 → t.spread.lostCount = t.view.countAdjacent .lost) ∧
      (8 ≤ p.val → t.spread.lostCount = s.spread.lostCount) ∧
      (10 ≤ p.val → t.supervisor = s.supervisor ∧ t.alloc = s.alloc ∧ t.spread = s.spread) ∧
      t.port = s.port ∧ t.scanner = s.scanner ∧ t.store = s.store ∧ t.handler = s.handler ∧
      let code : FaultCode := if p.val < 8 then .peerLost else .supvLost
      let limit (r : SpreadRun) : Int := if r.current = .off then s.cfg.smax else (s.cfg.smax : Int) + s.cfg.fill
      ∀ q : Fin 24, p.val < 10 → s.Settled → firstEmpty s.supervisor.table = some q →
        (p.val < 8 → ∀ r, s.spread.records = some r → ∀ o ∈ r.operators, o.offset ≤ limit r) →
        RaisedIn s.supervisor.table t.supervisor.table code n.id s.stamp ∧
        (findEntry s.supervisor.table code n.id = none → t.supervisor.table = s.supervisor.table.set q
          (some ⟨code, n.id, .activeUnacked, s.stamp, s.stamp, 1, 3⟩)) ∧
        t.alloc = s.alloc ∧ t.writer = s.writer ∧ (8 ≤ p.val → t.spread = s.spread) ∧
        (p.val < 8 → ∀ r, s.spread.records = some r → t.spread.records = some { r with smaxEff := limit r }))

/-- START_UP_LIMIT: once more than 8 P ms have gone by since LISTEN entry, every entry still ABSENT is LOST and every other stays,
and the controller has the count. For each entry given up PEER_LOST or SUPV_LOST is raised with the station's id, and no other entry
of the fault table changes; said where the table has room for the ten that can be and no offset stands above the limit with the new
count, so that Smax_eff is that limit, no offset moves and no carrier does (R30, R32, R36, R71, R73, R118). That the command brings
the clock to its moment is the model's choice (log entry 3). -/
def Obligations.StartUpLimitGivesUpAbsentEntries : Prop :=
  ∀ (s : State) (moment : Ms), s.view.listenEntry = some moment → s.cfg.period ≤ 1000 →
    ∃ t, exec .startUpLimit s = .next t ∧ 8 * s.cfg.period < t.elapsed moment ∧
      (∀ p : Fin 16, t.view.table[p] = s.view.table[p].map fun n =>
        if n.state = .absent then { n with state := .lost } else n) ∧
      t.view = { s.view with table := t.view.table } ∧ t.spread.lostCount = t.view.countAdjacent .lost ∧
      t.port = s.port ∧ t.scanner = s.scanner ∧ t.store = s.store ∧ t.handler = s.handler ∧
      let limit (r : SpreadRun) : Int :=
        if 1 ≤ t.spread.lostCount ∧ r.current ≠ .off then (s.cfg.smax : Int) + s.cfg.fill else s.cfg.smax
      (s.Settled → AtMost 14 s.supervisor.table →
        (∀ r, s.spread.records = some r → ∀ o ∈ r.operators, o.offset ≤ limit r) →
        let givenUp (code : FaultCode) (id : Nat) : Prop := ∃ (p : Fin 16) (n : Neighbour),
          s.view.table[p] = some n ∧ n.state = .absent ∧ n.id = id ∧
            ((p.val < 8 ∧ code = .peerLost) ∨ (8 ≤ p.val ∧ p.val < 10 ∧ code = .supvLost))
        t.alloc = s.alloc ∧ t.writer = s.writer ∧
        (∀ r, s.spread.records = some r → t.spread.records = some { r with smaxEff := limit r }) ∧
        ∀ (code : FaultCode) (id : Nat),
          (givenUp code id → RaisedAmong s.supervisor.table t.supervisor.table code id s.stamp) ∧
          (¬ givenUp code id → findEntry t.supervisor.table code id = findEntry s.supervisor.table code id))

/-! ### Directives (chapter 9) -/

/-- The checks decide in their order: source, availability, arguments, room (R159 to R163, R200). Each kind code names its
directive, and each payload of its kind's length gives its directive with the arguments at their places; a form, table or mode
outside its codes is refused BAD_ARGUMENT (R162, R174, R200). -/
def Obligations.DirectiveChecksInOrder : Prop :=
  (∀ (s : State) (source destination : Byte) (payload : List Byte),
    (s.ctl.node ≠ .configFault → source.toNat ∉ s.cfg.supervisors →
      s.judge source destination payload = .refused .notSupervisor) ∧
    (s.ctl.node = .configFault ∨ source.toNat ∈ s.cfg.supervisors →
      (DirectiveKind.ofNumber (kindByte payload).toNat = none →
        s.judge source destination payload = .refused .badArgument) ∧
      ∀ kind, DirectiveKind.ofNumber (kindByte payload).toNat = some kind →
        (s.ctl.node = .listen → kind ≠ .restart → s.judge source destination payload = .refused .notAvailable) ∧
        (s.ctl.node = .configFault → (kind = .carrierMask ∨ kind = .spreadMode) →
          s.judge source destination payload = .refused .notAvailable) ∧
        (s.ctl.node = .configFault → s.ownId = none → kind ≠ .restart →
          s.judge source destination payload = .refused .notAvailable) ∧
        (destination = 63#8 → kind.isQuery = true → s.judge source destination payload = .refused .notAvailable) ∧
        (s.ctl.node = .run ∨ (s.ctl.node = .configFault ∧ s.ownId ≠ none ∧ kind ≠ .carrierMask ∧ kind ≠ .spreadMode) ∨
            (s.ctl.node ≠ .load ∧ kind = .restart) → (kind.isQuery = true → destination ≠ 63#8) →
          (payload.length ≠ kind.length → s.judge source destination payload = .refused .badArgument) ∧
          (judgeArguments kind payload = none → s.judge source destination payload = .refused .badArgument) ∧
          ∀ d, judgeArguments kind payload = some d →
            (kind.isQuery = true → 3 ≤ s.port.answers.length → s.judge source destination payload = .refused .busy) ∧
            (kind.isQuery = false ∨ s.port.answers.length < 3 → s.judge source destination payload = .accepted d)))) ∧
  ((List.range 10).map DirectiveKind.ofNumber = [none, some .restart, some .faultAck, some .quiet, some .speak,
      some .statusQuery, some .snapshotQuery, some .tableRead, some .carrierMask, some .spreadMode] ∧
    ∀ n, 10 ≤ n → DirectiveKind.ofNumber n = none) ∧
  ∀ kind tag x y z : Byte,
    judgeArguments .restart [kind, tag] = some .restart ∧ judgeArguments .quiet [kind, tag] = some .quiet ∧
    judgeArguments .speak [kind, tag] = some .speak ∧ judgeArguments .statusQuery [kind, tag] = some .statusQuery ∧
    judgeArguments .snapshotQuery [kind, tag] = some .snapshotQuery ∧
    judgeArguments .faultAck [kind, tag, x, y, z] =
      (if x = 1#8 then some (.faultAck .all) else if x = 2#8 then some (.faultAck (.one y.toNat z.toNat)) else none) ∧
    judgeArguments .tableRead [kind, tag, x, y, z] =
      (if x = 1#8 then some (.tableRead .neighbour (if y = 255#8 then none else some y.toNat) z.toNat)
       else if x = 2#8 then some (.tableRead .fault (if y = 255#8 then none else some y.toNat) z.toNat) else none) ∧
    judgeArguments .carrierMask [kind, tag, x, y] =
      (if x = 1#8 then some (.carrierMask .mute y) else if x = 2#8 then some (.carrierMask .unmute y)
       else if x = 3#8 then some (.carrierMask .flip y) else none) ∧
    judgeArguments .spreadMode [kind, tag, x] =
      (if x = 0#8 then some (.spreadMode .off) else if x = 1#8 then some (.spreadMode .gentle)
       else if x = 2#8 then some (.spreadMode .normal) else if x = 3#8 then some (.spreadMode .surge) else none)

/-- A refused directive, of a known kind or of none, is recorded with its reason, the kind byte as received, its source and the
epoch (0 outside RUN), and has no other effect. An unknown kind or an empty payload from a source that passes is refused
BAD_ARGUMENT: that is the whole effect of UNKNOWN_DIRECTIVE (R161, R162, R164, R200). -/
def Obligations.RefusedDirectiveIsOnlyRecorded : Prop :=
  ∀ (s : State) (source destination : Byte) (rest payload : List Byte) (reason : RefusalReason),
    s.delivers source destination = true →
    let recorded (kind : Byte) : State := s.setHandler
      ⟨some ⟨reason, kind, source, if s.ctl.node = .run then s.ctl.epoch else 0#32⟩⟩
    (s.judge source destination (1#8 :: rest) = .refused reason →
      exec (.restart source destination rest) s = .next (recorded 1#8)) ∧
    (s.judge source destination (2#8 :: rest) = .refused reason →
      exec (.faultAck source destination rest) s = .next (recorded 2#8)) ∧
    (s.judge source destination (3#8 :: rest) = .refused reason →
      exec (.quiet source destination rest) s = .next (recorded 3#8)) ∧
    (s.judge source destination (4#8 :: rest) = .refused reason →
      exec (.speak source destination rest) s = .next (recorded 4#8)) ∧
    (s.judge source destination (5#8 :: rest) = .refused reason →
      exec (.statusQuery source destination rest) s = .next (recorded 5#8)) ∧
    (s.judge source destination (6#8 :: rest) = .refused reason →
      exec (.snapshotQuery source destination rest) s = .next (recorded 6#8)) ∧
    (s.judge source destination (7#8 :: rest) = .refused reason →
      exec (.tableRead 0#32 source destination rest) s = .next (recorded 7#8)) ∧
    (s.judge source destination (8#8 :: rest) = .refused reason →
      exec (.carrierMask source destination rest) s = .next (recorded 8#8)) ∧
    (s.judge source destination (9#8 :: rest) = .refused reason →
      exec (.spreadMode source destination rest) s = .next (recorded 9#8)) ∧
    (namesADirective payload = false → s.judge source destination payload = .refused reason →
      exec (.unknownDirective source destination payload) s = .next (recorded (payload.getD 0 0#8))) ∧
    (namesADirective payload = false → s.sourcePasses source = true →
      ∃ t, exec (.unknownDirective source destination payload) s = .next t ∧ t = s.setHandler t.handler ∧
        t.handler.lastRefusal =
          some ⟨.badArgument, payload.getD 0 0#8, source, if s.ctl.node = .run then s.ctl.epoch else 0#32⟩)

/-- FAULT_ACK ALL accepted: every entry is acknowledged or removed as R120 and R121 say, so that only ACTIVE-ACKED ones are left;
ALARM is dropped, the snapshot, its count and the overflow flag are released, a PRIOR_TRIP entry removed asks for a crash erase,
which is started or not acted on by the region and what is in flight, the scanner has its notice where VSWR_TRIP stands, and no
carrier moves (R54, R134, R136, R137, R166, R194). That the release is due from the notice on is the model's choice (log entry 8).
-/
def Obligations.FaultAckAllAcknowledgesEveryEntry : Prop :=
  ∀ (s : State) (source destination : Byte) (rest : List Byte),
    s.delivers source destination = true → s.judge source destination (2#8 :: rest) = .accepted (.faultAck .all) → s.Settled →
    ∃ t, exec (.faultAck source destination rest) s = .next t ∧
      (∀ p : Fin 24, t.supervisor.table[p] = match s.supervisor.table[p] with
        | none => none
        | some e => match e.state with
          | .activeUnacked => if e.code.ackCleared then none else some { e with state := .activeAcked, credit := 3 }
          | .clearedUnacked => none
          | .activeAcked => some e) ∧
      t.supervisor.alarm = false ∧ t.supervisor.snapshot = none ∧ t.supervisor.sinceSnapshot = 0 ∧
      t.supervisor.overflow = false ∧
      ((∃ (p : Fin 24) (e : FaultEntry), s.supervisor.table[p] = some e ∧ e.code = .priorTrip ∧ e.state = .activeUnacked) →
        EraseAnswered s.ctl t.ctl) ∧
      ((∀ (p : Fin 24) (e : FaultEntry), s.supervisor.table[p] = some e → e.code ≠ .priorTrip) → t.ctl = s.ctl) ∧
      t.scanner = { s.scanner with releaseNotice := s.scanner.releaseNotice || s.scanner.vswrTrip } ∧
      t.alloc = s.alloc ∧ t.writer = s.writer ∧ t.spread = s.spread ∧ t.port = s.port ∧ t.view = s.view ∧
      t.handler = s.handler ∧ t.store = s.store

/-- FAULT_ACK ONE accepted. Of an ordinary code an ACTIVE-UNACKED entry becomes ACTIVE-ACKED with credit 3, a CLEARED-UNACKED one is
removed, an ACTIVE-ACKED one stays; of an ack-cleared code an ACTIVE-UNACKED entry is removed; with no entry the table stays. The
removal of PRIOR_TRIP asks for a crash erase: it is started where a record was found or the region is UNKNOWN, and not acted on in
region EMPTY or WRITTEN, or with an operation in flight or a write pending. For VSWR_TRIP, found or not, the scanner has its notice
where it stands. Nothing else changes. A number outside the catalog names no entry (R54, R120, R121, R136, R137, R166, R194). That
the release is due from the notice on is the model's choice (log entry 8). -/
def Obligations.FaultAckOneActsOnItsEntry : Prop :=
  (∀ (s : State) (source destination : Byte) (rest : List Byte) (code : FaultCode) (subject : Nat),
    s.delivers source destination = true →
    s.judge source destination (2#8 :: rest) = .accepted (.faultAck (.one code.number subject)) → s.Settled →
    ∃ t, exec (.faultAck source destination rest) s = .next t ∧
      (∀ (p : Fin 24) (e : FaultEntry), findEntry s.supervisor.table code subject = some (p, e) →
        (e.state = .activeUnacked → t.supervisor.table = s.supervisor.table.set p
          (if e.code.ackCleared then none else some { e with state := .activeAcked, credit := 3 })) ∧
        (e.state = .clearedUnacked → e.code.ackCleared = false → t.supervisor.table = s.supervisor.table.set p none) ∧
        (e.state = .activeAcked → t.supervisor.table = s.supervisor.table) ∧
        (code = .priorTrip → e.state = .activeUnacked → EraseAnswered s.ctl t.ctl)) ∧
      (findEntry s.supervisor.table code subject = none → t.supervisor = s.supervisor ∧ t.ctl = s.ctl) ∧
      (code ≠ .priorTrip → t.ctl = s.ctl) ∧
      t.supervisor.snapshot = s.supervisor.snapshot ∧ t.supervisor.sinceSnapshot = s.supervisor.sinceSnapshot ∧
      t.supervisor.overflow = s.supervisor.overflow ∧
      t.scanner = { s.scanner with
        releaseNotice := s.scanner.releaseNotice || (decide (code = .vswrTrip ∧ subject = 0) && s.scanner.vswrTrip) } ∧
      t.alloc = s.alloc ∧ t.writer = s.writer ∧ t.port = s.port ∧ t.view = s.view ∧ t.store = s.store) ∧
  ∀ (s : State) (source destination : Byte) (rest : List Byte) (number subject : Nat),
    s.delivers source destination = true →
    s.judge source destination (2#8 :: rest) = .accepted (.faultAck (.one number subject)) → s.Settled →
    (∀ code : FaultCode, code.number ≠ number) → exec (.faultAck source destination rest) s = .next s

/-- CARRIER_MASK accepted: the flags of the named present slots are set, cleared or inverted, the others stay; with DOWN not
holding, a present slot is MUTED exactly where its flag is set (R81, R87, R167). A slot that is ACTIVE no more is handed to the
writer as the mute word: it waits in the dirty set or is the value held; where no slot is ACTIVE any more, PA enable is dropped at
once (R97, R101, R104, R107). The recompute that follows leaves the slots and the constrained flags as `Allocated` says: floors
admitted in ascending order or shed, raw targets under the offsets held, one smallest reduction that fits, and each operator's flag;
the mirrors of the operator records take the flags (R75, R81, R83, R88, R90 to R92, R96). With room in the fault table for every
raise: an applied code is the floor of a slot newly ACTIVE and otherwise the lesser of the code held and the target; a slot that
enters SHED has FLOOR_SHED raised and its mark set, one admitted with its mark standing has it cleared and its mark gone, and every
other mark and entry stays (R89, R93). -/
def Obligations.CarrierMaskSetsFlagsAndMutes : Prop :=
  ∀ (s : State) (source destination : Byte) (rest : List Byte) (form : MaskForm) (named : Byte),
    s.delivers source destination = true →
    s.judge source destination (8#8 :: rest) = .accepted (.carrierMask form named) →
    ∃ t, exec (.carrierMask source destination rest) s = .next t ∧
      (∀ i : Fin 8, t.alloc.mute[i] =
        if named.getLsbD i.val = true ∧ s.cfg.slots[i] ≠ none then
          (match form with
            | .mute => true
            | .unmute => false
            | .flip => !s.alloc.mute[i])
        else s.alloc.mute[i]) ∧
      (t.alloc.down = false → ∀ i : Fin 8, s.cfg.slots[i] ≠ none →
        (t.alloc.slots[i] = .muted ↔ t.alloc.mute[i] = true)) ∧
      (t.alloc.down = true → ∀ i : Fin 8, s.cfg.slots[i] ≠ none → t.alloc.slots[i] = .down) ∧
      (∀ i : Fin 8, s.alloc.slots[i].isActive = true → t.alloc.slots[i].isActive = false →
        t.writer.held[i] = some .mute ∨ t.writer.dirty[i] = some ⟨.mute, false⟩) ∧
      (anyActive s.alloc.slots = true → anyActive t.alloc.slots = false →
        t.writer.paEnable = false ∧ t.writer.indicator = false) ∧
      t.port = s.port ∧ t.view = s.view ∧ t.scanner = s.scanner ∧ t.handler = s.handler ∧ t.store = s.store ∧
      (∀ p, lin p = [1024, 1085, 1149, 1218, 1290, 1367, 1448, 1534, 1625, 1722, 1825, 1933].getD (p % 12) 0 * 2 ^ (p / 12)) ∧
      (s.ImageInRange → ∀ beff, t.alloc.beff = some beff → Allocated s.cfg beff t.alloc) ∧
      MirrorsTake t.alloc.flags s.spread t.spread ∧
      (s.Settled → s.EntriesDistinct → AtMost 16 s.supervisor.table →
        t.alloc = { s.alloc with
          slots := t.alloc.slots, mute := t.alloc.mute, flags := t.alloc.flags, shedMarks := t.alloc.shedMarks } ∧
        s.OneRecompute t ∧
        ∀ (code : FaultCode) (subject : Nat), code ≠ .floorShed ∨ 8 ≤ subject →
          findEntry t.supervisor.table code subject = findEntry s.supervisor.table code subject)

/-- SPREAD_MODE accepted: the pending mode is the one carried, and nothing else changes; the current mode waits for the next close
(R66, R168). -/
def Obligations.SpreadModeSetsThePendingMode : Prop :=
  ∀ (s : State) (source destination : Byte) (rest : List Byte) (mode : SpreadMode) (r : SpreadRun),
    s.delivers source destination = true → s.judge source destination (9#8 :: rest) = .accepted (.spreadMode mode) →
    s.spread.records = some r →
    ∃ t, exec (.spreadMode source destination rest) s = .next t ∧
      t = s.setSpread { s.spread with records := some { r with pendingMode := mode } }

/-- QUIET accepted with the flag clear: the flag is set, the request is cancelled, and a beacon not in transmission is withdrawn
uncounted, the contention ending where it was the last frame; one in transmission goes on, withdrawn, and so does an answer in
transmission, untouched. With the flag set already nothing changes. SPEAK accepted: the flag is clear, and nothing else changes
(R19, R169). That a beacon which waits for the end of the attempt on the line is removed uncounted too is the model's choice (log
entry 19). -/
def Obligations.QuietWithdrawsAndSpeakAllowsBeacons : Prop :=
  ∀ (s : State) (source destination : Byte) (rest : List Byte), s.delivers source destination = true →
    (s.judge source destination (3#8 :: rest) = .accepted .quiet → s.port.quiet = true →
      ∃ t, exec (.quiet source destination rest) s = .next t ∧ t = s) ∧
    (s.judge source destination (3#8 :: rest) = .accepted .quiet → s.port.quiet = false →
      ∃ t, exec (.quiet source destination rest) s = .next t ∧
        t = (s.setPort t.port).setComposer { s.composer with request := none } ∧
        t.port.quiet = true ∧ t.port.beaconWaiting = false ∧ t.port.answers = s.port.answers ∧
        t.port.failures = s.port.failures ∧
        (∀ bytes doom, s.port.tx = .sending ⟨.beacon, bytes, doom⟩ →
          t.port.tx = .sending ⟨.beacon, bytes, .withdrawn⟩ ∧ t.port.beacon = s.port.beacon) ∧
        (∀ bytes doom, s.port.tx = .sending ⟨.answer, bytes, doom⟩ → t.port.beacon = none ∧ t.port.tx = s.port.tx) ∧
        (∀ frozen, s.port.tx = .gap frozen → t.port.beacon = none ∧
          t.port.tx = if s.port.answers = [] then .idle else .gap frozen) ∧
        (∀ b, s.port.tx = .countdown b → t.port.beacon = none ∧
          t.port.tx = if s.port.answers = [] then .idle else .countdown b)) ∧
    (s.judge source destination (4#8 :: rest) = .accepted .speak →
      ∃ t, exec (.speak source destination rest) s = .next t ∧ t = s.setPort { s.port with quiet := false })

/-- RESTART accepted with no NVM operation in flight: LOAD at once, with cause RESTART and the clock at 0; every carrier is off, the
port silent and empty, the fault table kept but for clears of TRUNK_BUSY and TRUNK_NOISE, the snapshot, its count and the overflow
flag kept, and the marks of the other owners with them: the clash and its count, DET_STUCK of each channel, VSWR_WARN, VSWR_TRIP and
the three temperature marks, the last temperature, the FLOOR_SHED marks, the derating level and DOWN. With an operation in flight
only the deferred-restart flag is set. The RESTART then takes effect at the end of the operation: a crash write or a crash erase
that completes, or the third failed try of either; where a write waits behind the erase, that write begins and the RESTART waits on.
What is kept is said where no clear, release or re-credit was due at the moment; a TRUNK_NOISE or a clash that stands is none, and
not after a third failed try, whose STORE_FAIL comes first (R40, R57, R100, R141, R170, R180, R183, R193, R195). That the store is
as it was after the third failed try, the body's step included, is the model's choice (log entry 13). -/
def Obligations.RestartEntersLoadOrIsDeferred : Prop :=
  ∀ (s : State) (source destination : Byte) (rest : List Byte),
    s.delivers source destination = true → s.judge source destination (1#8 :: rest) = .accepted .restart →
    let inLoad (t : State) : Prop := t.ctl = { StoreCtl.reset with cause := .restart } ∧ t.writer.paEnable = false ∧
      t.port = { Port.reset with line := t.port.line }
    let kept (t : State) : Prop :=
      (s.port.noiseStanding = false ∨ s.port.cleanRun < 4) → (s.view.clash = none ∨ s.view.clashCount < 16) →
      s.supervisor.reCreditDue = false → s.scanner.releaseNotice = false →
      t.supervisor.table = tableClear (tableClear s.supervisor.table .trunkBusy 0) .trunkNoise 0 ∧
      t.supervisor.snapshot = s.supervisor.snapshot ∧ t.supervisor.sinceSnapshot = s.supervisor.sinceSnapshot ∧
      t.supervisor.overflow = s.supervisor.overflow ∧
      t.view = { View.reset with clash := s.view.clash, clashCount := s.view.clashCount } ∧
      t.scanner = { Scanner.reset with
        stuck := t.scanner.stuck, vswrWarn := s.scanner.vswrWarn, vswrTrip := s.scanner.vswrTrip
        tempWarn := s.scanner.tempWarn, tempHigh := s.scanner.tempHigh, tempLimit := s.scanner.tempLimit
        lastTemp := s.scanner.lastTemp } ∧
      (∀ c : Fin 11, t.scanner.stuck[c] = ⟨0, 0, s.scanner.stuck[c].standing⟩) ∧
      t.alloc.shedMarks = s.alloc.shedMarks ∧
      (s.OutputsFollow → t.alloc.derating = s.alloc.derating ∧ t.alloc.down = s.alloc.down)
    (s.ctl.operation ≠ none → ∃ t, exec (.restart source destination rest) s = .next t ∧
      t = s.setCtl { s.ctl with deferredRestart := true }) ∧
    (s.ctl.operation = none → ∃ t, exec (.restart source destination rest) s = .next t ∧
      t.ctl = { StoreCtl.reset with cause := .restart } ∧ t.port = { Port.reset with line := t.port.line } ∧
      (∀ i : Fin 8, t.alloc.slots[i] = .idle ∧ t.alloc.mute[i] = false) ∧ t.alloc.beff = none ∧
      t.writer.paEnable = false ∧ t.writer.indicator = false ∧ t.spread = .reset ∧ t.composer = .reset ∧
      t.handler = .reset ∧ t.store = s.store ∧ (∀ p : Fin 16, t.view.table[p] = none) ∧
      kept t) ∧
    ∀ (op : InFlight), s.ctl.operation = some op → ∀ u, exec (.restart source destination rest) s = .next u →
      (∀ record, op.operation = .crashWrite 2 record → s.store.wf →
        ∃ t, exec .writeCycleEnd u = .next t ∧ inLoad t ∧ t.store.read 128 = 0xFD#8 ∧ kept t) ∧
      (∀ marker, op.operation = .crashErase 2 marker → s.store.wf → s.ctl.pendingWrite = none →
        ∃ t, exec .writeCycleEnd u = .next t ∧ inLoad t ∧ t.store.read 128 = 0xFF#8 ∧ kept t) ∧
      (∀ marker record, op.operation = .crashErase 2 marker → s.ctl.pendingWrite = some record →
        ∃ t, exec .writeCycleEnd u = .next t ∧ t.ctl.deferredRestart = true ∧ t.ctl.node = s.ctl.node ∧
          t.ctl.operation = some ⟨.crashWrite 0 record, 0, t.ctl.clock⟩ ∧ t.port = s.port) ∧
      (∀ step record marker, op.operation = .crashWrite step record ∨ op.operation = .crashErase step marker →
        op.failedTries = 2 → s.ctl.storeWait = false →
        ∃ t, exec (.i2cTransferFail false) u = .next t ∧ inLoad t ∧ t.store = s.store)

/-- STATUS_QUERY and SNAPSHOT_QUERY accepted: one answer to the sender enters the FIFO last, of kind 1 or 2 with the tag and the
body of this moment, for SNAPSHOT the snapshot held, field by field with its operator records, or the held mark 0 alone; a
contention may begin, and nothing else changes, the snapshot included (R16, R132, R171 to R173, R200). -/
def Obligations.QueriesQueueTheirAnswers : Prop :=
  ∀ (s : State) (source destination tag : Byte) (rest : List Byte), s.delivers source destination = true →
    (s.judge source destination (5#8 :: tag :: rest) = .accepted .statusQuery →
      ∃ t, exec (.statusQuery source destination (tag :: rest)) s = .next t ∧
        t.port.answers = s.port.answers ++ [⟨frameBytes 3#8 s.ownIdByte source (1#8 :: tag :: s.statusBody), 1⟩] ∧
        t = ((s.setPort t.port).setComposer t.composer).setDraws t.draws ∧
        t.port = { s.port with answers := t.port.answers, tx := t.port.tx, line := t.port.line } ∧ t.port.tx ≠ .idle) ∧
    (s.judge source destination (6#8 :: tag :: rest) = .accepted .snapshotQuery →
      ∃ t body, exec (.snapshotQuery source destination (tag :: rest)) s = .next t ∧
        t.port.answers = s.port.answers ++ [⟨frameBytes 3#8 s.ownIdByte source (2#8 :: tag :: body), 1⟩] ∧
        t = ((s.setPort t.port).setComposer t.composer).setDraws t.draws ∧
        t.port = { s.port with answers := t.port.answers, tx := t.port.tx, line := t.port.line } ∧ t.port.tx ≠ .idle ∧
        (s.supervisor.snapshot = none → body = [0#8]) ∧
        (∀ p, s.supervisor.snapshot = some p → body.length = 38 + 4 * p.operators.length ∧ byteAt body 0 = 1#8 ∧
          byteAt body 1 = byteOf p.code.number ∧ byteAt body 2 = byteOf p.subject ∧
          [byteAt body 3, byteAt body 4, byteAt body 5, byteAt body 6] = bytes32 p.epoch ∧
          byteAt body 7 = byteOf p.node.number ∧ byteAt body 8 = byteOrAbsent p.beff ∧
          (∀ i : Fin 8, byteAt body (9 + 3 * i.val) = byteOf p.slots[i].number ∧
            byteAt body (10 + 3 * i.val) = byteOrAbsent p.slots[i].target ∧
            byteAt body (11 + 3 * i.val) = byteOrAbsent p.slots[i].applied) ∧
          byteAt body 33 = byteOf p.liveAdjacent ∧ byteAt body 34 = byteOf p.lostAdjacent ∧
          [byteAt body 35, byteAt body 36] = bytesTemp p.lastTemp ∧ byteAt body 37 = byteOf p.operators.length ∧
          ∀ (k operator load : Nat) (offset : Int), p.operators[k]? = some (operator, load, offset) →
            byteAt body (38 + 4 * k) = byteOf operator ∧ byteAt body (39 + 4 * k) = byteOf (load / 256) ∧
            byteAt body (40 + 4 * k) = byteOf load ∧ byteAt body (41 + 4 * k) = byteOfInt offset))

/-- The bytes of a STATUS body, field by field (R172, R200). -/
def Obligations.StatusBodyLayout : Prop :=
  ∀ s : State, s.statusBody.length = 44 ∧
    byteAt s.statusBody 0 = byteOf s.ctl.node.number ∧ byteAt s.statusBody 1 = byteOf s.ctl.cause.number ∧
    [byteAt s.statusBody 2, byteAt s.statusBody 3, byteAt s.statusBody 4, byteAt s.statusBody 5] = bytes32 s.ctl.epoch ∧
    byteAt s.statusBody 6 = (if s.ctl.node = .run then byteOf s.cfg.budget else 255#8) ∧
    byteAt s.statusBody 7 = byteOrAbsent s.alloc.beff ∧
    (∀ i : Fin 8, byteAt s.statusBody (8 + 3 * i.val) = byteOf s.alloc.slots[i].number ∧
      byteAt s.statusBody (9 + 3 * i.val) = byteOrAbsent s.alloc.slots[i].applied ∧
      byteAt s.statusBody (10 + 3 * i.val) = byteOrAbsent s.alloc.slots[i].target) ∧
    (s.spread.records = none → byteAt s.statusBody 32 = 255#8 ∧ byteAt s.statusBody 33 = 255#8) ∧
    (∀ r, s.spread.records = some r → byteAt s.statusBody 32 = byteOf r.current.number ∧
      byteAt s.statusBody 33 = byteOf r.pendingMode.number) ∧
    (byteAt s.statusBody 34).getLsbD 0 = s.port.quiet ∧ (byteAt s.statusBody 34).getLsbD 1 = s.supervisor.overflow ∧
    (byteAt s.statusBody 34).getLsbD 2 = s.supervisor.snapshot.isSome ∧
    (byteAt s.statusBody 34).getLsbD 3 = s.supervisor.alarm ∧
    (byteAt s.statusBody 34).getLsbD 4 = s.ctl.pendingWrite.isSome ∧
    (byteAt s.statusBody 34).getLsbD 5 = s.ctl.deferredRestart ∧
    byteAt s.statusBody 35 = byteOf s.supervisor.sinceSnapshot ∧
    (s.ctl.operation = none → byteAt s.statusBody 36 = 0#8) ∧
    (∀ op, s.ctl.operation = some op → byteAt s.statusBody 36 = byteOf op.operation.number) ∧
    (s.handler.lastRefusal = none → ∀ i, 37 ≤ i → i ≤ 43 → byteAt s.statusBody i = 0#8) ∧
    (∀ r, s.handler.lastRefusal = some r → byteAt s.statusBody 37 = byteOf r.reason.number ∧
      byteAt s.statusBody 38 = r.kind ∧ byteAt s.statusBody 39 = r.source ∧
      [byteAt s.statusBody 40, byteAt s.statusBody 41, byteAt s.statusBody 42, byteAt s.statusBody 43] = bytes32 r.epoch)

/-- TABLE_READ accepted: the answer holds the positions from the start or the cursor on, at most the count in force and none beyond
the table, and the cursor of the sender's pair for that table moves behind the last one, or to 0 at the table's end or with none
read; the other cursors and both tables are as they were. TABLE_READ refused: every cursor is as it was. The pair is that of the
supervisor position that the configuration gives the sender, or the shared one. The record of a position holds its fields in their
places, or zeros behind the position's number where it is empty (R38, R174 to R177, R200). The age of an entry is the time since it
was last heard, at most 65535; that of a LOST one that was heard is not said here, since the model chooses it (log entry 29). -/
def Obligations.TableReadReturnsPositionsAndMovesTheCursor : Prop :=
  (∀ (s : State) (source destination tag : Byte) (rest : List Byte) (table : TableName) (start : Option Nat) (count : Nat),
    s.delivers source destination = true →
    s.judge source destination (7#8 :: tag :: rest) = .accepted (.tableRead table start count) →
    let pair := s.cursorPair source
    let first := start.getD ((s.view.cursors pair).at table)
    let force := if count = 0 then 1 else if 4 < count then 4 else count
    let size := if table = .neighbour then 16 else 24
    let n := min force (size - first)
    let next := if n = 0 ∨ first + n = size then 0 else first + n
    ∃ t, exec (.tableRead 0#32 source destination (tag :: rest)) s = .next t ∧
      t.port.answers = s.port.answers ++ [⟨frameBytes 3#8 s.ownIdByte source (3#8 :: tag :: byteOf table.number :: byteOf n ::
        ((List.range n).flatMap fun k => s.tableRecord table (first + k))), 1⟩] ∧
      (t.view.cursors pair).at table = next ∧
      (∀ other, other ≠ table → (t.view.cursors pair).at other = (s.view.cursors pair).at other) ∧
      (∀ q, q ≠ pair → t.view.cursors q = s.view.cursors q) ∧
      t.view.table = s.view.table ∧ t.supervisor = s.supervisor ∧ t.handler = s.handler ∧ t.store = s.store) ∧
  (∀ (s : State) (source destination : Byte) (rest : List Byte) (reason : RefusalReason),
    s.delivers source destination = true → s.judge source destination (7#8 :: rest) = .refused reason →
    ∃ t, exec (.tableRead 0#32 source destination rest) s = .next t ∧ t = s.setHandler t.handler) ∧
  (∀ (s : State) (source : Byte),
    (s.ctl.node = .configFault → s.cursorPair source = .shared) ∧
    (s.ctl.node ≠ .configFault →
      (s.cfg.supervisors[0]? = some source.toNat → s.cursorPair source = .first) ∧
      (s.cfg.supervisors[0]? ≠ some source.toNat → s.cfg.supervisors[1]? = some source.toNat →
        s.cursorPair source = .second) ∧
      (s.cfg.supervisors[0]? ≠ some source.toNat → s.cfg.supervisors[1]? ≠ some source.toNat →
        s.cursorPair source = .shared))) ∧
  ∀ s : State,
    (∀ p : Fin 16,
      (s.view.table[p] = none → s.tableRecord .neighbour p.val = byteOf p.val :: List.replicate 7 0#8) ∧
      (∀ n, s.view.table[p] = some n → n.heard = none → s.tableRecord .neighbour p.val =
        [byteOf p.val, byteOf n.state.number, byteOf n.id, 0#8, 255#8, 255#8, 0#8, 0#8]) ∧
      (∀ n h, s.view.table[p] = some n → n.heard = some h →
        ∃ age : Nat, age ≤ 65535 ∧ (n.state ≠ .lost → age = min 65535 (s.ctl.clock - h.lastHeard).toNat) ∧
        s.tableRecord .neighbour p.val = [byteOf p.val, byteOf n.state.number, byteOf n.id, byteOf h.cls,
          byteOf (age / 256), byteOf age, byteOf (levelNumber h.level), byteOf h.operators.length])) ∧
    ∀ p : Fin 24,
      (s.supervisor.table[p] = none → s.tableRecord .fault p.val = byteOf p.val :: List.replicate 9 0#8) ∧
      (∀ e, s.supervisor.table[p] = some e → s.tableRecord .fault p.val =
        [byteOf p.val, byteOf e.state.number, byteOf e.code.number, byteOf e.subject, byteOf e.code.severity.number,
          byteOf e.count] ++ bytes32 e.firstEpoch)

/-! ### What every step keeps -/

/-- Every step keeps the store in canonical form. The form is the model's (log entry 7). -/
def Obligations.EveryStepKeepsTheStoreCanonical : Prop :=
  ∀ s t : State, s.store.wf → step s = .next t → t.store.wf

/-- Every step keeps the ALARM line, the derating level and the DOWN condition as the table says: ALARM is asserted exactly when
some MAJOR or CRITICAL entry is ACTIVE-UNACKED (R130; also R128, R129). -/
def Obligations.EveryStepKeepsOutputsFollowingTheTable : Prop :=
  ∀ s t : State, s.OutputsFollow → step s = .next t → t.OutputsFollow ∧
    (t.supervisor.alarm = true ↔ ∃ (p : Fin 24) (e : FaultEntry), t.supervisor.table[p] = some e ∧
      e.state = .activeUnacked ∧ (e.code.severity = .major ∨ e.code.severity = .critical))

/-- Every step keeps the fault table free of two entries with one code and subject (R114). -/
def Obligations.EveryStepKeepsEntriesDistinct : Prop :=
  ∀ s t : State, s.EntriesDistinct → step s = .next t → t.EntriesDistinct

/-- Every step keeps the carriers within the budget: the targets of the ACTIVE slots fit in B_eff, and every applied code stands
between its floor and its target (R85, R88, R92, R93, R95). In RUN the slots and the flags stay what a recompute makes of B_eff,
DOWN, the mute flags and the offsets held, so that each of its triggers has brought one: RUN entry, an offset set, a B_eff that
changes, a DOWN that begins or ends, and a CARRIER-MASK (R81, R83, R84, R90, R91, R96). -/
def Obligations.EveryStepKeepsCarriersWithinBudget : Prop :=
  ∀ s t : State, s.WithinBudget → step s = .next t → t.WithinBudget ∧
    linSum (appliedCodes t.alloc.slots) ≤ linSum (targetCodes t.alloc.slots)

/-- Every step keeps PA enable dropped while no slot is ACTIVE (R97, R107); and every step keeps each output on its way: the drive
value of each slot, its applied code or mute, waits in the dirty set or is the value held, the write in flight carries the held
value of its slot, and any other held value is what the transceiver took last for that slot (R97, R101, R102, R104, R106, R113).
`OutputsReachWriter` holds the terms that this rests on. -/
def Obligations.EveryStepKeepsTheAmplifierOffWithoutCarriers : Prop :=
  (∀ s t : State, s.AmplifierSafe → step s = .next t → t.AmplifierSafe) ∧
  ∀ s t : State, s.OutputsReachWriter → step s = .next t → t.OutputsReachWriter

/-- Every step keeps the offsets within Smin and Smax_eff (R71, R72, R73), and Smax_eff at the limit that the mode and the number of
adjacent entries that are LOST give (R36, R40, R72). -/
def Obligations.EveryStepKeepsOffsetsInLimits : Prop :=
  ∀ s t : State, s.OffsetsInLimits → step s = .next t → t.OffsetsInLimits

/-- Every step keeps at most three answers queued, and every queued frame in one of its eight attempts (R4, R9, R16). -/
def Obligations.EveryStepKeepsTheQueueInBounds : Prop :=
  ∀ s t : State, s.port.QueueInBounds → step s = .next t → t.port.QueueInBounds

/-- Every step keeps the receiver and the transmitter as the node state says: the receiver on outside LOAD; SILENT with nothing
queued in LOAD, in LISTEN and without an own id; and not SILENT in RUN, nor in CONFIG_FAULT with an own id (R3, R6). -/
def Obligations.EveryStepKeepsThePortByNodeState : Prop :=
  ∀ s t : State, s.PortByNodeState → step s = .next t → t.PortByNodeState

/-- The state right after power-on meets every one of them. -/
def Obligations.ResetMeetsEveryInvariant : Prop :=
  State.reset.store.wf ∧ State.reset.EntriesDistinct ∧ State.reset.OutputsFollow ∧ State.reset.WithinBudget ∧
    State.reset.AmplifierSafe ∧ State.reset.OutputsReachWriter ∧ State.reset.OffsetsInLimits ∧
    State.reset.port.QueueInBounds ∧ State.reset.PortByNodeState

end
end

