-- ==== Sys2Proof/Laws/Budget.lean ====
section
/-! SUPPORT. The arithmetic of the budget: linear power rises with the code, the reduction found is the first that fits, and the offsets held
after an offset set are the set's, or those held before. -/

namespace Sys2Proof.Machine

theorem lin_add_twelve (p : Nat) : lin (p + 12) = 2 * lin p := by
  simp [lin, Nat.pow_succ]; ring

theorem lin_lt_succ (p : Nat) : lin p < lin (p + 1) := by
  induction p using Nat.strong_induction_on with
  | _ p ih =>
    by_cases h : p < 12
    · interval_cases p <;> decide
    · obtain ⟨q, rfl⟩ : ∃ q, p = q + 12 := ⟨p - 12, by omega⟩
      have h1 : q + 12 + 1 = (q + 1) + 12 := by omega
      rw [h1, lin_add_twelve, lin_add_twelve]
      have := ih q (by omega)
      omega

/-- A higher code never has a lower linear power. -/
theorem lin_mono {p q : Nat} (h : p ≤ q) : lin p ≤ lin q :=
  monotone_nat_of_le_succ (fun n => (lin_lt_succ n).le) h

/-- The reduction found fits where the last one counted to fits, and every lesser one counted does not fit. -/
theorem findReduction_spec (room : Nat) (slots : List (Nat × Nat)) (fuel r : Nat)
    (hlast : linSum (slots.map (reduced (r + fuel))) ≤ room) :
    r ≤ findReduction room slots fuel r ∧ findReduction room slots fuel r ≤ r + fuel ∧
      linSum (slots.map (reduced (findReduction room slots fuel r))) ≤ room ∧
      ∀ k, r ≤ k → k < findReduction room slots fuel r → room < linSum (slots.map (reduced k)) := by
  induction fuel generalizing r with
  | zero => exact ⟨le_rfl, le_rfl, by simpa [findReduction] using hlast, fun k h1 h2 => by simp [findReduction] at h2; omega⟩
  | succ n ih =>
    unfold findReduction
    split
    · rename_i h; exact ⟨le_rfl, by omega, h, fun k h1 h2 => by omega⟩
    · rename_i h
      have hr : r + 1 + n = r + (n + 1) := by omega
      obtain ⟨h1, h2, h3, h4⟩ := ih (r + 1) (by rw [hr]; exact hlast)
      refine ⟨by omega, by omega, h3, fun k hk hlt => ?_⟩
      by_cases he : k = r
      · subst he; omega
      · exact h4 k (by omega) hlt

/-- The held offset of an operator is that of the first pair which names it, 0 with none. -/
theorem heldOffset_eq (offsets : List (Nat × Int)) (k : Nat) :
    heldOffset offsets k = ((offsets.find? fun x => x.1 == k).map Prod.snd).getD 0 := by
  unfold heldOffset
  cases offsets.find? fun x => x.1 == k <;> rfl

/-- After a set is handed, an operator that the set names has the set's offset. -/
theorem heldOffset_replaceOffsets_of_mem (held set : List (Nat × Int)) {k : Nat} (h : k ∈ set.map Prod.fst) :
    heldOffset (replaceOffsets held set) k = heldOffset set k := by
  obtain ⟨x, hx, rfl⟩ := List.mem_map.mp h
  obtain ⟨y, hy⟩ := Option.isSome_iff_exists.mp
    (List.find?_isSome (p := fun y => y.1 == x.1).mpr ⟨x, hx, beq_self_eq_true x.1⟩)
  simp [heldOffset_eq, replaceOffsets, List.find?_append, hy]

/-- After a set is handed, an operator that the set does not name has the offset held before. -/
theorem heldOffset_replaceOffsets_of_not_mem (held set : List (Nat × Int)) {k : Nat} (h : k ∉ set.map Prod.fst) :
    heldOffset (replaceOffsets held set) k = heldOffset held k := by
  have hset : set.find? (fun x => x.1 == k) = none :=
    List.find?_eq_none.mpr fun x hx hk => h (List.mem_map.mpr ⟨x, hx, by simpa using hk⟩)
  have hheld : ∀ l : List (Nat × Int), (l.filter fun x => !(set.map Prod.fst).contains x.1).find? (fun x => x.1 == k) =
      l.find? fun x => x.1 == k := by
    intro l
    rw [List.find?_filter]
    congr 1
    funext x
    by_cases hk : x.1 = k
    · subst hk; simp at h ⊢; exact h
    · simp [hk]
  rw [heldOffset_eq, heldOffset_eq, replaceOffsets, List.find?_append, hset, Option.none_or]
  exact congrArg (fun o => (o.map Prod.snd).getD 0) (hheld held)

end Sys2Proof.Machine
end

