-- ==== Sys2Proof/Laws/State.lean ====
section
/-! SUPPORT. What each named update does to each field of the state, and to what the node state and the image say: one lemma each,
true by definition. -/

namespace Sys2Proof.Machine

/-! ### setPending -/

@[simp] theorem State.setPending_pending (s : State) (x : List Instr) : (s.setPending x).pending = x := rfl
@[simp] theorem State.setPending_port (s : State) (x : List Instr) : (s.setPending x).port = s.port := rfl
@[simp] theorem State.setPending_view (s : State) (x : List Instr) : (s.setPending x).view = s.view := rfl
@[simp] theorem State.setPending_scanner (s : State) (x : List Instr) : (s.setPending x).scanner = s.scanner := rfl
@[simp] theorem State.setPending_spread (s : State) (x : List Instr) : (s.setPending x).spread = s.spread := rfl
@[simp] theorem State.setPending_alloc (s : State) (x : List Instr) : (s.setPending x).alloc = s.alloc := rfl
@[simp] theorem State.setPending_writer (s : State) (x : List Instr) : (s.setPending x).writer = s.writer := rfl
@[simp] theorem State.setPending_supervisor (s : State) (x : List Instr) : (s.setPending x).supervisor = s.supervisor := rfl
@[simp] theorem State.setPending_composer (s : State) (x : List Instr) : (s.setPending x).composer = s.composer := rfl
@[simp] theorem State.setPending_handler (s : State) (x : List Instr) : (s.setPending x).handler = s.handler := rfl
@[simp] theorem State.setPending_ctl (s : State) (x : List Instr) : (s.setPending x).ctl = s.ctl := rfl
@[simp] theorem State.setPending_store (s : State) (x : List Instr) : (s.setPending x).store = s.store := rfl
@[simp] theorem State.setPending_draws (s : State) (x : List Instr) : (s.setPending x).draws = s.draws := rfl
@[simp] theorem State.setPending_inRun (s : State) (x : List Instr) : (s.setPending x).inRun = s.inRun := rfl
@[simp] theorem State.setPending_cfg (s : State) (x : List Instr) : (s.setPending x).cfg = s.cfg := rfl
@[simp] theorem State.setPending_ownId (s : State) (x : List Instr) : (s.setPending x).ownId = s.ownId := rfl
@[simp] theorem State.setPending_stamp (s : State) (x : List Instr) : (s.setPending x).stamp = s.stamp := rfl
@[simp] theorem State.setPending_epochInterval (s : State) (x : List Instr) : (s.setPending x).epochInterval = s.epochInterval := rfl
@[simp] theorem State.setPending_elapsed (s : State) (x : List Instr) : (s.setPending x).elapsed = s.elapsed := rfl
@[simp] theorem State.setPending_marker (s : State) (x : List Instr) : (s.setPending x).marker = s.marker := rfl
@[simp] theorem State.setPending_setPending (s : State) (x y : List Instr) : (s.setPending x).setPending y = s.setPending y := rfl
@[simp] theorem State.setPending_self (s : State) : s.setPending s.pending = s := rfl

/-! ### setPort -/

@[simp] theorem State.setPort_pending (s : State) (x : Port) : (s.setPort x).pending = s.pending := rfl
@[simp] theorem State.setPort_port (s : State) (x : Port) : (s.setPort x).port = x := rfl
@[simp] theorem State.setPort_view (s : State) (x : Port) : (s.setPort x).view = s.view := rfl
@[simp] theorem State.setPort_scanner (s : State) (x : Port) : (s.setPort x).scanner = s.scanner := rfl
@[simp] theorem State.setPort_spread (s : State) (x : Port) : (s.setPort x).spread = s.spread := rfl
@[simp] theorem State.setPort_alloc (s : State) (x : Port) : (s.setPort x).alloc = s.alloc := rfl
@[simp] theorem State.setPort_writer (s : State) (x : Port) : (s.setPort x).writer = s.writer := rfl
@[simp] theorem State.setPort_supervisor (s : State) (x : Port) : (s.setPort x).supervisor = s.supervisor := rfl
@[simp] theorem State.setPort_composer (s : State) (x : Port) : (s.setPort x).composer = s.composer := rfl
@[simp] theorem State.setPort_handler (s : State) (x : Port) : (s.setPort x).handler = s.handler := rfl
@[simp] theorem State.setPort_ctl (s : State) (x : Port) : (s.setPort x).ctl = s.ctl := rfl
@[simp] theorem State.setPort_store (s : State) (x : Port) : (s.setPort x).store = s.store := rfl
@[simp] theorem State.setPort_draws (s : State) (x : Port) : (s.setPort x).draws = s.draws := rfl
@[simp] theorem State.setPort_inRun (s : State) (x : Port) : (s.setPort x).inRun = s.inRun := rfl
@[simp] theorem State.setPort_cfg (s : State) (x : Port) : (s.setPort x).cfg = s.cfg := rfl
@[simp] theorem State.setPort_ownId (s : State) (x : Port) : (s.setPort x).ownId = s.ownId := rfl
@[simp] theorem State.setPort_stamp (s : State) (x : Port) : (s.setPort x).stamp = s.stamp := rfl
@[simp] theorem State.setPort_epochInterval (s : State) (x : Port) : (s.setPort x).epochInterval = s.epochInterval := rfl
@[simp] theorem State.setPort_elapsed (s : State) (x : Port) : (s.setPort x).elapsed = s.elapsed := rfl
@[simp] theorem State.setPort_marker (s : State) (x : Port) : (s.setPort x).marker = s.marker := rfl
@[simp] theorem State.setPort_setPort (s : State) (x y : Port) : (s.setPort x).setPort y = s.setPort y := rfl
@[simp] theorem State.setPort_self (s : State) : s.setPort s.port = s := rfl

/-! ### setView -/

@[simp] theorem State.setView_pending (s : State) (x : View) : (s.setView x).pending = s.pending := rfl
@[simp] theorem State.setView_port (s : State) (x : View) : (s.setView x).port = s.port := rfl
@[simp] theorem State.setView_view (s : State) (x : View) : (s.setView x).view = x := rfl
@[simp] theorem State.setView_scanner (s : State) (x : View) : (s.setView x).scanner = s.scanner := rfl
@[simp] theorem State.setView_spread (s : State) (x : View) : (s.setView x).spread = s.spread := rfl
@[simp] theorem State.setView_alloc (s : State) (x : View) : (s.setView x).alloc = s.alloc := rfl
@[simp] theorem State.setView_writer (s : State) (x : View) : (s.setView x).writer = s.writer := rfl
@[simp] theorem State.setView_supervisor (s : State) (x : View) : (s.setView x).supervisor = s.supervisor := rfl
@[simp] theorem State.setView_composer (s : State) (x : View) : (s.setView x).composer = s.composer := rfl
@[simp] theorem State.setView_handler (s : State) (x : View) : (s.setView x).handler = s.handler := rfl
@[simp] theorem State.setView_ctl (s : State) (x : View) : (s.setView x).ctl = s.ctl := rfl
@[simp] theorem State.setView_store (s : State) (x : View) : (s.setView x).store = s.store := rfl
@[simp] theorem State.setView_draws (s : State) (x : View) : (s.setView x).draws = s.draws := rfl
@[simp] theorem State.setView_inRun (s : State) (x : View) : (s.setView x).inRun = s.inRun := rfl
@[simp] theorem State.setView_cfg (s : State) (x : View) : (s.setView x).cfg = s.cfg := rfl
@[simp] theorem State.setView_ownId (s : State) (x : View) : (s.setView x).ownId = s.ownId := rfl
@[simp] theorem State.setView_stamp (s : State) (x : View) : (s.setView x).stamp = s.stamp := rfl
@[simp] theorem State.setView_epochInterval (s : State) (x : View) : (s.setView x).epochInterval = s.epochInterval := rfl
@[simp] theorem State.setView_elapsed (s : State) (x : View) : (s.setView x).elapsed = s.elapsed := rfl
@[simp] theorem State.setView_marker (s : State) (x : View) : (s.setView x).marker = s.marker := rfl
@[simp] theorem State.setView_setView (s : State) (x y : View) : (s.setView x).setView y = s.setView y := rfl
@[simp] theorem State.setView_self (s : State) : s.setView s.view = s := rfl

/-! ### setScanner -/

@[simp] theorem State.setScanner_pending (s : State) (x : Scanner) : (s.setScanner x).pending = s.pending := rfl
@[simp] theorem State.setScanner_port (s : State) (x : Scanner) : (s.setScanner x).port = s.port := rfl
@[simp] theorem State.setScanner_view (s : State) (x : Scanner) : (s.setScanner x).view = s.view := rfl
@[simp] theorem State.setScanner_scanner (s : State) (x : Scanner) : (s.setScanner x).scanner = x := rfl
@[simp] theorem State.setScanner_spread (s : State) (x : Scanner) : (s.setScanner x).spread = s.spread := rfl
@[simp] theorem State.setScanner_alloc (s : State) (x : Scanner) : (s.setScanner x).alloc = s.alloc := rfl
@[simp] theorem State.setScanner_writer (s : State) (x : Scanner) : (s.setScanner x).writer = s.writer := rfl
@[simp] theorem State.setScanner_supervisor (s : State) (x : Scanner) : (s.setScanner x).supervisor = s.supervisor := rfl
@[simp] theorem State.setScanner_composer (s : State) (x : Scanner) : (s.setScanner x).composer = s.composer := rfl
@[simp] theorem State.setScanner_handler (s : State) (x : Scanner) : (s.setScanner x).handler = s.handler := rfl
@[simp] theorem State.setScanner_ctl (s : State) (x : Scanner) : (s.setScanner x).ctl = s.ctl := rfl
@[simp] theorem State.setScanner_store (s : State) (x : Scanner) : (s.setScanner x).store = s.store := rfl
@[simp] theorem State.setScanner_draws (s : State) (x : Scanner) : (s.setScanner x).draws = s.draws := rfl
@[simp] theorem State.setScanner_inRun (s : State) (x : Scanner) : (s.setScanner x).inRun = s.inRun := rfl
@[simp] theorem State.setScanner_cfg (s : State) (x : Scanner) : (s.setScanner x).cfg = s.cfg := rfl
@[simp] theorem State.setScanner_ownId (s : State) (x : Scanner) : (s.setScanner x).ownId = s.ownId := rfl
@[simp] theorem State.setScanner_stamp (s : State) (x : Scanner) : (s.setScanner x).stamp = s.stamp := rfl
@[simp] theorem State.setScanner_epochInterval (s : State) (x : Scanner) : (s.setScanner x).epochInterval = s.epochInterval := rfl
@[simp] theorem State.setScanner_elapsed (s : State) (x : Scanner) : (s.setScanner x).elapsed = s.elapsed := rfl
@[simp] theorem State.setScanner_marker (s : State) (x : Scanner) : (s.setScanner x).marker = s.marker := rfl
@[simp] theorem State.setScanner_setScanner (s : State) (x y : Scanner) : (s.setScanner x).setScanner y = s.setScanner y := rfl
@[simp] theorem State.setScanner_self (s : State) : s.setScanner s.scanner = s := rfl

/-! ### setSpread -/

@[simp] theorem State.setSpread_pending (s : State) (x : Spread) : (s.setSpread x).pending = s.pending := rfl
@[simp] theorem State.setSpread_port (s : State) (x : Spread) : (s.setSpread x).port = s.port := rfl
@[simp] theorem State.setSpread_view (s : State) (x : Spread) : (s.setSpread x).view = s.view := rfl
@[simp] theorem State.setSpread_scanner (s : State) (x : Spread) : (s.setSpread x).scanner = s.scanner := rfl
@[simp] theorem State.setSpread_spread (s : State) (x : Spread) : (s.setSpread x).spread = x := rfl
@[simp] theorem State.setSpread_alloc (s : State) (x : Spread) : (s.setSpread x).alloc = s.alloc := rfl
@[simp] theorem State.setSpread_writer (s : State) (x : Spread) : (s.setSpread x).writer = s.writer := rfl
@[simp] theorem State.setSpread_supervisor (s : State) (x : Spread) : (s.setSpread x).supervisor = s.supervisor := rfl
@[simp] theorem State.setSpread_composer (s : State) (x : Spread) : (s.setSpread x).composer = s.composer := rfl
@[simp] theorem State.setSpread_handler (s : State) (x : Spread) : (s.setSpread x).handler = s.handler := rfl
@[simp] theorem State.setSpread_ctl (s : State) (x : Spread) : (s.setSpread x).ctl = s.ctl := rfl
@[simp] theorem State.setSpread_store (s : State) (x : Spread) : (s.setSpread x).store = s.store := rfl
@[simp] theorem State.setSpread_draws (s : State) (x : Spread) : (s.setSpread x).draws = s.draws := rfl
@[simp] theorem State.setSpread_inRun (s : State) (x : Spread) : (s.setSpread x).inRun = s.inRun := rfl
@[simp] theorem State.setSpread_cfg (s : State) (x : Spread) : (s.setSpread x).cfg = s.cfg := rfl
@[simp] theorem State.setSpread_ownId (s : State) (x : Spread) : (s.setSpread x).ownId = s.ownId := rfl
@[simp] theorem State.setSpread_stamp (s : State) (x : Spread) : (s.setSpread x).stamp = s.stamp := rfl
@[simp] theorem State.setSpread_epochInterval (s : State) (x : Spread) : (s.setSpread x).epochInterval = s.epochInterval := rfl
@[simp] theorem State.setSpread_elapsed (s : State) (x : Spread) : (s.setSpread x).elapsed = s.elapsed := rfl
@[simp] theorem State.setSpread_marker (s : State) (x : Spread) : (s.setSpread x).marker = s.marker := rfl
@[simp] theorem State.setSpread_setSpread (s : State) (x y : Spread) : (s.setSpread x).setSpread y = s.setSpread y := rfl
@[simp] theorem State.setSpread_self (s : State) : s.setSpread s.spread = s := rfl

/-! ### setAlloc -/

@[simp] theorem State.setAlloc_pending (s : State) (x : Alloc) : (s.setAlloc x).pending = s.pending := rfl
@[simp] theorem State.setAlloc_port (s : State) (x : Alloc) : (s.setAlloc x).port = s.port := rfl
@[simp] theorem State.setAlloc_view (s : State) (x : Alloc) : (s.setAlloc x).view = s.view := rfl
@[simp] theorem State.setAlloc_scanner (s : State) (x : Alloc) : (s.setAlloc x).scanner = s.scanner := rfl
@[simp] theorem State.setAlloc_spread (s : State) (x : Alloc) : (s.setAlloc x).spread = s.spread := rfl
@[simp] theorem State.setAlloc_alloc (s : State) (x : Alloc) : (s.setAlloc x).alloc = x := rfl
@[simp] theorem State.setAlloc_writer (s : State) (x : Alloc) : (s.setAlloc x).writer = s.writer := rfl
@[simp] theorem State.setAlloc_supervisor (s : State) (x : Alloc) : (s.setAlloc x).supervisor = s.supervisor := rfl
@[simp] theorem State.setAlloc_composer (s : State) (x : Alloc) : (s.setAlloc x).composer = s.composer := rfl
@[simp] theorem State.setAlloc_handler (s : State) (x : Alloc) : (s.setAlloc x).handler = s.handler := rfl
@[simp] theorem State.setAlloc_ctl (s : State) (x : Alloc) : (s.setAlloc x).ctl = s.ctl := rfl
@[simp] theorem State.setAlloc_store (s : State) (x : Alloc) : (s.setAlloc x).store = s.store := rfl
@[simp] theorem State.setAlloc_draws (s : State) (x : Alloc) : (s.setAlloc x).draws = s.draws := rfl
@[simp] theorem State.setAlloc_inRun (s : State) (x : Alloc) : (s.setAlloc x).inRun = s.inRun := rfl
@[simp] theorem State.setAlloc_cfg (s : State) (x : Alloc) : (s.setAlloc x).cfg = s.cfg := rfl
@[simp] theorem State.setAlloc_ownId (s : State) (x : Alloc) : (s.setAlloc x).ownId = s.ownId := rfl
@[simp] theorem State.setAlloc_stamp (s : State) (x : Alloc) : (s.setAlloc x).stamp = s.stamp := rfl
@[simp] theorem State.setAlloc_epochInterval (s : State) (x : Alloc) : (s.setAlloc x).epochInterval = s.epochInterval := rfl
@[simp] theorem State.setAlloc_elapsed (s : State) (x : Alloc) : (s.setAlloc x).elapsed = s.elapsed := rfl
@[simp] theorem State.setAlloc_marker (s : State) (x : Alloc) : (s.setAlloc x).marker = s.marker := rfl
@[simp] theorem State.setAlloc_setAlloc (s : State) (x y : Alloc) : (s.setAlloc x).setAlloc y = s.setAlloc y := rfl
@[simp] theorem State.setAlloc_self (s : State) : s.setAlloc s.alloc = s := rfl

/-! ### setWriter -/

@[simp] theorem State.setWriter_pending (s : State) (x : Writer) : (s.setWriter x).pending = s.pending := rfl
@[simp] theorem State.setWriter_port (s : State) (x : Writer) : (s.setWriter x).port = s.port := rfl
@[simp] theorem State.setWriter_view (s : State) (x : Writer) : (s.setWriter x).view = s.view := rfl
@[simp] theorem State.setWriter_scanner (s : State) (x : Writer) : (s.setWriter x).scanner = s.scanner := rfl
@[simp] theorem State.setWriter_spread (s : State) (x : Writer) : (s.setWriter x).spread = s.spread := rfl
@[simp] theorem State.setWriter_alloc (s : State) (x : Writer) : (s.setWriter x).alloc = s.alloc := rfl
@[simp] theorem State.setWriter_writer (s : State) (x : Writer) : (s.setWriter x).writer = x := rfl
@[simp] theorem State.setWriter_supervisor (s : State) (x : Writer) : (s.setWriter x).supervisor = s.supervisor := rfl
@[simp] theorem State.setWriter_composer (s : State) (x : Writer) : (s.setWriter x).composer = s.composer := rfl
@[simp] theorem State.setWriter_handler (s : State) (x : Writer) : (s.setWriter x).handler = s.handler := rfl
@[simp] theorem State.setWriter_ctl (s : State) (x : Writer) : (s.setWriter x).ctl = s.ctl := rfl
@[simp] theorem State.setWriter_store (s : State) (x : Writer) : (s.setWriter x).store = s.store := rfl
@[simp] theorem State.setWriter_draws (s : State) (x : Writer) : (s.setWriter x).draws = s.draws := rfl
@[simp] theorem State.setWriter_inRun (s : State) (x : Writer) : (s.setWriter x).inRun = s.inRun := rfl
@[simp] theorem State.setWriter_cfg (s : State) (x : Writer) : (s.setWriter x).cfg = s.cfg := rfl
@[simp] theorem State.setWriter_ownId (s : State) (x : Writer) : (s.setWriter x).ownId = s.ownId := rfl
@[simp] theorem State.setWriter_stamp (s : State) (x : Writer) : (s.setWriter x).stamp = s.stamp := rfl
@[simp] theorem State.setWriter_epochInterval (s : State) (x : Writer) : (s.setWriter x).epochInterval = s.epochInterval := rfl
@[simp] theorem State.setWriter_elapsed (s : State) (x : Writer) : (s.setWriter x).elapsed = s.elapsed := rfl
@[simp] theorem State.setWriter_marker (s : State) (x : Writer) : (s.setWriter x).marker = s.marker := rfl
@[simp] theorem State.setWriter_setWriter (s : State) (x y : Writer) : (s.setWriter x).setWriter y = s.setWriter y := rfl
@[simp] theorem State.setWriter_self (s : State) : s.setWriter s.writer = s := rfl

/-! ### setSupervisor -/

@[simp] theorem State.setSupervisor_pending (s : State) (x : Supervisor) : (s.setSupervisor x).pending = s.pending := rfl
@[simp] theorem State.setSupervisor_port (s : State) (x : Supervisor) : (s.setSupervisor x).port = s.port := rfl
@[simp] theorem State.setSupervisor_view (s : State) (x : Supervisor) : (s.setSupervisor x).view = s.view := rfl
@[simp] theorem State.setSupervisor_scanner (s : State) (x : Supervisor) : (s.setSupervisor x).scanner = s.scanner := rfl
@[simp] theorem State.setSupervisor_spread (s : State) (x : Supervisor) : (s.setSupervisor x).spread = s.spread := rfl
@[simp] theorem State.setSupervisor_alloc (s : State) (x : Supervisor) : (s.setSupervisor x).alloc = s.alloc := rfl
@[simp] theorem State.setSupervisor_writer (s : State) (x : Supervisor) : (s.setSupervisor x).writer = s.writer := rfl
@[simp] theorem State.setSupervisor_supervisor (s : State) (x : Supervisor) : (s.setSupervisor x).supervisor = x := rfl
@[simp] theorem State.setSupervisor_composer (s : State) (x : Supervisor) : (s.setSupervisor x).composer = s.composer := rfl
@[simp] theorem State.setSupervisor_handler (s : State) (x : Supervisor) : (s.setSupervisor x).handler = s.handler := rfl
@[simp] theorem State.setSupervisor_ctl (s : State) (x : Supervisor) : (s.setSupervisor x).ctl = s.ctl := rfl
@[simp] theorem State.setSupervisor_store (s : State) (x : Supervisor) : (s.setSupervisor x).store = s.store := rfl
@[simp] theorem State.setSupervisor_draws (s : State) (x : Supervisor) : (s.setSupervisor x).draws = s.draws := rfl
@[simp] theorem State.setSupervisor_inRun (s : State) (x : Supervisor) : (s.setSupervisor x).inRun = s.inRun := rfl
@[simp] theorem State.setSupervisor_cfg (s : State) (x : Supervisor) : (s.setSupervisor x).cfg = s.cfg := rfl
@[simp] theorem State.setSupervisor_ownId (s : State) (x : Supervisor) : (s.setSupervisor x).ownId = s.ownId := rfl
@[simp] theorem State.setSupervisor_stamp (s : State) (x : Supervisor) : (s.setSupervisor x).stamp = s.stamp := rfl
@[simp] theorem State.setSupervisor_epochInterval (s : State) (x : Supervisor) : (s.setSupervisor x).epochInterval = s.epochInterval := rfl
@[simp] theorem State.setSupervisor_elapsed (s : State) (x : Supervisor) : (s.setSupervisor x).elapsed = s.elapsed := rfl
@[simp] theorem State.setSupervisor_marker (s : State) (x : Supervisor) : (s.setSupervisor x).marker = s.marker := rfl
@[simp] theorem State.setSupervisor_setSupervisor (s : State) (x y : Supervisor) : (s.setSupervisor x).setSupervisor y = s.setSupervisor y := rfl
@[simp] theorem State.setSupervisor_self (s : State) : s.setSupervisor s.supervisor = s := rfl

/-! ### setComposer -/

@[simp] theorem State.setComposer_pending (s : State) (x : Composer) : (s.setComposer x).pending = s.pending := rfl
@[simp] theorem State.setComposer_port (s : State) (x : Composer) : (s.setComposer x).port = s.port := rfl
@[simp] theorem State.setComposer_view (s : State) (x : Composer) : (s.setComposer x).view = s.view := rfl
@[simp] theorem State.setComposer_scanner (s : State) (x : Composer) : (s.setComposer x).scanner = s.scanner := rfl
@[simp] theorem State.setComposer_spread (s : State) (x : Composer) : (s.setComposer x).spread = s.spread := rfl
@[simp] theorem State.setComposer_alloc (s : State) (x : Composer) : (s.setComposer x).alloc = s.alloc := rfl
@[simp] theorem State.setComposer_writer (s : State) (x : Composer) : (s.setComposer x).writer = s.writer := rfl
@[simp] theorem State.setComposer_supervisor (s : State) (x : Composer) : (s.setComposer x).supervisor = s.supervisor := rfl
@[simp] theorem State.setComposer_composer (s : State) (x : Composer) : (s.setComposer x).composer = x := rfl
@[simp] theorem State.setComposer_handler (s : State) (x : Composer) : (s.setComposer x).handler = s.handler := rfl
@[simp] theorem State.setComposer_ctl (s : State) (x : Composer) : (s.setComposer x).ctl = s.ctl := rfl
@[simp] theorem State.setComposer_store (s : State) (x : Composer) : (s.setComposer x).store = s.store := rfl
@[simp] theorem State.setComposer_draws (s : State) (x : Composer) : (s.setComposer x).draws = s.draws := rfl
@[simp] theorem State.setComposer_inRun (s : State) (x : Composer) : (s.setComposer x).inRun = s.inRun := rfl
@[simp] theorem State.setComposer_cfg (s : State) (x : Composer) : (s.setComposer x).cfg = s.cfg := rfl
@[simp] theorem State.setComposer_ownId (s : State) (x : Composer) : (s.setComposer x).ownId = s.ownId := rfl
@[simp] theorem State.setComposer_stamp (s : State) (x : Composer) : (s.setComposer x).stamp = s.stamp := rfl
@[simp] theorem State.setComposer_epochInterval (s : State) (x : Composer) : (s.setComposer x).epochInterval = s.epochInterval := rfl
@[simp] theorem State.setComposer_elapsed (s : State) (x : Composer) : (s.setComposer x).elapsed = s.elapsed := rfl
@[simp] theorem State.setComposer_marker (s : State) (x : Composer) : (s.setComposer x).marker = s.marker := rfl
@[simp] theorem State.setComposer_setComposer (s : State) (x y : Composer) : (s.setComposer x).setComposer y = s.setComposer y := rfl
@[simp] theorem State.setComposer_self (s : State) : s.setComposer s.composer = s := rfl

/-! ### setHandler -/

@[simp] theorem State.setHandler_pending (s : State) (x : Handler) : (s.setHandler x).pending = s.pending := rfl
@[simp] theorem State.setHandler_port (s : State) (x : Handler) : (s.setHandler x).port = s.port := rfl
@[simp] theorem State.setHandler_view (s : State) (x : Handler) : (s.setHandler x).view = s.view := rfl
@[simp] theorem State.setHandler_scanner (s : State) (x : Handler) : (s.setHandler x).scanner = s.scanner := rfl
@[simp] theorem State.setHandler_spread (s : State) (x : Handler) : (s.setHandler x).spread = s.spread := rfl
@[simp] theorem State.setHandler_alloc (s : State) (x : Handler) : (s.setHandler x).alloc = s.alloc := rfl
@[simp] theorem State.setHandler_writer (s : State) (x : Handler) : (s.setHandler x).writer = s.writer := rfl
@[simp] theorem State.setHandler_supervisor (s : State) (x : Handler) : (s.setHandler x).supervisor = s.supervisor := rfl
@[simp] theorem State.setHandler_composer (s : State) (x : Handler) : (s.setHandler x).composer = s.composer := rfl
@[simp] theorem State.setHandler_handler (s : State) (x : Handler) : (s.setHandler x).handler = x := rfl
@[simp] theorem State.setHandler_ctl (s : State) (x : Handler) : (s.setHandler x).ctl = s.ctl := rfl
@[simp] theorem State.setHandler_store (s : State) (x : Handler) : (s.setHandler x).store = s.store := rfl
@[simp] theorem State.setHandler_draws (s : State) (x : Handler) : (s.setHandler x).draws = s.draws := rfl
@[simp] theorem State.setHandler_inRun (s : State) (x : Handler) : (s.setHandler x).inRun = s.inRun := rfl
@[simp] theorem State.setHandler_cfg (s : State) (x : Handler) : (s.setHandler x).cfg = s.cfg := rfl
@[simp] theorem State.setHandler_ownId (s : State) (x : Handler) : (s.setHandler x).ownId = s.ownId := rfl
@[simp] theorem State.setHandler_stamp (s : State) (x : Handler) : (s.setHandler x).stamp = s.stamp := rfl
@[simp] theorem State.setHandler_epochInterval (s : State) (x : Handler) : (s.setHandler x).epochInterval = s.epochInterval := rfl
@[simp] theorem State.setHandler_elapsed (s : State) (x : Handler) : (s.setHandler x).elapsed = s.elapsed := rfl
@[simp] theorem State.setHandler_marker (s : State) (x : Handler) : (s.setHandler x).marker = s.marker := rfl
@[simp] theorem State.setHandler_setHandler (s : State) (x y : Handler) : (s.setHandler x).setHandler y = s.setHandler y := rfl
@[simp] theorem State.setHandler_self (s : State) : s.setHandler s.handler = s := rfl

/-! ### setCtl -/

@[simp] theorem State.setCtl_pending (s : State) (x : StoreCtl) : (s.setCtl x).pending = s.pending := rfl
@[simp] theorem State.setCtl_port (s : State) (x : StoreCtl) : (s.setCtl x).port = s.port := rfl
@[simp] theorem State.setCtl_view (s : State) (x : StoreCtl) : (s.setCtl x).view = s.view := rfl
@[simp] theorem State.setCtl_scanner (s : State) (x : StoreCtl) : (s.setCtl x).scanner = s.scanner := rfl
@[simp] theorem State.setCtl_spread (s : State) (x : StoreCtl) : (s.setCtl x).spread = s.spread := rfl
@[simp] theorem State.setCtl_alloc (s : State) (x : StoreCtl) : (s.setCtl x).alloc = s.alloc := rfl
@[simp] theorem State.setCtl_writer (s : State) (x : StoreCtl) : (s.setCtl x).writer = s.writer := rfl
@[simp] theorem State.setCtl_supervisor (s : State) (x : StoreCtl) : (s.setCtl x).supervisor = s.supervisor := rfl
@[simp] theorem State.setCtl_composer (s : State) (x : StoreCtl) : (s.setCtl x).composer = s.composer := rfl
@[simp] theorem State.setCtl_handler (s : State) (x : StoreCtl) : (s.setCtl x).handler = s.handler := rfl
@[simp] theorem State.setCtl_ctl (s : State) (x : StoreCtl) : (s.setCtl x).ctl = x := rfl
@[simp] theorem State.setCtl_store (s : State) (x : StoreCtl) : (s.setCtl x).store = s.store := rfl
@[simp] theorem State.setCtl_draws (s : State) (x : StoreCtl) : (s.setCtl x).draws = s.draws := rfl
@[simp] theorem State.setCtl_marker (s : State) (x : StoreCtl) : (s.setCtl x).marker = s.marker := rfl
@[simp] theorem State.setCtl_setCtl (s : State) (x y : StoreCtl) : (s.setCtl x).setCtl y = s.setCtl y := rfl
@[simp] theorem State.setCtl_self (s : State) : s.setCtl s.ctl = s := rfl

/-! ### setStore -/

@[simp] theorem State.setStore_pending (s : State) (x : Memory) : (s.setStore x).pending = s.pending := rfl
@[simp] theorem State.setStore_port (s : State) (x : Memory) : (s.setStore x).port = s.port := rfl
@[simp] theorem State.setStore_view (s : State) (x : Memory) : (s.setStore x).view = s.view := rfl
@[simp] theorem State.setStore_scanner (s : State) (x : Memory) : (s.setStore x).scanner = s.scanner := rfl
@[simp] theorem State.setStore_spread (s : State) (x : Memory) : (s.setStore x).spread = s.spread := rfl
@[simp] theorem State.setStore_alloc (s : State) (x : Memory) : (s.setStore x).alloc = s.alloc := rfl
@[simp] theorem State.setStore_writer (s : State) (x : Memory) : (s.setStore x).writer = s.writer := rfl
@[simp] theorem State.setStore_supervisor (s : State) (x : Memory) : (s.setStore x).supervisor = s.supervisor := rfl
@[simp] theorem State.setStore_composer (s : State) (x : Memory) : (s.setStore x).composer = s.composer := rfl
@[simp] theorem State.setStore_handler (s : State) (x : Memory) : (s.setStore x).handler = s.handler := rfl
@[simp] theorem State.setStore_ctl (s : State) (x : Memory) : (s.setStore x).ctl = s.ctl := rfl
@[simp] theorem State.setStore_store (s : State) (x : Memory) : (s.setStore x).store = x := rfl
@[simp] theorem State.setStore_draws (s : State) (x : Memory) : (s.setStore x).draws = s.draws := rfl
@[simp] theorem State.setStore_inRun (s : State) (x : Memory) : (s.setStore x).inRun = s.inRun := rfl
@[simp] theorem State.setStore_cfg (s : State) (x : Memory) : (s.setStore x).cfg = s.cfg := rfl
@[simp] theorem State.setStore_ownId (s : State) (x : Memory) : (s.setStore x).ownId = s.ownId := rfl
@[simp] theorem State.setStore_stamp (s : State) (x : Memory) : (s.setStore x).stamp = s.stamp := rfl
@[simp] theorem State.setStore_epochInterval (s : State) (x : Memory) : (s.setStore x).epochInterval = s.epochInterval := rfl
@[simp] theorem State.setStore_elapsed (s : State) (x : Memory) : (s.setStore x).elapsed = s.elapsed := rfl
@[simp] theorem State.setStore_setStore (s : State) (x y : Memory) : (s.setStore x).setStore y = s.setStore y := rfl
@[simp] theorem State.setStore_self (s : State) : s.setStore s.store = s := rfl

/-! ### setDraws -/

@[simp] theorem State.setDraws_pending (s : State) (x : Nat) : (s.setDraws x).pending = s.pending := rfl
@[simp] theorem State.setDraws_port (s : State) (x : Nat) : (s.setDraws x).port = s.port := rfl
@[simp] theorem State.setDraws_view (s : State) (x : Nat) : (s.setDraws x).view = s.view := rfl
@[simp] theorem State.setDraws_scanner (s : State) (x : Nat) : (s.setDraws x).scanner = s.scanner := rfl
@[simp] theorem State.setDraws_spread (s : State) (x : Nat) : (s.setDraws x).spread = s.spread := rfl
@[simp] theorem State.setDraws_alloc (s : State) (x : Nat) : (s.setDraws x).alloc = s.alloc := rfl
@[simp] theorem State.setDraws_writer (s : State) (x : Nat) : (s.setDraws x).writer = s.writer := rfl
@[simp] theorem State.setDraws_supervisor (s : State) (x : Nat) : (s.setDraws x).supervisor = s.supervisor := rfl
@[simp] theorem State.setDraws_composer (s : State) (x : Nat) : (s.setDraws x).composer = s.composer := rfl
@[simp] theorem State.setDraws_handler (s : State) (x : Nat) : (s.setDraws x).handler = s.handler := rfl
@[simp] theorem State.setDraws_ctl (s : State) (x : Nat) : (s.setDraws x).ctl = s.ctl := rfl
@[simp] theorem State.setDraws_store (s : State) (x : Nat) : (s.setDraws x).store = s.store := rfl
@[simp] theorem State.setDraws_draws (s : State) (x : Nat) : (s.setDraws x).draws = x := rfl
@[simp] theorem State.setDraws_inRun (s : State) (x : Nat) : (s.setDraws x).inRun = s.inRun := rfl
@[simp] theorem State.setDraws_cfg (s : State) (x : Nat) : (s.setDraws x).cfg = s.cfg := rfl
@[simp] theorem State.setDraws_ownId (s : State) (x : Nat) : (s.setDraws x).ownId = s.ownId := rfl
@[simp] theorem State.setDraws_stamp (s : State) (x : Nat) : (s.setDraws x).stamp = s.stamp := rfl
@[simp] theorem State.setDraws_epochInterval (s : State) (x : Nat) : (s.setDraws x).epochInterval = s.epochInterval := rfl
@[simp] theorem State.setDraws_elapsed (s : State) (x : Nat) : (s.setDraws x).elapsed = s.elapsed := rfl
@[simp] theorem State.setDraws_marker (s : State) (x : Nat) : (s.setDraws x).marker = s.marker := rfl
@[simp] theorem State.setDraws_setDraws (s : State) (x y : Nat) : (s.setDraws x).setDraws y = s.setDraws y := rfl
@[simp] theorem State.setDraws_self (s : State) : s.setDraws s.draws = s := rfl

/-! ### advance: only the clock counts -/

@[simp] theorem State.advance_pending (s : State) (ms : Nat) : (s.advance ms).pending = s.pending := rfl
@[simp] theorem State.advance_port (s : State) (ms : Nat) : (s.advance ms).port = s.port := rfl
@[simp] theorem State.advance_view (s : State) (ms : Nat) : (s.advance ms).view = s.view := rfl
@[simp] theorem State.advance_scanner (s : State) (ms : Nat) : (s.advance ms).scanner = s.scanner := rfl
@[simp] theorem State.advance_spread (s : State) (ms : Nat) : (s.advance ms).spread = s.spread := rfl
@[simp] theorem State.advance_alloc (s : State) (ms : Nat) : (s.advance ms).alloc = s.alloc := rfl
@[simp] theorem State.advance_writer (s : State) (ms : Nat) : (s.advance ms).writer = s.writer := rfl
@[simp] theorem State.advance_supervisor (s : State) (ms : Nat) : (s.advance ms).supervisor = s.supervisor := rfl
@[simp] theorem State.advance_composer (s : State) (ms : Nat) : (s.advance ms).composer = s.composer := rfl
@[simp] theorem State.advance_handler (s : State) (ms : Nat) : (s.advance ms).handler = s.handler := rfl
@[simp] theorem State.advance_store (s : State) (ms : Nat) : (s.advance ms).store = s.store := rfl
@[simp] theorem State.advance_draws (s : State) (ms : Nat) : (s.advance ms).draws = s.draws := rfl
@[simp] theorem State.advance_inRun (s : State) (ms : Nat) : (s.advance ms).inRun = s.inRun := rfl
@[simp] theorem State.advance_cfg (s : State) (ms : Nat) : (s.advance ms).cfg = s.cfg := rfl
@[simp] theorem State.advance_ownId (s : State) (ms : Nat) : (s.advance ms).ownId = s.ownId := rfl
@[simp] theorem State.advance_stamp (s : State) (ms : Nat) : (s.advance ms).stamp = s.stamp := rfl
@[simp] theorem State.advance_epochInterval (s : State) (ms : Nat) : (s.advance ms).epochInterval = s.epochInterval := rfl
@[simp] theorem State.advance_marker (s : State) (ms : Nat) : (s.advance ms).marker = s.marker := rfl
@[simp] theorem State.advance_ctl_node (s : State) (ms : Nat) : (s.advance ms).ctl.node = s.ctl.node := rfl
@[simp] theorem State.advance_ctl_cause (s : State) (ms : Nat) : (s.advance ms).ctl.cause = s.ctl.cause := rfl
@[simp] theorem State.advance_ctl_image (s : State) (ms : Nat) : (s.advance ms).ctl.image = s.ctl.image := rfl
@[simp] theorem State.advance_ctl_listenTimer (s : State) (ms : Nat) : (s.advance ms).ctl.listenTimer = s.ctl.listenTimer := rfl
@[simp] theorem State.advance_ctl_epochTimer (s : State) (ms : Nat) : (s.advance ms).ctl.epochTimer = s.ctl.epochTimer := rfl
@[simp] theorem State.advance_ctl_epoch (s : State) (ms : Nat) : (s.advance ms).ctl.epoch = s.ctl.epoch := rfl
@[simp] theorem State.advance_ctl_operation (s : State) (ms : Nat) : (s.advance ms).ctl.operation = s.ctl.operation := rfl
@[simp] theorem State.advance_ctl_storeWait (s : State) (ms : Nat) : (s.advance ms).ctl.storeWait = s.ctl.storeWait := rfl
@[simp] theorem State.advance_ctl_pendingWrite (s : State) (ms : Nat) : (s.advance ms).ctl.pendingWrite = s.ctl.pendingWrite := rfl
@[simp] theorem State.advance_ctl_region (s : State) (ms : Nat) : (s.advance ms).ctl.region = s.ctl.region := rfl
@[simp] theorem State.advance_ctl_deferredRestart (s : State) (ms : Nat) : (s.advance ms).ctl.deferredRestart = s.ctl.deferredRestart := rfl
@[simp] theorem State.advance_ctl_clock (s : State) (ms : Nat) : (s.advance ms).ctl.clock = s.ctl.clock + BitVec.ofNat 32 ms := rfl

end Sys2Proof.Machine
end

