-- ==== Sys2Proof/Laws/Changes.lean ====
section
/-! SUPPORT. What one change of the fault table and what follows it can do: a raise, a clear, an acknowledgement and its notice, a recompute, and
the recomputes asked for. `s.Beside t` says that `t` differs from `s` only in what these may write. -/

namespace Sys2Proof.Machine

/-- `t` agrees with `s` in everything that a change of the fault table and its recomputes leave alone: they write the supervisor, the
composer's carried set, the allocation unit, the writer, the controller's records, and of the store controller only the operation
in flight and the pending write. -/
structure State.Beside (s t : State) : Prop where
  pending : t.pending = s.pending
  port : t.port = s.port
  view : t.view = s.view
  scanner : t.scanner = s.scanner
  lostCount : t.spread.lostCount = s.spread.lostCount
  handler : t.handler = s.handler
  store : t.store = s.store
  draws : t.draws = s.draws
  composer : t.composer = { s.composer with carried := t.composer.carried }
  mute : t.alloc.mute = s.alloc.mute
  offsets : t.alloc.offsets = s.alloc.offsets
  ramp : t.alloc.ramp = s.alloc.ramp
  ctl : t.ctl = { s.ctl with operation := t.ctl.operation, pendingWrite := t.ctl.pendingWrite }

theorem State.Beside.refl (s : State) : s.Beside s := ⟨rfl, rfl, rfl, rfl, rfl, rfl, rfl, rfl, rfl, rfl, rfl, rfl, rfl⟩

theorem State.Beside.trans {s t u : State} (h : s.Beside t) (k : t.Beside u) : s.Beside u where
  pending := k.pending.trans h.pending
  port := k.port.trans h.port
  view := k.view.trans h.view
  scanner := k.scanner.trans h.scanner
  lostCount := k.lostCount.trans h.lostCount
  handler := k.handler.trans h.handler
  store := k.store.trans h.store
  draws := k.draws.trans h.draws
  composer := by
    have hk := k.composer
    have hh := h.composer
    revert hk hh
    generalize t.composer = tc, u.composer = uc, s.composer = sc
    rintro hk hh
    rw [hh] at hk
    exact hk
  mute := k.mute.trans h.mute
  offsets := k.offsets.trans h.offsets
  ramp := k.ramp.trans h.ramp
  ctl := by
    have hk := k.ctl
    have hh := h.ctl
    revert hk hh
    generalize t.ctl = tc, u.ctl = uc, s.ctl = sc
    rintro hk hh
    rw [hh] at hk
    exact hk

section reading

variable {s t : State} (h : s.Beside t)
include h

theorem State.Beside.request : t.composer.request = s.composer.request := by rw [h.composer]
theorem State.Beside.floor : t.composer.floor = s.composer.floor := by rw [h.composer]
theorem State.Beside.node : t.ctl.node = s.ctl.node := by rw [h.ctl]
theorem State.Beside.cause : t.ctl.cause = s.ctl.cause := by rw [h.ctl]
theorem State.Beside.image : t.ctl.image = s.ctl.image := by rw [h.ctl]
theorem State.Beside.clock : t.ctl.clock = s.ctl.clock := by rw [h.ctl]
theorem State.Beside.listenTimer : t.ctl.listenTimer = s.ctl.listenTimer := by rw [h.ctl]
theorem State.Beside.epochTimer : t.ctl.epochTimer = s.ctl.epochTimer := by rw [h.ctl]
theorem State.Beside.epoch : t.ctl.epoch = s.ctl.epoch := by rw [h.ctl]
theorem State.Beside.storeWait : t.ctl.storeWait = s.ctl.storeWait := by rw [h.ctl]
theorem State.Beside.region : t.ctl.region = s.ctl.region := by rw [h.ctl]
theorem State.Beside.deferredRestart : t.ctl.deferredRestart = s.ctl.deferredRestart := by rw [h.ctl]
theorem State.Beside.inRun : t.inRun = s.inRun := by simp [State.inRun, h.node]
theorem State.Beside.cfg : t.cfg = s.cfg := by simp [State.cfg, h.image]
theorem State.Beside.stamp : t.stamp = s.stamp := by simp [State.stamp, h.inRun, h.epoch]
theorem State.Beside.ownId : t.ownId = s.ownId := by simp [State.ownId, h.node, h.image, h.cfg]

end reading

/-! ### The store controller's requests -/

/-- A write request changes at most the operation in flight and the pending write. -/
theorem StoreCtl.requestWrite_eq (c : StoreCtl) (record : CrashRecord) :
    c.requestWrite record =
      { c with operation := (c.requestWrite record).operation, pendingWrite := (c.requestWrite record).pendingWrite } := by
  unfold StoreCtl.requestWrite StoreCtl.begin
  repeat' split
  all_goals rfl

/-- An erase request changes at most the operation in flight. -/
theorem StoreCtl.requestErase_eq (c : StoreCtl) : c.requestErase = { c with operation := c.requestErase.operation } := by
  unfold StoreCtl.requestErase StoreCtl.begin
  repeat' split
  all_goals rfl

/-- Erase requests change at most the operation in flight. -/
theorem StoreCtl.requestErases_eq (c : StoreCtl) (n : Nat) :
    c.requestErases n = { c with operation := (c.requestErases n).operation } := by
  induction n generalizing c with
  | zero => rfl
  | succ n ih =>
    rw [StoreCtl.requestErases, ih]
    generalize (c.requestErase.requestErases n).operation = x
    rw [StoreCtl.requestErase_eq c]

/-- Once an erase request has been judged, a further one of the same moment changes nothing. -/
theorem StoreCtl.requestErase_twice (c : StoreCtl) : c.requestErase.requestErase = c.requestErase := by
  rcases c with ⟨node, cause, image, clock, listenTimer, epochTimer, epoch, operation, storeWait, pendingWrite, region, deferred⟩
  cases operation <;> cases pendingWrite <;> cases region <;> rfl

/-- Several erase requests of one moment are as one. -/
theorem StoreCtl.requestErases_succ (c : StoreCtl) (n : Nat) : c.requestErases (n + 1) = c.requestErase := by
  induction n generalizing c with
  | zero => rfl
  | succ n ih =>
    have h : c.requestErases (n + 1 + 1) = c.requestErase.requestErases (n + 1) := rfl
    rw [h, ih, StoreCtl.requestErase_twice]

/-! ### One change -/

theorem State.setTable_beside (s : State) (t : FaultTable) : s.Beside (s.setTable t) :=
  ⟨rfl, rfl, rfl, rfl, rfl, rfl, rfl, rfl, rfl, rfl, rfl, rfl, rfl⟩

theorem State.setSupervisor_beside (s : State) (x : Supervisor) : s.Beside (s.setSupervisor x) :=
  ⟨rfl, rfl, rfl, rfl, rfl, rfl, rfl, rfl, rfl, rfl, rfl, rfl, rfl⟩

theorem State.serious_beside (s : State) (code : FaultCode) (subject : Nat) (stamp : EpochCount) :
    s.Beside (s.serious code subject stamp) := by
  unfold State.serious
  repeat' split
  all_goals exact ⟨rfl, rfl, rfl, rfl, rfl, rfl, rfl, rfl, rfl, rfl, rfl, rfl, rfl⟩

theorem State.tripped_beside (s : State) (code : FaultCode) (subject : Nat) (stamp : EpochCount) :
    s.Beside (s.tripped code subject stamp) := by
  unfold State.tripped
  split
  · exact ⟨rfl, rfl, rfl, rfl, rfl, rfl, rfl, rfl, rfl, rfl, rfl, rfl, StoreCtl.requestWrite_eq _ _⟩
  · exact .refl s

theorem State.handDerating_beside (s : State) (level : Nat) : s.Beside (s.handDerating level) := by
  unfold State.handDerating
  repeat' split
  all_goals exact ⟨rfl, rfl, rfl, rfl, rfl, rfl, rfl, rfl, rfl, rfl, rfl, rfl, rfl⟩

theorem State.handDown_beside (s : State) (down : Bool) : s.Beside (s.handDown down) := by
  unfold State.handDown
  split
  all_goals exact ⟨rfl, rfl, rfl, rfl, rfl, rfl, rfl, rfl, rfl, rfl, rfl, rfl, rfl⟩

theorem State.handOutputs_beside (s : State) : s.Beside s.handOutputs :=
  ((s.setSupervisor_beside _).trans (State.handDerating_beside _ _)).trans (State.handDown_beside _ _)

theorem State.raiseOnly_beside (s : State) (code : FaultCode) (subject : Nat) : s.Beside (s.raiseOnly code subject) := by
  unfold State.raiseOnly
  refine State.Beside.trans ?_ (State.handOutputs_beside _)
  have h := fun x => (s.setTable_beside (tableRaise s.supervisor.table code subject s.stamp).table).trans
    (State.setSupervisor_beside _ x)
  dsimp only
  split
  · exact ((h _).trans (State.serious_beside _ _ _ _)).trans (State.tripped_beside _ _ _ _)
  · exact h _

theorem State.clearOnly_beside (s : State) (code : FaultCode) (subject : Nat) : s.Beside (s.clearOnly code subject) :=
  (s.setTable_beside _).trans (State.handOutputs_beside _)

theorem State.erasesFor_beside (s : State) (before : FaultTable) : s.Beside (s.erasesFor before) := by
  refine ⟨rfl, rfl, rfl, rfl, rfl, rfl, rfl, rfl, rfl, rfl, rfl, rfl, ?_⟩
  simp only [State.erasesFor, State.setCtl_ctl]
  rw [StoreCtl.requestErases_eq]

theorem State.ackOneOnly_beside (s : State) (code subject : Nat) : s.Beside (s.ackOneOnly code subject) := by
  unfold State.ackOneOnly
  split
  · exact .refl s
  · exact ((s.setTable_beside _).trans (State.erasesFor_beside _ _)).trans (State.handOutputs_beside _)

theorem State.ackAllOnly_beside (s : State) : s.Beside s.ackAllOnly :=
  (((s.setTable_beside _).trans (State.erasesFor_beside _ _)).trans (State.setSupervisor_beside _ _)).trans
    (State.handOutputs_beside _)

/-! ### Recomputes -/

theorem State.reallocate_beside (s : State) : s.Beside s.reallocate :=
  ⟨rfl, rfl, rfl, rfl, rfl, rfl, rfl, rfl, rfl, rfl, rfl, rfl, rfl⟩

theorem State.floorShed_beside (s : State) (before : Vector SlotState 8) (slot : Fin 8) : s.Beside (s.floorShed before slot) := by
  have h : ∀ marks, s.Beside (s.setAlloc { s.alloc with shedMarks := marks }) := fun _ =>
    ⟨rfl, rfl, rfl, rfl, rfl, rfl, rfl, rfl, rfl, rfl, rfl, rfl, rfl⟩
  unfold State.floorShed
  dsimp only
  split
  · exact (h _).trans (State.raiseOnly_beside _ _ _)
  · split
    · exact (h _).trans (State.clearOnly_beside _ _ _)
    · exact .refl s

theorem State.floorsShed_beside (s : State) (before : Vector SlotState 8) (slots : List (Fin 8)) :
    s.Beside (s.floorsShed before slots) := by
  induction slots generalizing s with
  | nil => exact .refl s
  | cons slot rest ih => exact (s.floorShed_beside before slot).trans (ih _)

theorem State.recompute_beside (s : State) : s.Beside s.recompute :=
  s.reallocate_beside.trans (State.floorsShed_beside _ _ _)

theorem State.settleFuel_beside (fuel : Nat) (s : State) : s.Beside (State.settleFuel fuel s) := by
  induction fuel generalizing s with
  | zero => unfold State.settleFuel; split; exacts [s.reallocate_beside, .refl s]
  | succ n ih => unfold State.settleFuel; split; exacts [s.recompute_beside.trans (ih _), .refl s]

theorem State.settle_beside (s : State) : s.Beside s.settle := State.settleFuel_beside 4 s

/-- With nothing asked for, no recompute is taken. -/
theorem State.settle_of_not_due (s : State) (h : s.alloc.recomputeDue = false) : s.settle = s := by
  simp [State.settle, State.settleFuel, h]

/-- After the recomputes asked for, none is asked for any more. -/
theorem State.settleFuel_settled (fuel : Nat) (s : State) : (State.settleFuel fuel s).alloc.recomputeDue = false := by
  induction fuel generalizing s with
  | zero =>
    unfold State.settleFuel
    split
    · rfl
    · rename_i h; simpa using h
  | succ n ih =>
    unfold State.settleFuel
    split
    · exact ih _
    · rename_i h; simpa using h

theorem State.settle_settled (s : State) : s.settle.alloc.recomputeDue = false := State.settleFuel_settled 4 s

theorem State.recomputeNow_beside (s : State) : s.Beside s.recomputeNow :=
  State.Beside.trans (t := s.setAlloc { s.alloc with recomputeDue := s.inRun })
    ⟨rfl, rfl, rfl, rfl, rfl, rfl, rfl, rfl, rfl, rfl, rfl, rfl, rfl⟩ (State.settle_beside _)

theorem State.raise_beside (s : State) (code : FaultCode) (subject : Nat) : s.Beside (s.raise code subject) :=
  (s.raiseOnly_beside code subject).trans (State.settle_beside _)

theorem State.clear_beside (s : State) (code : FaultCode) (subject : Nat) : s.Beside (s.clear code subject) :=
  (s.clearOnly_beside code subject).trans (State.settle_beside _)

theorem State.raiseEach_beside (s : State) (code : FaultCode) (subjects : List Nat) : s.Beside (s.raiseEach code subjects) := by
  induction subjects generalizing s with
  | nil => exact .refl s
  | cons subject rest ih => exact (s.raise_beside code subject).trans (ih _)

/-! ### The outputs of the table -/

/-- After a change the ALARM line, the derating level and the DOWN condition are those of the table (step 4 of R126). -/
theorem State.handOutputs_follow (s : State) :
    s.handOutputs.supervisor.table = s.supervisor.table ∧
      s.handOutputs.supervisor.alarm = alarmLevel s.supervisor.table ∧
      s.handOutputs.alloc.derating = deratingLevel s.supervisor.table ∧
      s.handOutputs.alloc.down = downCondition s.supervisor.table := by
  unfold State.handOutputs State.handDown State.handDerating
  dsimp only
  refine ⟨?_, ?_, ?_, ?_⟩ <;> (repeat' split) <;> simp_all

/-- With the outputs as the table has them already, a change of the table's outputs changes nothing but the ALARM line. -/
theorem State.handOutputs_of_same (s : State) (hd : s.alloc.derating = deratingLevel s.supervisor.table)
    (hc : s.alloc.down = downCondition s.supervisor.table) :
    s.handOutputs = s.setSupervisor { s.supervisor with alarm := alarmLevel s.supervisor.table } := by
  simp [State.handOutputs, State.handDerating, State.handDown, hd, hc]

/-! ### The notice to the scanner (R54) -/

/-- A notice changes the scanner alone. -/
theorem State.notifyScanner_beside (s : State) : s.notifyScanner = s.setScanner s.notifyScanner.scanner := rfl

/-- With no VSWR_TRIP standing a notice does nothing. -/
theorem State.notifyScanner_of_no_trip {s : State} (h : s.scanner.vswrTrip = false) : s.notifyScanner = s := by
  have same : (s.scanner.releaseNotice || s.scanner.vswrTrip) = s.scanner.releaseNotice := by rw [h, Bool.or_false]
  unfold State.notifyScanner
  rw [same]
  rfl

end Sys2Proof.Machine
end

