-- ==== Sys2Proof/Laws/Handed.lean ====
section
/-! SUPPORT. What the store controller makes of a request and the front-end writer of a hand-over, said once: the requests are answered as
`WriteAnswered` and `EraseAnswered` say, and a hand-over of the changed outputs leaves the writer carrying every output. -/

namespace Sys2Proof.Machine

/-! ### The store controller -/

theorem StoreCtl.requestWrite_answered (c : StoreCtl) (record : CrashRecord) : WriteAnswered c (c.requestWrite record) record := by
  refine ⟨fun idle open_ => ?_, fun idle closed => ?_, fun op flight => ⟨fun step earlier h => ?_, fun step marker h => ?_⟩⟩
  · obtain h | ⟨_, h⟩ := open_ <;> simp [StoreCtl.requestWrite, StoreCtl.begin, RegionStatus.holdsRecord, idle, h]
  · obtain h | h | h := closed <;> simp [StoreCtl.requestWrite, RegionStatus.holdsRecord, idle, h]
  · simp [StoreCtl.requestWrite, flight, h]
  · exact ⟨fun none_ => by simp [StoreCtl.requestWrite, flight, h, none_],
      fun some_ => by simp [StoreCtl.requestWrite, flight, h, Option.isSome_iff_ne_none.mpr some_]⟩

theorem StoreCtl.requestErase_answered (c : StoreCtl) : EraseAnswered c c.requestErase := by
  refine ⟨fun idle waits region => ?_, fun h => ?_⟩
  · obtain h | ⟨_, h⟩ | h := region <;> simp [StoreCtl.requestErase, StoreCtl.begin, idle, waits, h]
  · unfold StoreCtl.requestErase
    split
    · rfl
    next idle =>
      split
      · rfl
      next waits =>
        obtain h | h | h | h := h
        · exact absurd idle h
        · exact absurd (Option.isSome_iff_ne_none.mpr h) waits
        all_goals simp [h]

/-! ### The front-end writer -/

/-- The writer carries a value for a slot: it waits in the dirty set, or nothing waits and it is the held value (R104, R106). -/
def Writer.CarriesAt (w : Writer) (slot : Fin 8) (value : Drive) : Prop :=
  (∃ p, w.dirty[slot] = some p ∧ p.value = value) ∨ (w.dirty[slot] = none ∧ w.held[slot] = some value)

theorem Writer.accept_carries (w : Writer) (slot : Fin 8) (value : Drive) : (w.accept slot value).CarriesAt slot value := by
  unfold Writer.accept
  split
  next h => exact .inr ⟨by simp, h⟩
  next => exact .inl ⟨⟨value, false⟩, by simp, rfl⟩

theorem Writer.accept_carries_other (w : Writer) {slot i : Fin 8} (value v : Drive) (other : slot ≠ i) :
    (w.accept slot value).CarriesAt i v ↔ w.CarriesAt i v := by
  have h : slot.val ≠ i.val := Fin.val_ne_of_ne other
  unfold Writer.accept Writer.CarriesAt
  split <;> simp [h]

theorem Writer.indicate_carries (w : Writer) (someActive : Bool) (i : Fin 8) (v : Drive) :
    (w.indicate someActive).CarriesAt i v ↔ w.CarriesAt i v := Iff.rfl

theorem Writer.assertPa_carries (w : Writer) (i : Fin 8) (v : Drive) : w.assertPa.CarriesAt i v ↔ w.CarriesAt i v := Iff.rfl

/-- The start of a write moves the value of its slot from the dirty set to the held values. -/
theorem Writer.start_carries {w : Writer} {i : Fin 8} {v : Drive} (slot : Fin 8) (h : w.CarriesAt i v) : (w.start slot).CarriesAt i v := by
  unfold Writer.start
  split
  · exact h
  next p waits =>
    by_cases same : slot = i
    · subst same
      obtain ⟨q, hq, rfl⟩ | ⟨none_, -⟩ := h
      · cases waits.symm.trans hq; exact .inr ⟨by simp, by simp⟩
      · cases waits.symm.trans none_
    · have : slot.val ≠ i.val := Fin.val_ne_of_ne same
      simpa [Writer.CarriesAt, Vector.getElem_set, this] using h

theorem Writer.startNext_carries {w : Writer} {i : Fin 8} {v : Drive} (h : w.CarriesAt i v) : w.startNext.CarriesAt i v := by
  unfold Writer.startNext
  split
  · exact h
  · split
    · exact h
    · exact Writer.start_carries _ h

theorem Writer.complete_carries {w : Writer} {i : Fin 8} {v : Drive} (h : w.CarriesAt i v) : w.complete.CarriesAt i v := by
  unfold Writer.complete
  split
  · exact h
  · exact Writer.startNext_carries h

/-- A slot outside the changes is carried as it was. -/
theorem Writer.acceptAll_carries_other (w : Writer) (image : Image) (changes : List (Fin 8 × Option Nat)) {i : Fin 8} (v : Drive)
    (other : i ∉ changes.map Prod.fst) : (w.acceptAll image changes).CarriesAt i v ↔ w.CarriesAt i v := by
  induction changes generalizing w with
  | nil => rfl
  | cons c rest ih =>
    simp only [List.map_cons, List.mem_cons, not_or] at other
    rw [Writer.acceptAll, ih _ other.2, Writer.accept_carries_other _ _ _ (Ne.symm other.1)]

/-- A slot that is handed once carries the drive value of the output handed. -/
theorem Writer.acceptAll_carries (w : Writer) (image : Image) (changes : List (Fin 8 × Option Nat)) {i : Fin 8} {output : Option Nat}
    (once : (changes.map Prod.fst).Nodup) (handed : (i, output) ∈ changes) :
    (w.acceptAll image changes).CarriesAt i (driveOf image i output) := by
  induction changes generalizing w with
  | nil => cases handed
  | cons c rest ih =>
    rw [List.map_cons, List.nodup_cons] at once
    rw [Writer.acceptAll]
    obtain rfl | handed := List.mem_cons.mp handed
    · exact (Writer.acceptAll_carries_other _ _ _ _ once.1).mpr (Writer.accept_carries _ _ _)
    · exact ih _ once.2 handed

theorem mem_changedOutputs (before after : Vector SlotState 8) (i : Fin 8) (output : Option Nat) :
    (i, output) ∈ changedOutputs before after ↔ before[i].applied ≠ after[i].applied ∧ after[i].applied = output := by
  simp only [changedOutputs, List.mem_filterMap, List.mem_finRange, true_and]
  refine ⟨?_, fun ⟨h, e⟩ => ⟨i, by rw [if_neg h, e]⟩⟩
  rintro ⟨j, h⟩
  split at h
  · cases h
  next differ => cases h; exact ⟨differ, rfl⟩

/-- The slots that a hand-over names: each at most once (R97). -/
theorem changedOutputs_slots (before after : Vector SlotState 8) : (changedOutputs before after).map Prod.fst =
    (List.finRange 8).filter fun i => before[i].applied ≠ after[i].applied := by
  rw [changedOutputs, List.map_filterMap]
  induction List.finRange 8 with
  | nil => rfl
  | cons i rest ih => by_cases h : before[i].applied = after[i].applied <;> simp_all

/-- A hand-over of the changed outputs: a writer that carried every output before carries every output after (R97, R104, R106). -/
theorem Writer.handOver_carries {w : Writer} {image : Image} {before : Vector SlotState 8} (after : Vector SlotState 8)
    (someActive : Bool) (h : w.Carries image before) :
    (w.handOver image (changedOutputs before after) someActive).Carries image after := by
  have slots := changedOutputs_slots before after
  have members := mem_changedOutputs before after
  generalize changedOutputs before after = changes at slots members
  have accepted (u : Writer) (hu : u.Carries image before) (i : Fin 8) :
      (u.acceptAll image changes).CarriesAt i (driveOf image i after[i].applied) := by
    by_cases same : before[i].applied = after[i].applied
    · refine (Writer.acceptAll_carries_other _ _ _ _ ?_).mpr (same ▸ hu i)
      rw [slots]; simpa using same
    · exact Writer.acceptAll_carries _ _ _ (slots ▸ (List.nodup_finRange 8).filter _) ((members i _).mpr ⟨same, rfl⟩)
  cases changes with
  | nil => exact accepted w h
  | cons _ _ => exact fun i => Writer.startNext_carries (accepted (w.indicate someActive) h i)

end Sys2Proof.Machine
end

