-- ==== Sys2Proof/Laws/Memory.lean ====
section
/-! SUPPORT. The store: a byte read after it was written, bytes elsewhere, and the canonical form that every operation keeps. -/

namespace Sys2Proof.Machine

/-- The canonical form of a list of cells. -/
abbrev Memory.cellsWf (cells : List Host.Cell) : Prop :=
  cells.Pairwise (fun x y => x.1 < y.1) ∧ ∀ c ∈ cells, c.2 ≠ Memory.blank

/-- An address below every listed one reads as an unlisted byte. -/
theorem Memory.lookup_below {cells : List Host.Cell} {address : Nat} (h : ∀ c ∈ cells, address < c.1) :
    Memory.lookup cells address = Memory.blank := by
  induction cells with
  | nil => rfl
  | cons c rest ih =>
    obtain ⟨a, b⟩ := c
    have ha : address < a := h (a, b) (by simp)
    have hne : a ≠ address := by omega
    simp only [Memory.lookup, if_neg hne]
    exact ih fun c hc => h c (by simp [hc])

/-- Every address that an insertion lists was listed before or is the one inserted. -/
theorem Memory.mem_insert {address : Nat} {byte : Byte} {cells : List Host.Cell} {c : Host.Cell}
    (h : c ∈ Memory.insert address byte cells) : c ∈ cells ∨ (c = (address, byte) ∧ byte ≠ Memory.blank) := by
  induction cells with
  | nil =>
    by_cases hb : byte = Memory.blank
    · simp [Memory.insert, hb] at h
    · simp [Memory.insert, hb] at h; exact .inr ⟨h, hb⟩
  | cons d rest ih =>
    obtain ⟨a, b⟩ := d
    unfold Memory.insert at h
    split at h
    · split at h
      · exact .inl h
      · rename_i hb
        rcases List.mem_cons.1 h with h | h
        · exact .inr ⟨h, hb⟩
        · exact .inl h
    · split at h
      · split at h
        · exact .inl (by simp [h])
        · rename_i hb
          rcases List.mem_cons.1 h with h | h
          · exact .inr ⟨h, hb⟩
          · exact .inl (by simp [h])
      · rcases List.mem_cons.1 h with h | h
        · exact .inl (by simp [h])
        · rcases ih h with h | h
          · exact .inl (by simp [h])
          · exact .inr h

/-- An insertion keeps the canonical form. -/
theorem Memory.insert_wf {address : Nat} {byte : Byte} {cells : List Host.Cell} (h : Memory.cellsWf cells) :
    Memory.cellsWf (Memory.insert address byte cells) := by
  obtain ⟨hs, hb⟩ := h
  refine ⟨?_, fun c hc => ?_⟩
  · induction cells with
    | nil => unfold Memory.insert; split <;> simp
    | cons d rest ih =>
      obtain ⟨a, b⟩ := d
      have hrest := List.pairwise_cons.1 hs
      have hbrest : ∀ c ∈ rest, c.2 ≠ Memory.blank := fun c hc => hb c (by simp [hc])
      unfold Memory.insert
      split
      · rename_i hlt
        split
        · exact hs
        · refine List.pairwise_cons.2 ⟨fun c hc => ?_, hs⟩
          rcases List.mem_cons.1 hc with rfl | hc
          · exact hlt
          · have := hrest.1 c hc; simp only at this ⊢; omega
      · split
        · rename_i heq
          split
          · exact hrest.2
          · refine List.pairwise_cons.2 ⟨fun c hc => ?_, hrest.2⟩
            have := hrest.1 c hc; simp only at this ⊢; omega
        · refine List.pairwise_cons.2 ⟨fun c hc => ?_, ih hrest.2 hbrest⟩
          rcases Memory.mem_insert hc with hc | ⟨rfl, -⟩
          · exact hrest.1 c hc
          · simp only; omega
  · rcases Memory.mem_insert hc with hc | ⟨rfl, hne⟩
    · exact hb c hc
    · exact hne

/-- What a canonical list reads after an insertion: the byte at its address, and what was there elsewhere. -/
theorem Memory.lookup_insert {address other : Nat} {byte : Byte} {cells : List Host.Cell} (h : Memory.cellsWf cells) :
    Memory.lookup (Memory.insert address byte cells) other = if other = address then byte else Memory.lookup cells other := by
  obtain ⟨hs, hb⟩ := h
  induction cells with
  | nil =>
    unfold Memory.insert
    by_cases hblank : byte = Memory.blank
    · simp [hblank, Memory.lookup]
    · simp [hblank, Memory.lookup, eq_comm]
  | cons d rest ih =>
    obtain ⟨a, b⟩ := d
    have hrest := List.pairwise_cons.1 hs
    have ih := ih hrest.2 fun c hc => hb c (by simp [hc])
    have hbelow : ∀ x, x ≤ a → Memory.lookup rest x = Memory.blank := fun x hx =>
      Memory.lookup_below fun c hc => Nat.lt_of_le_of_lt hx (hrest.1 c hc)
    unfold Memory.insert
    split
    · rename_i hlt
      split
      · rename_i hblank
        split
        · rename_i he
          have hne : a ≠ other := by omega
          simp only [Memory.lookup, if_neg hne, hbelow other (by omega), hblank]
        · rfl
      · simp only [Memory.lookup]
        by_cases he : address = other
        · simp [he]
        · simp [he, Ne.symm he]
    · split
      · rename_i heq
        subst heq
        split
        · rename_i hblank
          by_cases he : other = address
          · simp [he, hbelow address le_rfl, hblank]
          · have hne : address ≠ other := Ne.symm he
            simp [he, hne, Memory.lookup]
        · by_cases he : other = address
          · simp [he, Memory.lookup]
          · have hne : address ≠ other := Ne.symm he
            simp [he, hne, Memory.lookup]
      · rename_i hne
        by_cases he : a = other
        · have : other ≠ address := by omega
          simp [Memory.lookup, he, this]
        · simp only [Memory.lookup, if_neg he, ih]

/-! ### The store's own operations -/

theorem Memory.write_wf {m : Memory} (h : m.wf) (address : Nat) (byte : Byte) : (m.write address byte).wf :=
  Memory.insert_wf h

theorem Memory.read_write {m : Memory} (h : m.wf) (address other : Nat) (byte : Byte) :
    (m.write address byte).read other = if other = address then byte else m.read other :=
  Memory.lookup_insert h

theorem Memory.writeBytes_wf {m : Memory} (h : m.wf) (address : Nat) (bytes : List Byte) :
    (m.writeBytes address bytes).wf := by
  induction bytes generalizing m address with
  | nil => exact h
  | cons byte rest ih => exact ih (Memory.write_wf h address byte) (address + 1)

/-- What a canonical store reads after bytes were written: those bytes where they stand, and what was there elsewhere. -/
theorem Memory.read_writeBytes {m : Memory} (h : m.wf) (address : Nat) (bytes : List Byte) (other : Nat) :
    (m.writeBytes address bytes).read other =
      if address ≤ other ∧ other < address + bytes.length then bytes.getD (other - address) Memory.blank else m.read other := by
  induction bytes generalizing m address with
  | nil =>
    have : ¬(address ≤ other ∧ other < address + ([] : List Byte).length) := by simp
    rw [if_neg this]; rfl
  | cons byte rest ih =>
    rw [Memory.writeBytes, ih (Memory.write_wf h address byte), Memory.read_write h]
    simp only [List.length_cons]
    by_cases he : other = address
    · subst he
      have h1 : ¬(other + 1 ≤ other ∧ other < other + 1 + rest.length) := by omega
      have h2 : other ≤ other ∧ other < other + (rest.length + 1) := by omega
      rw [if_neg h1, if_pos h2]
      simp
    · by_cases hin : address + 1 ≤ other ∧ other < address + 1 + rest.length
      · have h2 : address ≤ other ∧ other < address + (rest.length + 1) := by omega
        rw [if_pos hin, if_pos h2]
        obtain ⟨k, rfl⟩ : ∃ k, other = address + 1 + k := ⟨other - (address + 1), by omega⟩
        have e1 : address + 1 + k - (address + 1) = k := by omega
        have e2 : address + 1 + k - address = k + 1 := by omega
        rw [e1, e2]; simp
      · have h2 : ¬(address ≤ other ∧ other < address + (rest.length + 1)) := by omega
        rw [if_neg hin, if_neg h2, if_neg he]

theorem Memory.readBytes_length (m : Memory) (address count : Nat) : (m.readBytes address count).length = count := by
  induction count generalizing address with
  | zero => rfl
  | succ n ih => simp [Memory.readBytes, ih]

/-- Bytes read one after another are the bytes at their addresses. -/
theorem Memory.readBytes_eq_map (m : Memory) (address count : Nat) :
    m.readBytes address count = (List.range count).map fun i => m.read (address + i) := by
  induction count generalizing address with
  | zero => rfl
  | succ n ih =>
    rw [Memory.readBytes, ih, List.range_succ_eq_map]
    simp [Function.comp_def, Nat.add_assoc, Nat.add_comm 1]

/-- Reading back what was just written gives it. -/
theorem Memory.readBytes_writeBytes {m : Memory} (h : m.wf) (address : Nat) (bytes : List Byte) :
    (m.writeBytes address bytes).readBytes address bytes.length = bytes := by
  rw [Memory.readBytes_eq_map]
  refine List.ext_getElem (by simp) fun i h1 h2 => ?_
  rw [List.getElem_map, List.getElem_range, Memory.read_writeBytes h]
  have hi : address ≤ address + i ∧ address + i < address + bytes.length := by omega
  rw [if_pos hi]
  have e : address + i - address = i := by omega
  rw [e]; simp [h2]

/-- The store right after power-on is in canonical form. -/
theorem reset_store_wf : State.reset.store.wf := by decide

end Sys2Proof.Machine
end

