-- ==== Sys2Proof/Laws/Port.lean ====
section
/-! SUPPORT. What a contention can do: it writes the transmit state, the line, the composer's carried set and the draw count. -/

namespace Sys2Proof.Machine

/-- `t` agrees with `s` in everything that a contention and the start of a frame leave alone. -/
structure State.BesideContention (s t : State) : Prop where
  rest : t = (((s.setPort t.port).setComposer t.composer).setDraws t.draws)
  port : t.port = { s.port with tx := t.port.tx, line := t.port.line }
  composer : t.composer = { s.composer with carried := t.composer.carried }

theorem State.BesideContention.refl (s : State) : s.BesideContention s := ⟨rfl, rfl, rfl⟩

theorem State.sendIf_beside (s : State) (now : Bool) (other : TxState) : s.BesideContention (s.sendIf now other) := ⟨rfl, rfl, rfl⟩

theorem State.drawBackoff_beside (s : State) : s.BesideContention s.drawBackoff := ⟨rfl, rfl, rfl⟩

theorem State.contend_beside (s : State) : s.BesideContention s.contend := by
  unfold State.contend
  split
  · split
    · exact .refl s
    · split
      exacts [s.drawBackoff_beside, ⟨rfl, rfl, rfl⟩, ⟨rfl, rfl, rfl⟩]
  all_goals exact .refl s

/-- Outside IDLE nothing is begun. -/
theorem State.contend_of_ne_idle (s : State) (h : s.port.tx ≠ .idle) : s.contend = s := by
  unfold State.contend
  split
  · contradiction
  all_goals rfl

/-- With the line not yet idle for a gap, a contention begins by waiting for it. -/
theorem State.contend_of_no_gap (s : State) (hl : s.port.line ≠ .gapSeen) (ht : s.port.tx = .idle) (hq : s.port.queueEmpty = false) :
    s.contend = s.setPort { s.port with tx := .gap none } := by
  unfold State.contend
  simp only [ht, hq]
  cases hline : s.port.line with
  | gapSeen => exact absurd hline hl
  | idle => rfl
  | busy => rfl

/-- A draw lies in its range. -/
theorem State.nextDraw_le (s : State) (top : Nat) : s.nextDraw top ≤ top :=
  Nat.le_of_lt_succ (Nat.mod_lt _ (Nat.succ_pos _))

/-- A dropped beacon touches nothing but the port, and what a raise may write. -/
theorem State.dropBeacon_beside (s : State) :
    (s.setPort s.dropBeacon.port).Beside s.dropBeacon ∧
      s.dropBeacon.port = { s.port with failures := saturate 255 s.port.failures, busyStanding := s.dropBeacon.port.busyStanding } := by
  unfold State.dropBeacon
  dsimp only
  split
  · have h := State.raise_beside ((s.setPort { s.port with failures := saturate 255 s.port.failures }).setPort
      { (s.setPort { s.port with failures := saturate 255 s.port.failures }).port with busyStanding := true }) .trunkBusy 0
    have hp := h.port
    refine ⟨?_, ?_⟩
    · rw [hp]; exact h
    · rw [hp]; rfl
  · exact ⟨.refl _, rfl⟩

end Sys2Proof.Machine
end

