-- ==== Sys2Proof/Laws/Recompute.lean ====
section
/-! SUPPORT. What one recompute makes of its inputs, said once: the slots and the flags that it leaves are `Allocated`; and that every change
of the fault table, with the recomputes it asks for, leaves them so. -/

namespace Sys2Proof.Machine

/-! ### Admission -/

/-- The verdict of one slot when the floors admitted before it sum to `before` (R81, R88). -/
def verdictFor (room : Nat) (down : Bool) (before : Nat) : Option SlotConfig → Bool → Verdict
  | none, _ => .idle
  | some c, muted =>
    if down then .down else if muted then .muted else if before + lin c.floor ≤ room then .active else .shed

/-- The floor that a verdict admits. -/
def admittedFloor (x : Verdict × Option SlotConfig × Bool) : Option Nat :=
  if x.1 = .active then x.2.1.map SlotConfig.floor else none

/-- The floors that the verdicts admit, in the order of the slots. -/
def admittedFloors (vs : List Verdict) (slots : List (Option SlotConfig × Bool)) : List Nat :=
  (vs.zip slots).filterMap admittedFloor

theorem linSum_append (a b : List Nat) : linSum (a ++ b) = linSum a + linSum b := by simp [linSum]

theorem admittedFloors_cons (v : Verdict) (vs : List Verdict) (x : Option SlotConfig × Bool)
    (slots : List (Option SlotConfig × Bool)) :
    admittedFloors (v :: vs) (x :: slots) = (admittedFloor (v, x)).toList ++ admittedFloors vs slots := by
  cases h : admittedFloor (v, x) <;> simp [admittedFloors, h]

/-- The verdicts of the slots after the first are those with its floor taken where it is admitted. -/
theorem verdicts_cons (room : Nat) (down : Bool) (sum : Nat) (config : Option SlotConfig) (muted : Bool)
    (rest : List (Option SlotConfig × Bool)) :
    verdicts room down sum ((config, muted) :: rest) =
      verdictFor room down sum config muted ::
        verdicts room down
          (sum + linSum (admittedFloor (verdictFor room down sum config muted, config, muted)).toList) rest := by
  cases config with
  | none => simp [verdicts, verdictFor, admittedFloor, linSum]
  | some c =>
    simp only [verdicts, verdictFor]
    repeat' split
    all_goals simp_all [admittedFloor, linSum]

theorem verdicts_length (room : Nat) (down : Bool) (sum : Nat) (slots : List (Option SlotConfig × Bool)) :
    (verdicts room down sum slots).length = slots.length := by
  induction slots generalizing sum with
  | nil => rfl
  | cons x rest ih => obtain ⟨config, m⟩ := x; simp [verdicts_cons, ih]

/-- The floors admitted fit in the room. -/
theorem admittedFloors_fit (room : Nat) (down : Bool) (sum : Nat) (slots : List (Option SlotConfig × Bool)) (h : sum ≤ room) :
    sum + linSum (admittedFloors (verdicts room down sum slots) slots) ≤ room := by
  induction slots generalizing sum with
  | nil => simpa [verdicts, admittedFloors, linSum] using h
  | cons x rest ih =>
    obtain ⟨config, m⟩ := x
    rw [verdicts_cons, admittedFloors_cons, linSum_append, ← Nat.add_assoc]
    refine ih _ ?_
    cases config with
    | none => simpa [verdictFor, admittedFloor, linSum] using h
    | some c =>
      simp only [verdictFor]
      repeat' split
      all_goals simp_all [admittedFloor, linSum]

/-- The verdict of a slot is decided by its own flags and the floors admitted before it. -/
theorem verdicts_getElem (room : Nat) (down : Bool) (sum : Nat) (slots : List (Option SlotConfig × Bool)) (i : Nat)
    (config : Option SlotConfig) (muted : Bool) (h : slots[i]? = some (config, muted)) :
    (verdicts room down sum slots)[i]? = some (verdictFor room down
      (sum + linSum (admittedFloors ((verdicts room down sum slots).take i) (slots.take i))) config muted) := by
  induction slots generalizing sum i with
  | nil => simp at h
  | cons x rest ih =>
    obtain ⟨config', muted'⟩ := x
    rw [verdicts_cons]
    cases i with
    | zero =>
      obtain ⟨rfl, rfl⟩ : config' = config ∧ muted' = muted := by simpa using h
      simp [admittedFloors, linSum]
    | succ n =>
      rw [List.getElem?_cons_succ, ih _ n (by simpa using h), List.take_succ_cons, List.take_succ_cons, admittedFloors_cons,
        linSum_append, Nat.add_assoc]

/-! ### The lists of a recompute, slot by slot -/

theorem tab_getElem {α : Type} {n : Nat} (f : Fin n → α) (i : Fin n) : (tab n f)[i] = f i := by simp [tab]

/-- A vector's list is its entries in order. -/
theorem Vector.toList_eq_finRange {α : Type} {n : Nat} (v : Vector α n) : v.toList = (List.finRange n).map fun i => v[i] := by
  apply List.ext_getElem <;> simp

/-- What the first `i` slots offer is what the slots below `i` offer. -/
theorem filterMap_take_finRange {α : Type} (f : Fin 8 → Option α) (i : Fin 8) :
    ((List.finRange 8).take i.val).filterMap f = (List.finRange 8).filterMap fun j => if j < i then f j else none := by
  fin_cases i <;> rfl

/-- The verdict of each slot in a recompute. -/
def verdictAt (image : Image) (a : Alloc) (i : Fin 8) : Verdict :=
  (verdicts (lin (a.beff.getD 0)) a.down 0 (image.slots.toList.zip a.mute.toList)).getD i.val .idle

/-- The raw target of a slot in a recompute. -/
theorem rawTarget_heldOffset (offsets : List (Nat × Int)) (c : SlotConfig) :
    rawTarget c (heldOffset offsets c.operator) = c.rawUnder offsets := rfl

section

variable (image : Image) (a : Alloc)

theorem slots_with_mutes : image.slots.toList.zip a.mute.toList =
    (List.finRange 8).map fun i => (image.slots[i], a.mute[i]) := by
  rw [Vector.toList_eq_finRange, Vector.toList_eq_finRange, List.zip_map']

theorem verdicts_eq_map : verdicts (lin (a.beff.getD 0)) a.down 0 (image.slots.toList.zip a.mute.toList) =
    (List.finRange 8).map (verdictAt image a) := by
  apply List.ext_getElem
  · simp [verdicts_length]
  · intro n h _
    simp [verdictAt, List.getD_eq_getElem?_getD, List.getElem?_eq_getElem h]

/-- The floors that the verdicts admit among some slots, in their order. -/
theorem admittedFloors_map (is : List (Fin 8)) :
    admittedFloors (is.map (verdictAt image a)) (is.map fun i => (image.slots[i], a.mute[i])) =
      is.filterMap fun i => if verdictAt image a i = .active then image.slots[i].map SlotConfig.floor else none := by
  rw [admittedFloors, List.zip_map', List.filterMap_map]; rfl

/-- The verdict of each slot, by the floors admitted below it (R81, R88). -/
theorem verdictAt_eq (i : Fin 8) : verdictAt image a i = verdictFor (lin (a.beff.getD 0)) a.down
    (linSum ((List.finRange 8).filterMap fun j =>
      if j < i then if verdictAt image a j = .active then image.slots[j].map SlotConfig.floor else none else none))
    image.slots[i] a.mute[i] := by
  have h := verdicts_getElem (lin (a.beff.getD 0)) a.down 0 (image.slots.toList.zip a.mute.toList) i.val image.slots[i] a.mute[i]
    (by rw [slots_with_mutes]; simp)
  rw [Nat.zero_add, verdicts_eq_map, slots_with_mutes, ← List.map_take, ← List.map_take, admittedFloors_map,
    filterMap_take_finRange] at h
  simpa using h

theorem verdictAt_some (i : Fin 8) (h : verdictAt image a i = .active) : ∃ c, image.slots[i] = some c := by
  rw [verdictAt_eq] at h
  cases hc : image.slots[i] with
  | none => rw [hc] at h; cases h
  | some c => exact ⟨c, rfl⟩

/-- The configurations of the slots that the verdicts admit. -/
def admitted : List SlotConfig := (List.finRange 8).filterMap fun i => if verdictAt image a i = .active then image.slots[i] else none

/-- The reduction that a recompute fits the targets by (R92). -/
def fitted : Nat := fitReduction (lin (a.beff.getD 0)) ((admitted image a).map fun c => (c.floor, c.rawUnder a.offsets))

/-- The target of an admitted slot (R92). -/
def fittedTarget (c : SlotConfig) : Nat := max c.floor (c.rawUnder a.offsets - fitted image a)

theorem present_eq :
    ((((List.finRange 8).map (verdictAt image a)).zip image.slots.toList).filterMap fun x => x.2.map fun c => (x.1, c)) =
      (List.finRange 8).filterMap fun i => image.slots[i].map fun c => (verdictAt image a i, c) := by
  rw [Vector.toList_eq_finRange, List.zip_map', List.filterMap_map]; rfl

theorem active_eq :
    (((List.finRange 8).filterMap fun i => image.slots[i].map fun c => (verdictAt image a i, c)).filter fun x =>
      x.1 == .active).map Prod.snd = admitted image a := by
  rw [List.filter_filterMap, List.map_filterMap, admitted]
  congr 1
  funext i
  cases image.slots[i] <;> by_cases h : verdictAt image a i = .active <;> simp [h]

/-- A slot after a recompute. -/
theorem recomputed_slots (i : Fin 8) : (recomputed image a).slots[i] =
    newSlot a.slots[i] (verdictAt image a i) image.slots[i] (fittedTarget image a) := by
  unfold recomputed
  simp only [verdicts_eq_map, present_eq, active_eq]
  rw [tab_getElem]
  congr 1
  simp

/-- The flags after a recompute. -/
theorem recomputed_flags : (recomputed image a).flags = image.operators.map fun k =>
    (k, ((List.finRange 8).filterMap fun i => image.slots[i].map fun c => (verdictAt image a i, c)).any fun x =>
      x.2.operator == k && (x.1 != .active || decide (fittedTarget image a x.2 < x.2.rawUnder a.offsets) ||
        clampedAtCeiling x.2 (heldOffset a.offsets x.2.operator))) := by
  unfold recomputed
  simp only [verdicts_eq_map, present_eq, active_eq]
  rfl

theorem recomputed_isActive (i : Fin 8) : (recomputed image a).slots[i].isActive = true ↔ verdictAt image a i = .active := by
  rw [recomputed_slots]
  cases h : verdictAt image a i <;> simp [newSlot, SlotState.isActive]
  obtain ⟨c, hc⟩ := verdictAt_some image a i h
  simp [show image.slots[i.val] = some c from hc]

theorem recomputed_floorsBelow (i : Fin 8) : floorsBelow image (recomputed image a).slots i = (List.finRange 8).filterMap fun j =>
    if j < i then if verdictAt image a j = .active then image.slots[j].map SlotConfig.floor else none else none := by
  unfold floorsBelow
  congr 1
  funext j
  simp only [recomputed_isActive]
  by_cases h : j < i <;> simp [h]

/-- The terms of the ACTIVE slots after a recompute are those of the slots admitted. -/
theorem recomputed_terms (after : Alloc) (slots : after.slots = (recomputed image a).slots) (offsets : after.offsets = a.offsets)
    (r : Nat) : termsUnder image after r =
      ((admitted image a).map fun c => (c.floor, c.rawUnder a.offsets)).map (reduced r) := by
  unfold termsUnder admitted
  rw [List.map_map, List.map_filterMap, slots, offsets]
  congr 1
  funext i
  simp only [recomputed_isActive]
  split <;> simp [reduced, Function.comp_def]

/-- The reduction found is the smallest under which the terms fit (R92). -/
theorem fitted_spec (inRange : image.InRange) :
    linSum (((admitted image a).map fun c => (c.floor, c.rawUnder a.offsets)).map (reduced (fitted image a))) ≤
        lin (a.beff.getD 0) ∧
      ∀ q, q < fitted image a → lin (a.beff.getD 0) <
        linSum (((admitted image a).map fun c => (c.floor, c.rawUnder a.offsets)).map (reduced q)) := by
  have floors : ((admitted image a).map fun c => (c.floor, c.rawUnder a.offsets)).map (reduced (0 + 143)) =
      (admitted image a).map SlotConfig.floor := by
    rw [List.map_map]
    apply List.map_congr_left
    intro c hc
    obtain ⟨i, -, h⟩ := List.mem_filterMap.mp hc
    split at h
    · have := (inRange.slots i c h).2
      simp only [reduced, Function.comp, SlotConfig.rawUnder]
      omega
    · cases h
  have fits := admittedFloors_fit (lin (a.beff.getD 0)) a.down 0 (image.slots.toList.zip a.mute.toList) (Nat.zero_le _)
  rw [Nat.zero_add, verdicts_eq_map, slots_with_mutes, admittedFloors_map] at fits
  have last : linSum (((admitted image a).map fun c => (c.floor, c.rawUnder a.offsets)).map (reduced (0 + 143))) ≤
      lin (a.beff.getD 0) := by
    rw [floors, admitted, List.map_filterMap]
    convert fits using 4
    split <;> simp
  obtain ⟨-, -, h, below⟩ := findReduction_spec _ _ 143 0 last
  exact ⟨h, fun q => below q (Nat.zero_le q)⟩

/-- A slot makes its operator constrained where the flag of a recompute says so (R96). -/
theorem recomputed_constrains (i : Fin 8) (c : SlotConfig) (h : image.slots[i] = some c) :
    c.Constrains a.offsets (recomputed image a).slots[i] ↔
      (verdictAt image a i != .active || decide (fittedTarget image a c < c.rawUnder a.offsets) ||
        clampedAtCeiling c (heldOffset a.offsets c.operator)) = true := by
  have active := recomputed_isActive image a i
  by_cases hv : verdictAt image a i = .active
  · have slot : (recomputed image a).slots[i] = .active (fittedTarget image a c)
        (appliedCode a.slots[i] c.floor (fittedTarget image a c)) := by rw [recomputed_slots, hv, h]; rfl
    rw [slot]
    simp [SlotConfig.Constrains, hv, SlotState.isActive, SlotState.target, clampedAtCeiling]
  · have : (recomputed image a).slots[i].isActive = false := by simpa [hv] using active
    simp only [SlotConfig.Constrains, this, bne_iff_ne, ne_eq, hv, not_false_eq_true, true_or, Bool.or_eq_true]

/-- The slots and the flags of one recompute are what the statements ask of them (R81, R88, R90, R92, R96). -/
theorem recomputed_allocated (inRange : image.InRange) : Allocated image (a.beff.getD 0)
    { a with slots := (recomputed image a).slots, flags := (recomputed image a).flags } where
  absent i h := by
    show (recomputed image a).slots[i] = _
    rw [recomputed_slots, verdictAt_eq, h]; rfl
  down d i c h := by
    show (recomputed image a).slots[i] = _
    rw [recomputed_slots, verdictAt_eq, h, show a.down = true from d]; rfl
  muted d i c h m := by
    show (recomputed image a).slots[i] = _
    rw [recomputed_slots, verdictAt_eq, h, show a.down = false from d, show a.mute[i] = true from m]; rfl
  candidates d i c h m := by
    show if linSum (floorsBelow image (recomputed image a).slots i) + lin c.floor ≤ _ then
      (recomputed image a).slots[i].isActive = true else (recomputed image a).slots[i] = _
    have verdict := verdictAt_eq image a i
    rw [← recomputed_floorsBelow, h, show a.down = false from d, show a.mute[i] = false from m] at verdict
    simp only [verdictFor, Bool.false_eq_true, if_false] at verdict
    split
    · rw [recomputed_isActive, verdict, if_pos ‹_›]
    · rw [recomputed_slots, verdict, if_neg ‹_›]; rfl
  targets := by
    obtain ⟨fits, least⟩ := fitted_spec image a inRange
    have terms := recomputed_terms image a { a with slots := (recomputed image a).slots, flags := (recomputed image a).flags } rfl rfl
    refine ⟨fitted image a, (congrArg linSum (terms _)).trans_le fits,
      fun q h => (least q h).trans_eq (congrArg linSum (terms q)).symm, ?_⟩
    intro i c target applied h slot
    change (recomputed image a).slots[i] = _ at slot
    rw [recomputed_slots, h] at slot
    cases hv : verdictAt image a i <;> rw [hv] at slot <;> cases slot
    rfl
  flags k flag hk := by
    show (k, flag) ∈ (recomputed image a).flags ↔ _
    have present : k ∈ image.operators ↔ ∃ (i : Fin 8) (c : SlotConfig), image.slots[i] = some c ∧ c.operator = k := by
      simp only [Image.operators, List.mem_filter, List.mem_range, List.contains_iff_mem, Image.operatorIds, List.mem_map,
        List.mem_filterMap, Vector.toList_eq_finRange, List.mem_finRange, true_and, id]
      constructor
      · rintro ⟨-, c, ⟨o, ⟨i, rfl⟩, h⟩, rfl⟩
        exact ⟨i, c, h, rfl⟩
      · rintro ⟨i, c, h, rfl⟩
        exact ⟨by omega, c, ⟨_, ⟨i, rfl⟩, h⟩, rfl⟩
    have flagged : (((List.finRange 8).filterMap fun i => image.slots[i].map fun c => (verdictAt image a i, c)).any fun x =>
        x.2.operator == k && (x.1 != .active || decide (fittedTarget image a x.2 < x.2.rawUnder a.offsets) ||
          clampedAtCeiling x.2 (heldOffset a.offsets x.2.operator))) = true ↔
        ∃ (i : Fin 8) (c : SlotConfig), image.slots[i] = some c ∧ c.operator = k ∧
          c.Constrains a.offsets (recomputed image a).slots[i] := by
      simp only [List.any_eq_true, List.mem_filterMap, List.mem_finRange, true_and, Bool.and_eq_true, beq_iff_eq]
      constructor
      · rintro ⟨_, ⟨i, h⟩, operator, constrained⟩
        obtain ⟨c, hc, rfl⟩ := Option.map_eq_some_iff.mp h
        exact ⟨i, c, hc, operator, (recomputed_constrains image a i c hc).mpr constrained⟩
      · rintro ⟨i, c, hc, operator, constrained⟩
        exact ⟨_, ⟨i, by rw [hc]; rfl⟩, operator, (recomputed_constrains image a i c hc).mp constrained⟩
    rw [recomputed_flags, ← present, List.mem_map]
    constructor
    · rintro ⟨k', member, h⟩
      obtain ⟨rfl, rfl⟩ := Prod.mk.inj h
      exact ⟨member, flagged⟩
    · rintro ⟨member, h⟩
      exact ⟨k, member, Prod.ext rfl (Bool.eq_iff_iff.mpr (flagged.trans h.symm))⟩

end

/-- `Allocated` rests on the slots, the flags and what a recompute reads of the unit. -/
theorem Allocated.of_same {image : Image} {beff : Nat} {a b : Alloc} (h : Allocated image beff a) (slots : b.slots = a.slots)
    (mute : b.mute = a.mute) (offsets : b.offsets = a.offsets) (down : b.down = a.down) (flags : b.flags = a.flags) :
    Allocated image beff b := by
  obtain ⟨s, m, e, o, g, d, r, f, k, u⟩ := b
  cases slots; cases mute; cases offsets; cases down; cases flags
  exact ⟨h.absent, h.down, h.muted, h.candidates, h.targets, h.flags⟩

/-- A recompute leaves slots and flags as `Allocated` says, under the B_eff it read (R84). -/
theorem State.reallocate_allocated (s : State) (inRange : s.cfg.InRange) :
    Allocated s.cfg (s.alloc.beff.getD 0) s.reallocate.alloc :=
  (recomputed_allocated s.cfg s.alloc inRange).of_same rfl rfl rfl rfl rfl

/-! ### Changes and the recomputes they ask for -/

theorem State.serious_alloc (s : State) (code : FaultCode) (subject : Nat) (stamp : EpochCount) :
    (s.serious code subject stamp).alloc = s.alloc := by
  unfold State.serious; repeat' split
  all_goals rfl

theorem State.tripped_alloc (s : State) (code : FaultCode) (subject : Nat) (stamp : EpochCount) :
    (s.tripped code subject stamp).alloc = s.alloc := by
  unfold State.tripped; split <;> rfl

/-- In RUN, B_eff is the budget less the derating level (R85), and the carriers are as a recompute leaves them unless one is asked for. -/
structure State.AllocatedUnlessDue (s : State) : Prop where
  inRun : s.inRun = true
  inRange : s.cfg.InRange
  beff : s.alloc.beff = some (s.cfg.budget - s.alloc.derating)
  allocated : s.alloc.recomputeDue = false → Allocated s.cfg (s.cfg.budget - s.alloc.derating) s.alloc

namespace State.AllocatedUnlessDue

variable {s t : State}

/-- It rests on the node state, the image and the allocation unit without its marks. -/
theorem of_beside (h : s.AllocatedUnlessDue) (beside : s.Beside t)
    (alloc : t.alloc = { s.alloc with shedMarks := t.alloc.shedMarks }) : t.AllocatedUnlessDue := by
  refine ⟨beside.inRun.trans h.inRun, beside.cfg ▸ h.inRange, ?_, fun due => ?_⟩
  · rw [beside.cfg, alloc]; exact h.beff
  · rw [alloc] at due ⊢
    rw [beside.cfg]
    exact (h.allocated due).of_same rfl rfl rfl rfl rfl

theorem handDerating (h : s.AllocatedUnlessDue) (level : Nat) : (s.handDerating level).AllocatedUnlessDue := by
  unfold State.handDerating
  split
  · exact h
  · rw [if_pos h.inRun]
    refine ⟨h.inRun, h.inRange, rfl, fun due => ?_⟩
    obtain ⟨due, same⟩ : s.alloc.recomputeDue = false ∧ s.alloc.beff = some (s.cfg.budget - level) := by simpa using due
    have same : s.cfg.budget - level = s.cfg.budget - s.alloc.derating := Option.some.inj (same.symm.trans h.beff)
    show Allocated s.cfg (s.cfg.budget - level) _
    rw [same]
    exact (h.allocated due).of_same rfl rfl rfl rfl rfl

theorem handDown (h : s.AllocatedUnlessDue) (down : Bool) : (s.handDown down).AllocatedUnlessDue := by
  unfold State.handDown
  split
  · exact h
  · exact ⟨h.inRun, h.inRange, h.beff, fun due => by simp [h.inRun] at due⟩

theorem handOutputs (h : s.AllocatedUnlessDue) : s.handOutputs.AllocatedUnlessDue :=
  ((h.of_beside (s.setSupervisor_beside { s.supervisor with alarm := alarmLevel s.supervisor.table }) rfl).handDerating _).handDown _

theorem raiseOnly (h : s.AllocatedUnlessDue) (code : FaultCode) (subject : Nat) : (s.raiseOnly code subject).AllocatedUnlessDue := by
  have table : ∀ u, ((s.setTable (tableRaise s.supervisor.table code subject s.stamp).table).setSupervisor u).AllocatedUnlessDue :=
    fun u => h.of_beside ((s.setTable_beside _).trans (State.setSupervisor_beside _ u)) rfl
  unfold State.raiseOnly
  dsimp only
  refine handOutputs ?_
  split
  · refine (table _).of_beside ((State.serious_beside _ _ _ _).trans (State.tripped_beside _ _ _ _)) ?_
    rw [State.tripped_alloc, State.serious_alloc]
  · exact table _

theorem clearOnly (h : s.AllocatedUnlessDue) (code : FaultCode) (subject : Nat) : (s.clearOnly code subject).AllocatedUnlessDue :=
  handOutputs (h.of_beside (s.setTable_beside _) rfl)

theorem floorShed (h : s.AllocatedUnlessDue) (before : Vector SlotState 8) (slot : Fin 8) :
    (s.floorShed before slot).AllocatedUnlessDue := by
  have marked : ∀ marks, (s.setAlloc { s.alloc with shedMarks := marks }).AllocatedUnlessDue := fun marks =>
    h.of_beside ⟨rfl, rfl, rfl, rfl, rfl, rfl, rfl, rfl, rfl, rfl, rfl, rfl, rfl⟩ rfl
  unfold State.floorShed
  dsimp only
  split
  · exact (marked _).raiseOnly _ _
  · split
    · exact (marked _).clearOnly _ _
    · exact h

theorem floorsShed (h : s.AllocatedUnlessDue) (before : Vector SlotState 8) (slots : List (Fin 8)) :
    (s.floorsShed before slots).AllocatedUnlessDue := by
  induction slots generalizing s with
  | nil => exact h
  | cons slot rest ih => exact ih (h.floorShed before slot)

theorem reallocate (h : s.AllocatedUnlessDue) : s.reallocate.AllocatedUnlessDue := by
  have allocated := s.reallocate_allocated h.inRange
  rw [h.beff] at allocated
  exact ⟨h.inRun, h.inRange, h.beff, fun _ => allocated⟩

theorem settleFuel (h : s.AllocatedUnlessDue) (fuel : Nat) : (State.settleFuel fuel s).AllocatedUnlessDue := by
  induction fuel generalizing s with
  | zero => unfold State.settleFuel; split; exacts [h.reallocate, h]
  | succ n ih => unfold State.settleFuel; split; exacts [ih (h.reallocate.floorsShed _ _), h]

/-- After the recomputes asked for, the carriers are as a recompute leaves them. -/
theorem settle (h : s.AllocatedUnlessDue) : s.settle.AllocatedUnlessDue := h.settleFuel 4

theorem settled (h : s.AllocatedUnlessDue) :
    Allocated s.settle.cfg (s.settle.cfg.budget - s.settle.alloc.derating) s.settle.alloc :=
  h.settle.allocated s.settle_settled

theorem raise (h : s.AllocatedUnlessDue) (code : FaultCode) (subject : Nat) : (s.raise code subject).AllocatedUnlessDue :=
  (h.raiseOnly code subject).settle

theorem clear (h : s.AllocatedUnlessDue) (code : FaultCode) (subject : Nat) : (s.clear code subject).AllocatedUnlessDue :=
  (h.clearOnly code subject).settle

/-- A trigger that asks for a recompute whatever has changed makes the carriers so from any that were before (R83). -/
theorem recomputeNow (inRun : s.inRun = true) (inRange : s.cfg.InRange)
    (beff : s.alloc.beff = some (s.cfg.budget - s.alloc.derating)) : s.recomputeNow.AllocatedUnlessDue :=
  settle (s := s.setAlloc { s.alloc with recomputeDue := s.inRun }) ⟨inRun, inRange, beff, fun due => by simp [inRun] at due⟩

end State.AllocatedUnlessDue

end Sys2Proof.Machine
end

