-- ==== Sys2Proof/Tests/Slice0.lean ====
section
/-! SUPPORT. The model's own tests: the ill-formed commands, the manual's worked figures, one or two small steps of each command, and
for each statement with hypotheses a state and operands that meet them. Expected results are from the manual's rules. -/

namespace Sys2Proof.Tests

open Sys2Proof Sys2Proof.Machine

-- One theorem after another: many kernel evaluations at once take more threads than the check allows.
set_option Elab.async false

/-! ### A small node -/

/-- An image with two slots, two supervisors and three adjacent stations. -/
def image : Image where
  nodeId := 12
  period := 100
  supervisors := [60, 61]
  adjacents := [7, 13, 14]
  budget := 120
  startMode := .normal
  deadBand := 50
  smin := -40
  smax := 12
  fill := 12
  reportFloor := .minor
  fwdMin := 200
  rlThreshold := 40
  bandOffsets := Vector.replicate 4 0
  slots := ((Vector.replicate 8 none).set 0 (some ⟨1, 0, 100, 80, 120, 300⟩)).set 1 (some ⟨2, 1, 90, 70, 110, 300⟩)

/-- The store controller of that node in a state. -/
def ctlIn (node : NodeState) : StoreCtl :=
  { StoreCtl.reset with node := node, image := .usable image, operation := none, region := .empty }

/-- The node in LISTEN. -/
def listening : State :=
  { State.reset with
    ctl := { ctlIn .listen with listenTimer := some 0#32 }
    port := { Port.reset with receiver := true, footing := true }
    view := { View.reset with table := builtTable image, listenEntry := some 0#32 } }

/-- The node in RUN, both slots ACTIVE at their floors. -/
def running : State :=
  { State.reset with
    ctl := { ctlIn .run with epochTimer := some 0#32, epoch := 9#32 }
    port := { Port.reset with receiver := true, footing := true, tx := .idle }
    view := { View.reset with table := builtTable image, listenEntry := some 0#32 }
    scanner := { Scanner.reset with scanList := [0, 1, 8, 9, 10], conversion := some 0 }
    spread := ⟨some ⟨Vector.replicate 8 600, [⟨1, 600, 0, false⟩, ⟨2, 600, 3, false⟩], .normal, .normal, 12⟩, 0⟩
    alloc := { Alloc.reset with
      slots := ((Vector.replicate 8 .idle).set 0 (.active 100 80)).set 1 (.active 90 70)
      beff := some 120
      offsets := [(1, 0), (2, 0)]
      ramp := some 0#32
      flags := [(1, false), (2, false)] }
    writer := { Writer.reset with
      dirty := Vector.replicate 8 none
      inFlight := none
      indicator := true
      paEnable := true }
    composer := { Composer.reset with floor := some .minor } }

/-- The node in CONFIG_FAULT with a valid node id. -/
def faulted : State :=
  { State.reset with
    ctl := { ctlIn .configFault with image := .unusable (some 12), epochTimer := some 0#32 }
    port := { Port.reset with receiver := true, footing := true, tx := .idle }
    composer := { Composer.reset with floor := some .note } }

/-- A state with another port, scanner, controller, table, or operation in flight. -/
def withTx (s : State) (tx : TxState) : State := s.setPort { s.port with tx := tx }
def withOperation (s : State) (operation : NvmOperation) (tries : Nat) : State :=
  s.setCtl { s.ctl with operation := some ⟨operation, tries, 0#32⟩ }
def withEntry (s : State) (e : FaultEntry) : State :=
  s.setSupervisor { s.supervisor with table := s.supervisor.table.set 0 (some e), alarm := e.alarms }
def withConversion (s : State) (i : Nat) : State := s.setScanner { s.scanner with conversion := some i }

/-- An entry ACTIVE-UNACKED of code and subject. -/
def fresh (code : FaultCode) (subject : Nat) : FaultEntry := ⟨code, subject, .activeUnacked, 0#32, 0#32, 1, 3⟩

/-- A state with another fault table and the outputs that follow it. -/
def withTable (s : State) (table : FaultTable) : State :=
  { s with
    supervisor := { s.supervisor with table := table, alarm := alarmLevel table }
    alloc := { s.alloc with derating := deratingLevel table, down := downCondition table } }

/-- A table with entries at some positions. -/
def tableOf (placed : List (Fin 24 × FaultEntry)) : FaultTable :=
  placed.foldl (fun t x => t.set x.1 (some x.2)) (Vector.replicate 24 none)

/-- Whether a state is settled, its entries distinct, a table within a bound: the premises of the statements as tests read them. -/
def settledNow (s : State) : Bool :=
  decide (s.supervisor.alarm = alarmLevel s.supervisor.table ∧ s.alloc.derating = deratingLevel s.supervisor.table ∧
    s.alloc.down = downCondition s.supervisor.table ∧ s.alloc.recomputeDue = false)
def distinctNow (s : State) : Bool := decide ((entries s.supervisor.table).map FaultEntry.key).Nodup
def atMostNow (n : Nat) (s : State) : Bool := decide ((entries s.supervisor.table).length ≤ n)

theorem settledNow_iff (s : State) : settledNow s = true ↔ s.Settled := by
  simp only [settledNow, decide_eq_true_eq]
  exact ⟨fun ⟨a, b, c, d⟩ => ⟨⟨a, b, c⟩, d⟩, fun ⟨⟨a, b, c⟩, d⟩ => ⟨a, b, c, d⟩⟩
theorem distinctNow_iff (s : State) : distinctNow s = true ↔ s.EntriesDistinct := by
  simp [distinctNow, State.EntriesDistinct]
theorem atMostNow_iff (n : Nat) (s : State) : atMostNow n s = true ↔ AtMost n s.supervisor.table := by
  simp [atMostNow, AtMost]

/-- A crash record. -/
def record : CrashRecord := ⟨.tempLimit, 0, .powerOn, 9#32, Vector.replicate 8 none, some 108, some 420⟩

/-- The state after a command. -/
def after (c : Instr) (s : State) : State :=
  match exec c s with
  | .next t => t
  | .fault _ => s
  | .refused _ => s

theorem test_running_settled : running.Settled := ⟨⟨by decide, by decide, by decide⟩, by decide⟩
theorem test_faulted_settled : faulted.Settled := ⟨⟨by decide, by decide, by decide⟩, by decide⟩

/-! ### Well-formedness: an ill-formed command for each check -/

theorem test_source_0_refused : (Instr.quiet 0#8 12#8 [1#8]).wellFormed = false := by decide
theorem test_source_63_refused : (Instr.speak 63#8 12#8 [1#8]).wellFormed = false := by decide
theorem test_destination_0_refused : (Instr.restart 60#8 0#8 [1#8]).wellFormed = false := by decide
theorem test_destination_64_refused : (Instr.faultAck 60#8 64#8 [1#8, 1#8, 0#8, 0#8]).wellFormed = false := by decide
theorem test_long_payload_refused : (Instr.statusQuery 60#8 12#8 (List.replicate 88 0#8)).wellFormed = false := by decide
theorem test_known_kind_refused : (Instr.unknownDirective 60#8 12#8 [9#8, 1#8]).wellFormed = false := by decide
theorem test_directive_well_formed : (Instr.tableRead 5#32 60#8 63#8 (List.replicate 87 0#8)).wellFormed = true := by decide

/-! ### Figures of the manual -/

/-- The check value of the CRC of R198 over the digits 1 to 9. -/
theorem test_crc_check_value :
    crc [0x31#8, 0x32#8, 0x33#8, 0x34#8, 0x35#8, 0x36#8, 0x37#8, 0x38#8, 0x39#8] = 0x29B1#16 := by decide +kernel

/-- R60: a load of 600 and an occupancy of 700 give 625. -/
theorem test_smooth : smooth 600 (some 700) = 625 := by decide

/-- R43: the scan list of two slots. -/
theorem test_scan_list : scanListOf image = [0, 1, 8, 9, 10] := by decide +kernel

/-- R203: slot 5 at code 100, and slot 5 muted. -/
theorem test_drive_words : driveWord 5 (.code 100) = 0xA064#16 ∧ driveWord 5 .mute = 0xB000#16 := by decide

/-- R174: the counts in force. -/
theorem test_counts_in_force : [0, 1, 4, 5, 255].map countInForce = [1, 1, 4, 4, 4] := by decide

/-! ### One small step of each command -/

theorem test_power_on : after (.powerOn false) running = State.reset := by decide +kernel
theorem test_pin_reset : (after (.pinReset false) running).ctl.storeWait = true ∧
    (after (.pinReset false) running).writer.paEnable = false := by decide +kernel
theorem test_store_wait_end :
    (after .pinResetStoreWaitEnd (after (.pinReset false) running)).ctl.clock = 5#32 := by decide +kernel
theorem test_bad_frame_counts : (after (.receivedFrame 1#32 true [1#8, 2#8]) running).port.badFrames = 1 := by decide +kernel
/-- R125: while TRUNK_NOISE stands, the sixteenth bad frame of a later window raises nothing. -/
theorem test_standing_noise_is_not_raised :
    let s := running.setPort { running.port with badFrames := 15, noiseStanding := true };
    (after (.receivedFrame 1#32 true [1#8, 2#8]) s).supervisor = running.supervisor ∧
    (after (.receivedFrame 1#32 true [1#8, 2#8]) s).port.badFrames = 16 := by decide +kernel
theorem test_activity_freezes : (after .lineActivity (withTx running (.countdown 3))).port.tx = .gap (some 3) := by
  decide +kernel
theorem test_gap_resumes : (after .gapComplete (withTx running (.gap (some 2)))).port.tx = .countdown 2 := by decide +kernel
theorem test_slot_counts_down : (after .backoffSlotComplete (withTx running (.countdown 2))).port.tx = .countdown 1 := by
  decide +kernel
theorem test_eighth_collision_drops_beacon :
    let s := withTx (running.setPort { running.port with beacon := some 8 }) (.sending ⟨.beacon, [], .kept⟩)
    (after .collision s).port.beacon = none ∧ (after .collision s).port.failures = 1 := by decide +kernel
theorem test_clean_answer_leaves :
    let s := withTx (running.setPort { running.port with answers := [⟨[], 2⟩] }) (.sending ⟨.answer, [], .kept⟩)
    (after .cleanFrame s).port.answers = [] ∧ (after .cleanFrame s).port.tx = .idle := by decide +kernel
theorem test_jitter_end : (after .beaconJitterEnd (running.setComposer ⟨some ⟨0#32, 12⟩, [], none⟩)).port.beacon = some 1 ∧
    (after .beaconJitterEnd (running.setComposer ⟨some ⟨0#32, 12⟩, [], none⟩)).ctl.clock = 12#32 := by decide +kernel
theorem test_epoch_expiry : (after .epochExpiry running).ctl.epoch = 10#32 ∧
    (after .epochExpiry running).ctl.epochTimer = some 100#32 := by decide +kernel
theorem test_config_fault_epoch : (after .configFaultEpochExpiry faulted).ctl.epochTimer = some 100#32 ∧
    (after .configFaultEpochExpiry faulted).ctl.epoch = 0#32 := by decide +kernel
theorem test_listen_expiry : (after .listenTimerExpiry listening).alloc.slots[0] = .active 100 80 ∧
    (after .listenTimerExpiry listening).ctl.clock = 200#32 := by decide +kernel
theorem test_threshold_is_active :
    (after (.conversionComplete 300#10) running).scanner.windows[0] = ⟨1, 1⟩ ∧
    (after (.conversionComplete 299#10) running).scanner.windows[0] = ⟨1, 0⟩ := by decide +kernel
theorem test_ramp_tick : (after .rampTick running).alloc.slots[1] = .active 90 71 ∧
    (after .rampTick running).ctl.clock = 12#32 := by decide +kernel
theorem test_write_complete :
    (after .writeComplete State.reset).writer.transceiver[0] = some 0x1000#16 ∧
    (after .writeComplete State.reset).writer.inFlight = some ⟨1, .mute, true⟩ := by decide +kernel
theorem test_suspect_limit :
    let s := running.setEntry 3 (some ⟨9, .live, some ⟨1, 50, 0#32, none, []⟩⟩)
    ((after (.silenceSuspectLimit 3) s).view.table[3]).map Neighbour.state = some .suspect ∧
    (after (.silenceSuspectLimit 3) s).ctl.clock = 151#32 := by decide +kernel
theorem test_lost_limit_unpinned_removed :
    let s := running.setEntry 10 (some ⟨9, .suspect, some ⟨1, 50, 0#32, none, []⟩⟩)
    (after (.silenceLostLimit 10) s).view.table[10] = none := by decide +kernel
theorem test_start_up_limit : (after .startUpLimit running).spread.lostCount = 3 ∧
    (after .startUpLimit running).ctl.clock = 801#32 := by decide +kernel
theorem test_id_clash_clear :
    (after .idClashClear (running.setView { running.view with clash := some 12, clashCount := 16 })).view.clash = none ∧
    (after .idClashClear (running.setView { running.view with clash := some 12, clashCount := 15 })).view.clash = some 12 := by
  decide +kernel
theorem test_trunk_noise_clear :
    (after .trunkNoiseClear (running.setPort { running.port with noiseStanding := true, cleanRun := 4 })).port.noiseStanding
      = false := by decide +kernel
theorem test_re_credit :
    let s := withEntry running { fresh .detStuck 3 with credit := 0 }
    ((after .reCredit (s.setSupervisor { s.supervisor with reCreditDue := true })).supervisor.table[0]).map FaultEntry.credit
      = some 1 := by decide +kernel
/-- R54: an ack with no VSWR_TRIP standing does nothing at the scanner. -/
theorem test_no_notice_without_trip :
    (after (.faultAck 60#8 12#8 [1#8, 1#8, 0#8, 0#8]) running).scanner.releaseNotice = false ∧
    (after (.faultAck 60#8 12#8 [1#8, 1#8, 0#8, 0#8])
      (running.setScanner { running.scanner with vswrTrip := true })).scanner.releaseNotice = true := by decide +kernel
theorem test_trip_release :
    let s := running.setScanner { running.scanner with vswrTrip := true, badPairs := 19, releaseNotice := true }
    (after .vswrTripRelease s).scanner.vswrTrip = false ∧ (after .vswrTripRelease s).scanner.badPairs = 0 := by decide +kernel
theorem test_blank_image :
    (after (.configReadEnd (Vector.replicate 97 255#8)) State.reset).supervisor.table[0] = some (fresh .cfgBad 0) ∧
    (after (.configReadEnd (Vector.replicate 97 255#8)) State.reset).supervisor.alarm = true := by decide +kernel
theorem test_torn_record :
    let s := withOperation (State.reset.setStore ⟨[(128, 0xFC#8)]⟩) .crashRead 0
    (after .crashReadEnd s).ctl.region = .foundTorn true ∧ (after .crashReadEnd s).ctl.node = .configFault := by decide +kernel
theorem test_third_try_fails :
    (after (.i2cTransferFail false) (withOperation running (.crashWrite 0 record) 2)).ctl.region = .unknown ∧
    (after (.i2cTransferFail false) (withOperation running (.crashWrite 0 record) 1)).ctl.operation
      = some ⟨.crashWrite 0 record, 2, 0#32⟩ ∧
    (let s := (withOperation running (.crashWrite 0 record) 0).advance 1003;
      ((after (.i2cTransferFail false) s).ctl.operation.map InFlight.since) = some 1003#32 ∧
      (after .writeCycleEnd (after (.i2cTransferFail false) s)).ctl.clock = 1008#32) := by decide +kernel
theorem test_write_cycle_end :
    (after .writeCycleEnd (withOperation running (.crashWrite 2 record) 0)).store.read 128 = 0xFD#8 ∧
    (after .writeCycleEnd (withOperation running (.crashWrite 1 record) 0)).store.read 139 = 255#8 ∧
    (after .writeCycleEnd (withOperation running (.crashWrite 1 record) 0)).store.readBytes 144 3 = [108#8, 2#8, 0x44#8] := by
  decide +kernel
theorem test_fault_ack_one :
    ((after (.faultAck 60#8 12#8 [1#8, 2#8, 6#8, 3#8]) (withEntry running (fresh .detStuck 3))).supervisor.table[0]).map
      FaultEntry.state = some .activeAcked := by decide +kernel
theorem test_carrier_mask :
    (after (.carrierMask 60#8 12#8 [1#8, 1#8, 2#8]) running).alloc.slots[1] = .muted ∧
    (after (.carrierMask 60#8 12#8 [1#8, 1#8, 4#8]) running).alloc.mute[2] = false := by decide +kernel
/-- The node of section 5.6 of chapter 5: three slots of operators 2, 3 and 5, whose offsets are 4, under a B_eff. -/
def worked (beff : Nat) (table : FaultTable) (slots : List SlotState) : State :=
  let s := withTable running table
  { s with
    ctl := { s.ctl with image := .usable { image with
      slots := (((Vector.replicate 8 none).set 0 (some ⟨2, 0, 96, 96, 108, 300⟩)).set 1 (some ⟨3, 0, 100, 90, 116, 300⟩)).set 2
        (some ⟨5, 0, 106, 84, 112, 300⟩) } }
    spread := { s.spread with records := s.spread.records.map fun r =>
      { r with operators := [⟨2, 600, 4, false⟩, ⟨3, 600, 4, false⟩, ⟨5, 600, 4, false⟩] } }
    alloc := { s.alloc with
      slots := tab 8 fun i => slots.getD i.val .idle
      beff := some beff
      offsets := [(2, 4), (3, 4), (5, 4)]
      shedMarks := tab 8 fun i => (entries table).any fun e => e.code == .floorShed && e.subject == i.val } }

/-- The worked cases of sections 5.6, 5.13 and 5.14: the fit of three carriers, a floor shed, and a carrier readmitted by a mute. -/
theorem test_worked_recomputes :
    (let t := after (.carrierMask 60#8 12#8 [1#8, 2#8, 0#8])
        (worked 120 (tableOf []) [.active 96 96, .active 99 90, .active 105 84]);
      t.alloc.slots.toList.take 3 = [.active 96 96, .active 99 90, .active 105 84] ∧
      t.alloc.flags = [(2, true), (3, true), (5, true)]) ∧
    (let t := after (.carrierMask 60#8 12#8 [1#8, 2#8, 0#8])
        (worked 108 (tableOf [(0, fresh .tempHigh 0)]) [.active 96 96, .active 99 99, .active 105 105]);
      t.alloc.slots.toList.take 3 = [.active 96 96, .active 96 96, .shed] ∧ t.alloc.shedMarks[2] = true ∧
      t.supervisor.table[1].map FaultEntry.key = some (.floorShed, 2)) ∧
    (let t := after (.carrierMask 60#8 12#8 [1#8, 1#8, 1#8])
        (worked 108 (tableOf [(0, fresh .tempHigh 0), (1, fresh .floorShed 2)]) [.active 96 96, .active 96 96, .shed]);
      t.alloc.slots.toList.take 3 = [.muted, .active 92 92, .active 98 84] ∧ t.alloc.shedMarks[2] = false ∧
      t.supervisor.table[1].map FaultEntry.state = some .clearedUnacked ∧
      t.spread.records.map (fun r => r.operators.map OperatorRecord.constrained) = some [true, true, true]) := by decide +kernel

theorem test_spread_mode :
    (after (.spreadMode 60#8 63#8 [1#8, 3#8]) running).spread.records.map SpreadRun.pendingMode = some .surge := by
  decide +kernel
theorem test_quiet : (after (.quiet 61#8 12#8 [1#8]) running).port.quiet = true := by decide +kernel
theorem test_speak :
    (after (.speak 61#8 12#8 [1#8]) (running.setPort { running.port with quiet := true })).port.quiet = false := by decide +kernel
theorem test_restart : (after (.restart 60#8 12#8 [1#8]) running).ctl.cause = .restart ∧
    (after (.restart 60#8 12#8 [1#8]) running).writer.paEnable = false := by decide +kernel
theorem test_status_query :
    ((after (.statusQuery 60#8 12#8 [7#8]) running).port.answers.map fun a => (a.bytes.take 10, a.bytes.length))
      = [([3#8, 12#8, 60#8, 46#8, 1#8, 7#8, 3#8, 1#8, 0#8, 0#8], 52)] := by decide +kernel
theorem test_snapshot_query :
    ((after (.snapshotQuery 60#8 12#8 [7#8]) running).port.answers.map fun a => a.bytes.take 7)
      = [[3#8, 12#8, 60#8, 3#8, 2#8, 7#8, 0#8]] := by decide +kernel
theorem test_table_read :
    (after (.tableRead 0#32 61#8 12#8 [7#8, 1#8, 14#8, 4#8]) running).view.cursors9 = ⟨0, 0⟩ ∧
    (after (.tableRead 0#32 61#8 12#8 [7#8, 2#8, 255#8, 0#8]) running).view.cursors9 = ⟨0, 1⟩ := by decide +kernel
theorem test_unknown_directive :
    (after (.unknownDirective 60#8 12#8 []) running).handler.lastRefusal = some ⟨.badArgument, 0#8, 60#8, 9#32⟩ := by
  decide +kernel
theorem test_first_idle :
    (after .receiverFirstIdle (running.setPort { running.port with footing := false, line := .busy })).port.footing = true := by
  decide +kernel

/-! ### Witnesses: for each statement with hypotheses, states and operands that meet them, one for each clause -/

theorem witness_StepRunsFrontCommand :
    (running.setPending [.quiet 60#8 12#8 [1#8], .rampTick]).pending = .quiet 60#8 12#8 [1#8] :: [.rampTick] := rfl

/-- A write or an erase in flight with its step's bytes, a read with none, and nothing in flight. -/
theorem witness_PowerOnAndPinResetTakeResetValues :
    (∀ x ∈ [(NvmOperation.crashWrite 0 record, 128, [0xFE#8]), (.crashWrite 1 record, 129, bodyBytes record),
        (.crashErase 2 false, 128, [0xFF#8])],
      let s := withOperation running x.1 0
      s.store.wf ∧ s.ctl.operation = some ⟨x.1, 0, 0#32⟩ ∧ x.1.written s.ctl.region s.marker = some x.2) ∧
    (∀ operation ∈ [NvmOperation.configRead, .crashRead],
      operation.written running.ctl.region running.marker = none) ∧ running.ctl.operation = none := by decide +kernel

theorem witness_StoreWaitEndsAfterFiveMilliseconds : (after (.pinReset true) running).ctl.storeWait = true := by decide +kernel

/-- Subject 0, 1 and 2. -/
theorem witness_ConfigReadJudgesTheImage :
    (State.reset.ctl.operation = some ⟨.configRead, 0, 0#32⟩ ∧ State.reset.ctl.storeWait = false ∧
      State.reset.ctl.node = .load ∧ State.reset.alloc.recomputeDue = false ∧ State.reset.store.wf ∧
      State.reset.supervisor.table = Vector.replicate 24 none) ∧
    (∀ i : Fin 97, (Vector.replicate 97 255#8)[i] = 255#8) ∧
    (let image := (Vector.replicate 97 255#8).set 96 (0#8 : Byte);
      (∃ i : Fin 97, image[i] ≠ 255#8) ∧ ¬(image[0] = 0xC7#8 ∧ image[1] = 0x2E#8)) ∧
    (let image := ((Vector.replicate 97 255#8).set 0 (0xC7#8 : Byte)).set 1 0x2E#8;
      (image[0] = 0xC7#8 ∧ image[1] = 0x2E#8) ∧ ¬(image[2] = 0#8 ∧ image[3] = 97#8)) := by
  refine ⟨⟨rfl, rfl, rfl, rfl, ⟨by decide, by decide⟩, rfl⟩, by decide +kernel, ?_, ?_⟩
  · exact ⟨⟨96, by decide +kernel⟩, by decide +kernel⟩
  · exact ⟨by decide +kernel, by decide +kernel⟩

/-- An image read as bytes, with a period of `high` and `low`; one slot, whose floor and ceiling are at the ends of their range. -/
def imageBytes (high low : Byte) : List Byte :=
  [0xC7#8, 0x2E#8, 0#8, 97#8, 62#8, high, low, 2#8, 60#8, 61#8, 1#8, 7#8, 255#8, 255#8, 255#8, 255#8, 255#8, 255#8, 255#8,
   143#8, 2#8, 255#8, 0x80#8, 255#8, 255#8, 255#8, 255#8, 255#8, 255#8, 16#8, 0xF0#8, 0#8, 0#8] ++
  [1#8, 15#8, 3#8, 100#8, 0#8, 143#8, 3#8, 255#8] ++ List.replicate 56 255#8

/-- `imageBytes` with bytes at some places replaced, as the vector that a read brings. -/
def edited (edits : List (Nat × Byte)) : Vector Byte 97 :=
  let bytes := edits.foldl (fun l e => l.set e.1 e.2) (imageBytes 255#8 255#8)
  tab 97 fun i => bytes.getD i.val 0#8

/-- The subject and the image for each field that makes an image unusable, at the ends of its range, and the two slots that fail
together; then usable images, whose clamped fields are none, some, and more than the table holds. -/
theorem witness_ConfigReadJudgesTheImage_fields :
    (∀ x ∈ [(3, [(4, (0#8 : Byte))]), (3, [(4, 63#8)]), (5, [(7, 3#8)]), (5, [(9, 60#8)]), (5, [(8, 0#8)]), (5, [(9, 62#8)]),
        (6, [(10, 9#8)]), (6, [(11, 60#8)]), (6, [(11, 63#8)]), (6, [(10, 2#8), (12, 7#8)]), (33, [(34, 0#8)]),
        (36, [(37, 144#8), (38, 143#8)]), (33, [(34, 0#8), (37, 144#8)]), (89, [(89, 1#8), (90, 0#8)]),
        (92, [(89, 1#8), (90, 1#8), (93, 1#8), (94, 0#8)]), (1000, []), (1000, [(19, 200#8)]),
        (1000, [(5, 0#8), (6, 0#8), (19, 200#8), (20, 9#8), (21, 0#8), (22, 1#8), (23, 100#8), (24, 100#8), (25, 0#8), (26, 9#8),
          (28, 0#8), (29, 100#8), (30, 100#8), (31, 100#8), (32, 100#8), (34, 16#8), (35, 4#8), (36, 144#8), (38, 144#8),
          (39, 4#8), (41, 1#8), (42, 16#8), (43, 4#8), (44, 144#8), (45, 0#8), (46, 144#8), (47, 4#8)])],
      let image := edited x.2
      let b (i : Nat) : Nat := imageByte image.toList i
      let supervisors := [b 8, b 9].take (b 7)
      let adjacents := [b 11, b 12, b 13, b 14, b 15, b 16, b 17, b 18].take (b 10)
      let bad3 : Bool := decide ¬(1 ≤ b 4 ∧ b 4 ≤ 62)
      let bad5 : Bool := decide (2 < b 7 ∨ ¬ supervisors.Nodup ∨ ∃ id ∈ supervisors, ¬(1 ≤ id ∧ id ≤ 62) ∨ id = b 4)
      let bad6 : Bool := decide
        (8 < b 10 ∨ ¬ adjacents.Nodup ∨ ∃ id ∈ adjacents, ¬(1 ≤ id ∧ id ≤ 62) ∨ id = b 4 ∨ id ∈ supervisors)
      let bad (k : Nat) : Bool := decide (b (33 + 8 * k) = 1 ∧
        (b (34 + 8 * k) = 0 ∨ (b (34 + 8 * k) ≠ 0 ∧ b (38 + 8 * k) < b (37 + 8 * k))))
      ((image[0] = 0xC7#8 ∧ image[1] = 0x2E#8) ∧ (image[2] = 0#8 ∧ image[3] = 97#8)) ∧
        (decide (x.1 = 3), decide (x.1 = 5), decide (x.1 = 6), decide (x.1 = 1000)) =
          (bad3, !bad3 && bad5, !bad3 && !bad5 && bad6,
            !bad3 && !bad5 && !bad6 && (List.range 8).all fun k => !bad k)) ∧
    (let b (i : Nat) : Nat := imageByte (edited [(34, 0#8)]).toList i; b 33 = 1 ∧ b 34 = 0) ∧
    (let b (i : Nat) : Nat := imageByte (edited [(89, 1#8), (90, 1#8), (93, 1#8), (94, 0#8)]).toList i;
      b 89 = 1 ∧ b 90 ≠ 0 ∧ b 94 < b 93 ∧ ∀ k ∈ List.range 7, b (33 + 8 * k) = 1 → b (34 + 8 * k) ≠ 0 ∧
        ¬ b (38 + 8 * k) < b (37 + 8 * k)) := by decide +kernel

/-- What the controller then holds is a usable image: the period by default and at 50, 1000. -/
theorem witness_UsableImageIsInRange :
    ([(255#8, 255#8), (0#8, 50#8), (3#8, 232#8)].map fun (high, low) =>
      match (judgeRead (imageBytes high low)).held with
      | .usable im => (im.nodeId, im.period, im.slots[0])
      | .unusable _ => (0, 0, none)
      | .none => (0, 0, none))
      = [(62, 100, some ⟨15, 3, 100, 0, 143, 1023⟩), (62, 50, some ⟨15, 3, 100, 0, 143, 1023⟩),
         (62, 1000, some ⟨15, 3, 100, 0, 143, 1023⟩)] ∧
    imageWord (imageBytes 255#8 255#8) 5 = 65535 ∧ imageWord (imageBytes 0#8 50#8) 5 = 50 ∧
    imageWord (imageBytes 3#8 232#8) 5 = 1000 := by decide +kernel

/-- A node in LOAD with the crash read in flight and a marker byte. -/
def readingCrash (held : HeldImage) (marker : Byte) : State :=
  { State.reset with
    ctl := { StoreCtl.reset with image := held, operation := some ⟨.crashRead, 0, 0#32⟩ }
    store := State.reset.store.write 128 marker }

theorem witness_CrashReadLeavesLoad :
    ∀ held ∈ [HeldImage.usable image, .unusable none, .unusable (some 62)],
      ∀ marker ∈ [(0xFF#8 : Byte), 0xFE#8, 0xFD#8, 0xFC#8],
        (readingCrash held marker).ctl.operation = some ⟨.crashRead, 0, 0#32⟩ ∧
        (readingCrash held marker).ctl.node = .load ∧ (readingCrash held marker).alloc.recomputeDue = false ∧
        (readingCrash held marker).ctl.image = held ∧ (readingCrash held marker).store.read 128 = marker ∧
        findEntry (readingCrash held marker).supervisor.table .priorTrip 0 = none ∧
        findEntry (readingCrash held marker).supervisor.table .priorTrip 1 = none ∧
        firstEmpty (readingCrash held marker).supervisor.table = some 0 := by decide +kernel

/-- The third failed try of each operation, with the table empty. -/
theorem witness_FailedTriesAreRepeatedThenEndTheOperation :
    (∀ operation ∈ [NvmOperation.configRead, .crashRead, .crashWrite 2 record, .crashErase 1 false], ∀ tries ∈ [0, 1],
      (withOperation running operation tries).ctl.operation = some ⟨operation, tries, 0#32⟩ ∧
      (withOperation running operation tries).ctl.storeWait = false ∧ tries < 2) ∧
    (∀ operation ∈ [NvmOperation.crashWrite 0 record, .crashErase 0 true],
      let s := withOperation running operation 2
      s.ctl.operation = some ⟨operation, 2, 0#32⟩ ∧ s.ctl.deferredRestart = false ∧ settledNow s = true ∧
      firstEmpty s.supervisor.table = some 0 ∧ findEntry s.supervisor.table .storeFail 3 = none ∧
      findEntry s.supervisor.table .storeFail 4 = none) ∧
    (let s := withOperation State.reset .configRead 2;
      s.ctl.operation = some ⟨.configRead, 2, 0#32⟩ ∧ s.ctl.storeWait = false ∧ settledNow s = true ∧
      s.supervisor.table = Vector.replicate 24 none) ∧
    (∀ held ∈ [HeldImage.usable image, .unusable none, .unusable (some 62)],
      let s := withOperation (readingCrash held 0xFD#8) .crashRead 2
      s.ctl.operation = some ⟨.crashRead, 2, 0#32⟩ ∧ s.ctl.storeWait = false ∧ s.ctl.image = held ∧ settledNow s = true ∧
      firstEmpty s.supervisor.table = some 0 ∧ findEntry s.supervisor.table .storeFail 2 = none) := by decide +kernel

theorem witness_CrashWriteStepsReachTheStore :
    ∀ step ∈ [(0 : Fin 3), 1, 2],
      (withOperation running (.crashWrite step record) 0).ctl.operation = some ⟨.crashWrite step record, 0, 0#32⟩ ∧
      (withOperation running (.crashWrite step record) 0).ctl.deferredRestart = false ∧
      (withOperation running (.crashWrite step record) 0).store.wf := by decide +kernel

theorem witness_CrashEraseStepsReachTheStore :
    ∀ step ∈ [(0 : Fin 3), 1, 2],
      ∀ region ∈ [RegionStatus.foundValid, .foundTorn true, .foundTorn false, .unknown],
        ∀ waiting ∈ [none, some record],
          let s := withOperation running (.crashErase step false) 0
          let s' := s.setCtl { s.ctl with region := region, pendingWrite := waiting }
          s'.ctl.operation = some ⟨.crashErase step false, 0, 0#32⟩ ∧ s'.ctl.deferredRestart = false ∧ s'.store.wf ∧
            s'.ctl.region = region ∧ s'.ctl.pendingWrite = waiting := by decide +kernel

theorem witness_ListenExpiryEntersRun :
    listening.ctl.node = .listen ∧ listening.ctl.listenTimer = some 0#32 ∧ listening.cfg.period ≤ 1000 ∧
      ∀ i : Fin 8, listening.alloc.slots[i].isActive = false := by decide +kernel

/-- RUN entry with room for both floors or for the first alone, and with the marks and entries of FLOOR_SHED kept by a RESTART. -/
theorem witness_ListenExpiryEntersRun_recompute :
    ∀ budget ∈ [(120, [.active 100 80, .active 90 70]), (81, [.active 81 80, .shed])], ∀ marked ∈ [false, true],
      let s0 := withTable listening (tableOf (if marked then [(0, fresh .floorShed 0), (15, fresh .floorShed 1)] else []))
      let s := (s0.setCtl { s0.ctl with image := .usable { image with budget := budget.1 } }).setAlloc
        { s0.alloc with shedMarks := ((Vector.replicate 8 false).set 0 marked).set 1 marked }
      let t := after .listenTimerExpiry s
      s.ctl.node = .listen ∧ s.ctl.listenTimer = some 0#32 ∧ settledNow s = true ∧ distinctNow s = true ∧
      atMostNow 16 s = true ∧ t.alloc.slots.toList.take 2 = budget.2 ∧
      t.alloc.shedMarks.toList.take 2 = [false, budget.1 == 81] := by decide +kernel

/-- A beacon of station `id`. -/
def beaconOf (id : Byte) : List Byte :=
  frameBytes 1#8 id 63#8 [1#8, 3#8, 1#8, 0#8, 100#8, 120#8, 0#8, 0#8, 0#8, 0#8, 0#8, 0#8, 0#8, 0#8]

/-- The node in RUN with a count of bad frames and an overlap. -/
def withBad (n : Nat) (overlap : Option AttemptEnd) : State :=
  running.setPort { running.port with badFrames := n, overlap := overlap, cleanRun := 3 }

theorem witness_BadFramesAreCountedOrDiscarded :
    (∀ n ∈ [0, 14, 15, 16, 255], ∀ overlap ∈ [none, some AttemptEnd.clean, some .collided], ∀ stands ∈ [false, true],
      let s := (withBad n overlap).setPort { (withBad n overlap).port with noiseStanding := stands }
      s.port.receiver = true ∧ s.port.footing = true ∧ s.port.isSending = false ∧ s.port.overlap = overlap ∧
      s.port.cleanRun < 4 ∧ s.port.badFrames = n ∧ s.port.noiseStanding = stands ∧ settledNow s = true ∧
      findEntry s.supervisor.table .trunkNoise 0 = none ∧ firstEmpty s.supervisor.table = some 0 ∧ atMostNow 23 s = true) ∧
    receivedFrame true [1#8, 2#8, 3#8] = none ∧ receivedFrame false (beaconOf 7#8) = none ∧
    receivedFrame true ((beaconOf 7#8).dropLast ++ [0#8]) = none := by decide +kernel

/-- Each cause for which a frame is bad (R12) at the first value beyond its range, and the good frames beside them. -/
theorem witness_BadFramesAreCountedOrDiscarded_causes :
    (∀ x ∈ [(frameBytes 0#8 7#8 63#8 [], false), (frameBytes 2#8 7#8 63#8 [], true), (frameBytes 3#8 7#8 63#8 [], true),
        (frameBytes 4#8 7#8 63#8 [], false), ((frameBytes 2#8 7#8 63#8 []).dropLast, false),
        (frameBytes 2#8 7#8 63#8 [] ++ [0#8], false), (frameBytes 2#8 0#8 63#8 [], false), (frameBytes 2#8 62#8 63#8 [], true),
        (frameBytes 2#8 63#8 63#8 [], false)],
      (receivedFrame true x.1).isSome = x.2 ∧ receivedFrame false x.1 = none) ∧
    (∀ x ∈ [((63#8 : Byte), (0#8 : Byte), (0#8 : Byte), 14, true), (62#8, 0#8, 0#8, 14, false), (63#8, 1#8, 1#8, 23, true),
        (63#8, 1#8, 1#8, 24, false)],
      (receivedFrame true (frameBytes 1#8 7#8 x.1 (((List.replicate x.2.2.2.1 0#8).set 12 x.2.1).set 13 x.2.2.1))).isSome =
        x.2.2.2.2) ∧
    receivedFrame true (frameBytes 2#8 7#8 12#8 [5#8, 9#8]) = some ⟨.directive, 7#8, 12#8, [5#8, 9#8]⟩ := by decide +kernel

/-- The length field and the counts of a beacon at the ends of their ranges. -/
theorem witness_BadFramesAreCountedOrDiscarded_lengths :
    (∀ n ∈ [(88, 88), (89, 89)], (frameBytes 2#8 7#8 63#8 (List.replicate n.1 5#8)).length = n.2 + 6) ∧
    (∀ x ∈ [((8#8 : Byte), (4#8 : Byte), 70, true), (9#8, 4#8, 75, false), (8#8, 5#8, 74, false), (8#8, 4#8, 69, false)],
      beaconShape 63#8 (((List.replicate x.2.2.1 0#8).set 12 x.1).set 13 x.2.1) = x.2.2.2) := by decide +kernel

/-- A table with six entries, five of them with credit and at or above MINOR. -/
def reporting : State :=
  withTable running
    (tableOf [(0, fresh .tempHigh 0), (1, fresh .trunkNoise 0), (2, fresh .vswrTrip 0), (3, { fresh .detStuck 3 with credit := 0 }),
      (22, { fresh .idClash 12 with state := .clearedUnacked }), (23, fresh .peerLost 7)])

theorem witness_SentFramesAreReceivedAsSent :
    (∀ kindByte ∈ [(2#8 : Byte), 3#8], FrameKind.ofByte kindByte ≠ none ∧ FrameKind.ofByte kindByte ≠ some .beacon) ∧
    FrameKind.ofByte 1#8 = some .beacon ∧
    beaconShape 63#8 [1#8, 3#8, 1#8, 0#8, 100#8, 120#8, 0#8, 0#8, 0#8, 0#8, 0#8, 0#8, 0#8, 0#8] = true ∧
    (List.replicate 88 (0#8 : Byte)).length ≤ 88 ∧ running.ownId = some 12 ∧ faulted.ownId = some 12 ∧
    running.announcedOperators.length ≤ 8 ∧ faulted.announcedOperators.length ≤ 8 ∧
    running.announcedOperators[1]? = some ⟨2, 600, 3, false⟩ ∧ running.spread.records.isSome = true ∧
    faulted.spread.records = none ∧ reporting.composer.floor = some .minor ∧
    reporting.summarised.map FaultEntry.code = [.vswrTrip, .tempHigh, .idClash, .trunkNoise] := by decide +kernel

theorem witness_SentFramesAreReceivedAsSent_eligible :
    EligibleAt reporting.supervisor.table .minor 1 ∧ ¬ EligibleAt reporting.supervisor.table .minor 3 := by
  have entry : reporting.supervisor.table[3] = some { fresh .detStuck 3 with credit := 0 } := by decide +kernel
  refine ⟨⟨fresh .trunkNoise 0, by decide +kernel, by decide, by decide⟩, fun ⟨e, h, credit, _⟩ => ?_⟩
  cases entry.symm.trans h
  exact absurd credit (by decide)

/-- The node in RUN with the adjacent station 7 heard and LIVE or SUSPECT. -/
def hearing (state : Presence) : State := running.setEntry 0 (some ⟨7, state, some ⟨1, 100, 0#32, none, []⟩⟩)

/-- The node in RUN with every unpinned position taken but the last. -/
def crowded : State :=
  running.setView { running.view with
    table := tab 16 fun i => if 10 ≤ i.val ∧ i.val < 15 then some ⟨i.val + 20, .live, some ⟨1, 100, 0#32, none, []⟩⟩
      else running.view.table[i] }

/-- The node in RUN with every unpinned position taken, last heard at these moments. -/
def packed (heard : Fin 6 → Ms) : State :=
  (running.setView { running.view with
    table := tab 16 fun i => if h : 10 ≤ i.val then
        some ⟨i.val + 20, .live, some ⟨1, 100, heard ⟨i.val - 10, by omega⟩, none, []⟩⟩
      else running.view.table[i] }).setCtl { running.ctl with clock := 200#32 }

/-- The node in RUN with the pinned station of a position in a state, the entry of its loss standing. -/
def returning (p : Fin 16) (id : Nat) (state : Presence) : State :=
  withTable (running.setEntry p (some ⟨id, state, none⟩))
    (tableOf [(4, fresh (if p.val < 8 then .peerLost else .supvLost) id)])

theorem witness_BeaconIsStoredInItsEntry :
    (∀ id ∈ [(7#8 : Byte), 20#8, 44#8, 60#8, 61#8],
      (receivedFrame true (beaconOf id)).map (fun f => (f.kind, f.source)) = some (.beacon, id)) ∧
    (∀ s ∈ [hearing .live, hearing .suspect, running, crowded, returning 0 7 .absent, returning 7 44 .lost, returning 8 60 .absent,
        returning 9 61 .lost, packed fun _ => 100#32],
      ∀ overlap ∈ [none, some AttemptEnd.collided],
      let s' := s.setPort { s.port with overlap := overlap }
      s'.port.receiver = true ∧ s'.port.footing = true ∧ s'.port.isSending = false ∧ s'.port.overlap = overlap ∧
      ∀ id ∈ [7, 20, 44, 60, 61], s'.ownId ≠ some id) := by decide +kernel

/-- The positions at the ends of the pinned groups. -/
theorem witness_BeaconIsStoredInItsEntry_pinned :
    (hearing .live).view.find 7 = some 0 ∧ (hearing .suspect).view.find 7 = some 0 ∧
    (∀ state ∈ [Presence.live, .suspect], ((hearing state).view.table[0]).map Neighbour.state = some state) ∧
    (∀ x ∈ [((0 : Fin 16), 7), (7, 44), (8, 60), (9, 61)], ∀ state ∈ [Presence.absent, .lost],
      let s := returning x.1 x.2 state
      s.view.find x.2 = some x.1 ∧ s.view.table[x.1] = some ⟨x.2, state, none⟩ ∧ settledNow s = true ∧ distinctNow s = true ∧
      (findEntry s.supervisor.table (if x.1.val < 8 then .peerLost else .supvLost) x.2).map (fun y => y.1) = some 4 ∧
      s.spread.records.map (fun r => r.operators.all fun o => decide (o.offset ≤ s.cfg.smax)) = some true) := by
  decide +kernel

/-- The last LOST neighbour returns and lowers Smax_eff to 12, under one offset and above the other, or above both. -/
theorem witness_BeaconIsStoredInItsEntry_returned :
    ∀ offset ∈ [(12 : Int), 13, 24],
      let s := (returning 7 44 .lost).setSpread ⟨some ⟨Vector.replicate 8 600, [⟨1, 600, offset, false⟩, ⟨2, 600, 3, false⟩],
        .normal, .normal, 24⟩, 1⟩
      let t := after (.receivedFrame 1#32 true (beaconOf 44#8)) s
      s.view.find 44 = some 7 ∧ s.view.table[7] = some ⟨44, .lost, none⟩ ∧ s.spread.records.isSome = true ∧
      t.spread.lostCount = 0 ∧ t.spread.records.map (fun r => (r.smaxEff, r.operators.map OperatorRecord.offset)) = some (12, [12, 3]) ∧
      heldOffset t.alloc.offsets 1 = (if offset = 12 then 0 else 12) := by decide +kernel

/-- A LOST neighbour returns while another stays LOST, so that the fill allowance stays in use, or as the last one, with its loss standing in
each state; the offset lies at Smax, above it and at Smax + F, and the mode is not OFF. -/
theorem witness_BeaconIsStoredInItsEntry_lowered :
    ∀ offset ∈ [(12 : Int), 13, 24], ∀ other ∈ [Presence.live, .lost],
      ∀ state ∈ [EntryState.activeUnacked, .activeAcked, .clearedUnacked],
      let s0 := withTable ((returning 7 44 .lost).setEntry 0 (some ⟨7, other, none⟩))
        (tableOf [(4, { fresh .peerLost 44 with state := state })])
      let s := s0.setSpread ⟨some ⟨Vector.replicate 8 600, [⟨1, 600, offset, false⟩, ⟨2, 600, 3, false⟩], .normal, .normal, 24⟩, 1⟩
      let t := after (.receivedFrame 1#32 true (beaconOf 44#8)) s
      s.ctl.node = .run ∧ settledNow s = true ∧ distinctNow s = true ∧ atMostNow 16 s = true ∧
      s.view.table[7] = some ⟨44, .lost, none⟩ ∧
      findEntry s.supervisor.table .peerLost 44 = some (4, { fresh .peerLost 44 with state := state }) ∧
      t.spread.lostCount = (if other = .lost then 1 else 0) ∧ t.spread.records.map (fun r => r.operators.map OperatorRecord.offset) =
        some [if other = .lost then offset else 12, 3] := by decide +kernel

/-- An entry taken, evicted for its greatest silence, and evicted for its position. -/
theorem witness_BeaconIsStoredInItsEntry_unpinned :
    running.view.find 20 = none ∧ running.view.table[10] = none ∧ crowded.view.find 20 = none ∧
    crowded.view.table[15] = none ∧ (∀ q : Fin 16, 10 ≤ q.val → q.val < 15 → crowded.view.table[q] ≠ none) := by decide +kernel

/-- The silences at 10 to 15: that at 15 is the greatest, or the six are the same and 10 is the lowest. -/
theorem witness_BeaconIsStoredInItsEntry_evicted :
    ∀ x ∈ [((99#32 : Ms), [101, 101, 101, 101, 101, 102]), (100#32, [101, 101, 101, 101, 101, 101])],
      let s := packed fun i => if i = 5 then x.1 else 100#32
      s.view.find 20 = none ∧ (∀ q : Fin 16, 10 ≤ q.val → s.view.table[q] ≠ none) ∧
      [10, 11, 12, 13, 14, 15].map (s.advance 1).silenceAt = x.2 := by decide +kernel

theorem witness_OwnIdFromAnotherStationIsAClash :
    (∀ overlap ∈ [none, some AttemptEnd.collided], ∀ clash ∈ [(none, 0), (some 12, 0), (some 12, 15)],
      let s := (running.setPort { running.port with overlap := overlap }).setView
        { running.view with clash := clash.1, clashCount := clash.2 }
      s.port.receiver = true ∧ s.port.footing = true ∧ s.port.isSending = false ∧ s.port.overlap = overlap ∧
      s.ownId = some (12#8 : Byte).toNat ∧ settledNow s = true ∧ atMostNow 23 s = true ∧ s.view.clash = clash.1 ∧
      s.view.clashCount < 16) ∧
    (receivedFrame true (beaconOf 12#8)).map (fun f => (f.kind, f.source)) = some (.beacon, 12#8) ∧
    findEntry (withEntry running (fresh .idClash 12)).supervisor.table .idClash 12 = some (0, fresh .idClash 12) ∧
    (fresh .idClash 12).active = true ∧ settledNow (withEntry running (fresh .idClash 12)) = true := by decide +kernel

theorem witness_ReceivedDirectiveActsAsItsCommand :
    (∀ overlap ∈ [none, some AttemptEnd.collided],
      let s := running.setPort { running.port with overlap := overlap }
      s.port.receiver = true ∧ s.port.footing = true ∧ s.port.isSending = false ∧ s.port.overlap = overlap) ∧
    (∀ kind ∈ [(1#8 : Byte), 2#8, 3#8, 4#8, 5#8, 6#8, 7#8, 8#8, 9#8, 0#8, 10#8],
      receivedFrame true (frameBytes 2#8 60#8 12#8 [kind, 5#8]) = some ⟨.directive, 60#8, 12#8, [kind, 5#8]⟩) ∧
    namesADirective [0#8, 5#8] = false ∧ namesADirective [10#8, 5#8] = false := by decide +kernel

theorem witness_ActivityFreezesTheCountdown :
    (withTx running (.countdown 1)).port.tx = .countdown 1 ∧ ∀ b, running.port.tx ≠ .countdown b := by
  refine ⟨rfl, fun b => ?_⟩
  simp [running]

theorem witness_GapDrawsOrResumesTheBackoff :
    ∀ frozen ∈ [none, some 0, some 1, some 63], (withTx running (.gap frozen)).port.tx = .gap frozen := by decide +kernel

theorem witness_BackoffSlotCountsDownAndSends :
    let answering := running.setPort { running.port with answers := [⟨[], 8⟩] }
    (withTx running (.countdown 2)).port.tx = .countdown 2 ∧ (withTx running (.countdown 1)).port.tx = .countdown 1 ∧
    (withTx running (.countdown 1)).port.answers = [] ∧
    (withTx answering (.countdown 1)).port.answers = ⟨[], 8⟩ :: [] := by decide +kernel

/-- The node in RUN with a frame on the line, answers and a beacon queued. -/
def sending (frame : FrameOnLine) (doom : Doom) (answers : List QueuedAnswer) (beacon : Option Nat) : State :=
  running.setPort { running.port with tx := .sending ⟨frame, [], doom⟩, answers := answers, beacon := beacon }

theorem witness_CollidedAnswerRetriesEightTimes :
    ∀ n ∈ [1, 7, 8], (sending .answer .kept [⟨[], n⟩] none).port.tx = .sending ⟨.answer, [], .kept⟩ ∧
      (sending .answer .kept [⟨[], n⟩] none).port.answers = ⟨[], n⟩ :: [] ∧
      (sending .answer .kept [⟨[], n⟩] none).port.beaconWaiting = false := by decide +kernel

theorem witness_CollidedBeaconIsKeptOrDropped :
    ∀ doom ∈ [Doom.kept, .superseded, .withdrawn], ∀ n ∈ [1, 7, 8], ∀ failures ∈ [0, 4, 255], ∀ waiting ∈ [false, true],
      let s := sending .beacon doom [] (some n)
      let s' := s.setPort { s.port with failures := failures, beaconWaiting := waiting }
      s'.port.tx = .sending ⟨.beacon, [], doom⟩ ∧ s'.port.beacon = some n ∧ s'.port.beaconWaiting = waiting ∧
      s'.port.failures = failures ∧ settledNow s' = true ∧ atMostNow 23 s' = true ∧
      findEntry s'.supervisor.table .trunkBusy 0 = none ∧ firstEmpty s'.supervisor.table = some 0 := by decide +kernel

theorem witness_CleanFrameLeavesTheQueue :
    (sending .answer .kept [⟨[], 8⟩] none).port.tx = .sending ⟨.answer, [], .kept⟩ ∧
    (sending .answer .kept [⟨[], 8⟩] none).port.answers = ⟨[], 8⟩ :: [] ∧
    (∀ doom ∈ [Doom.kept, .superseded, .withdrawn], ∀ standing ∈ [false, true],
      ∀ state ∈ [EntryState.activeUnacked, .activeAcked, .clearedUnacked],
      let s := withTable (sending .beacon doom [] (some 1))
        (tableOf [(0, fresh .peerLost 7), (23, { fresh .trunkBusy 0 with state := state })])
      let s' := (s.setPort { s.port with busyStanding := standing }).setComposer
        { s.composer with carried := [(.peerLost, 7), (.trunkBusy, 0)] }
      s'.port.tx = .sending ⟨.beacon, [], doom⟩ ∧ s'.port.busyStanding = standing ∧ settledNow s' = true ∧
      findEntry s'.supervisor.table .trunkBusy 0 = some (23, { fresh .trunkBusy 0 with state := state }) ∧
      ((after .cleanFrame s').supervisor.table[0]).map FaultEntry.credit = some 2) := by decide +kernel

theorem witness_JitterEndPutsTheBeaconInItsSlot :
    (running.setComposer ⟨some ⟨0#32, 125⟩, [], none⟩).composer.request = some ⟨0#32, 125⟩ ∧
    (running.setComposer ⟨some ⟨0#32, 0⟩, [], none⟩).port.beaconOnLine = false ∧
    ((sending .beacon .superseded [] (some 3)).setComposer ⟨some ⟨0#32, 12⟩, [], none⟩).port.beaconOnLine = true := by
  decide +kernel

theorem witness_FirstIdleGivesFooting :
    let s := running.setPort { running.port with footing := false, line := .busy }
    s.port.receiver = true ∧ s.port.footing = false := by decide +kernel

/-- The node in RUN with an entry in one of its three states. -/
def holding (code : FaultCode) (subject : Nat) (state : EntryState) : State :=
  withEntry running { fresh code subject with state := state }

/-- What `RaisedIn` and `ClearedIn` ask for: an entry of the condition in each state, and none with room for one. -/
theorem witness_raises_and_clears :
    (∀ x ∈ [(FaultCode.trunkNoise, 0), (.idClash, 12), (.trunkBusy, 0), (.vswrWarn, 0), (.vswrTrip, 0), (.detStuck, 10),
        (.tempLimit, 0), (.peerLost, 7)],
      (∀ state ∈ [EntryState.activeUnacked, .activeAcked, .clearedUnacked],
        findEntry (holding x.1 x.2 state).supervisor.table x.1 x.2 = some (0, { fresh x.1 x.2 with state := state })) ∧
      findEntry running.supervisor.table x.1 x.2 = none) ∧
    firstEmpty running.supervisor.table = some 0 := by decide +kernel

theorem witness_StandingTrunkConditionsEnd :
    (∀ state ∈ [EntryState.activeUnacked, .activeAcked, .clearedUnacked],
      let s := holding .trunkNoise 0 state
      let s1 := s.setPort { s.port with noiseStanding := true, cleanRun := 4 }
      s1.port.noiseStanding = true ∧ s1.port.cleanRun = 4 ∧ s1.supervisor.alarm = alarmLevel s1.supervisor.table ∧
      s1.alloc.derating = deratingLevel s1.supervisor.table ∧ s1.alloc.down = downCondition s1.supervisor.table ∧
      s1.alloc.recomputeDue = false ∧
      (findEntry s1.supervisor.table .trunkNoise 0).map (fun x => x.2.state) = some state) ∧
    (∀ state ∈ [EntryState.activeUnacked, .activeAcked, .clearedUnacked],
      let s := holding .idClash 12 state
      let s1 := s.setView { s.view with clash := some 12, clashCount := 16 }
      s1.view.clash = some 12 ∧ s1.view.clashCount = 16 ∧ s1.supervisor.alarm = alarmLevel s1.supervisor.table ∧
      s1.alloc.derating = deratingLevel s1.supervisor.table ∧ s1.alloc.down = downCondition s1.supervisor.table ∧
      s1.alloc.recomputeDue = false ∧
      (findEntry s1.supervisor.table .idClash 12).map (fun x => x.2.state) = some state) := by decide +kernel

/-- Each count at the ends of its range, and each place a beacon can be in at the request. -/
theorem witness_EpochExpiriesRunTheTimerAndRequestBeacons :
    (∀ s ∈ [running, faulted], s.ctl.epochTimer = some 0#32 ∧ s.port.quiet = false ∧ s.ownId ≠ none ∧
      (∀ run ∈ [0, 3], ∀ bad ∈ [3, 4], let s' := s.setPort { s.port with noiseStanding := true, cleanRun := run, badFrames := bad };
        s'.port.noiseStanding = true ∧ s'.port.cleanRun < 4 ∧ s'.port.badFrames = bad) ∧
      (∀ count ∈ [0, 15], let s' := s.setView { s.view with clash := some 12, clashCount := count };
        s'.view.clash = some 12 ∧ s'.view.clashCount < 16) ∧
      s.port.noiseStanding = false ∧ s.view.clash = none ∧
      (∀ tx ∈ [TxState.idle, .countdown 3, .sending ⟨.beacon, [], .kept⟩, .sending ⟨.beacon, [], .withdrawn⟩],
        ∀ failures ∈ [0, 3, 4, 5, 253],
        let s' := (s.setPort { s.port with tx := tx, beacon := some 1, failures := failures }).setComposer
          { s.composer with request := some ⟨0#32, 12⟩ }
        s'.port.tx = tx ∧ s'.port.failures ≤ 253 ∧ s'.composer.request.isSome = true ∧
        (s'.port.beaconOnLine = true ∨ s'.port.beaconOnLine = false))) ∧
    running.ctl.node = .run ∧ faulted.ctl.node = .configFault ∧ running.cfg.period ≤ 1000 ∧
    (faulted.setCtl { faulted.ctl with image := .unusable none }).ownId = none ∧
    (running.setPort { running.port with quiet := true }).port.quiet = true := by decide +kernel

/-- The fifth dropped beacon with TRUNK_BUSY's entry in each state, and with none. -/
theorem witness_EpochExpiriesRunTheTimerAndRequestBeacons_busy :
    ∀ x ∈ [(running, Instr.epochExpiry), (faulted, .configFaultEpochExpiry)],
      ∀ placed ∈ [[], [(14, fresh .trunkBusy 0)], [(0, { fresh .trunkBusy 0 with state := .activeAcked })],
        [(3, { fresh .trunkBusy 0 with state := .clearedUnacked, count := 255 })]],
      ∀ y ∈ [(3, some 1), (4, none)],
      let s0 := withTable x.1 (tableOf placed)
      let s := (s0.setPort { s0.port with failures := y.1, beacon := y.2 }).setComposer
        { s0.composer with request := some ⟨0#32, 12⟩ }
      s.port.failures = y.1 ∧ s.port.quiet = false ∧ settledNow s = true ∧ distinctNow s = true ∧ atMostNow 15 s = true ∧
      (after x.2 s).port.failures = 5 ∧ (after x.2 s).port.busyStanding = true := by decide +kernel

/-- The node in RUN with ten samples in each window, seven of them active, and every load at `load`. -/
def sampled (load : Nat) : State :=
  (running.setScanner { running.scanner with windows := Vector.replicate 8 ⟨10, 7⟩ }).setSpread
    ⟨some ⟨Vector.replicate 8 load, [⟨1, load, 1, false⟩, ⟨2, load, -40, false⟩], .normal, .normal, 12⟩, 0⟩

theorem witness_EpochCloseSmoothsLoads :
    (∀ load ∈ [600, 999, 1000], (sampled load).ctl.node = .run ∧ (sampled load).ctl.epochTimer = some 0#32 ∧
      (sampled load).spread.records.isSome = true ∧ (sampled load).cfg.slots[0] = some ⟨1, 0, 100, 80, 120, 300⟩ ∧
      (sampled load).stuckStands (channelOf 0) = false ∧ (sampled load).scanner.windows[0] = ⟨10, 7⟩) ∧
    (let s := (sampled 600).setScanner { (sampled 600).scanner with stuck := Vector.replicate 11 ⟨64, 0, true⟩ };
      s.stuckStands (channelOf 0) = true ∧ s.cfg.slots[0] ≠ none) ∧
    (after .epochExpiry (sampled 600)).spread.records.map (fun r => r.loads[0]) = some 625 := by decide +kernel

/-- No contributors; then a LIVE one, a SUSPECT one of a MAJOR fault level and a LOST one for operator 2, and the LOST one for operator 1: a
difference of -375 moves operator 1 by 2, one of -108 moves operator 2 by 1 (R62 to R68). -/
theorem witness_EpochCloseStepsOffsets :
    (sampled 600).ctl.node = .run ∧ (sampled 600).ctl.epochTimer = some 0#32 ∧
    (sampled 600).spread.records.map (fun r => r.operators[1]?) = some (some ⟨2, 600, -40, false⟩) ∧
    (after .epochExpiry (sampled 600)).spread.records.map (fun r => r.operators[1]?) = some (some ⟨2, 625, -39, false⟩) ∧
    (let s := (((sampled 600).setEntry 0 (some ⟨7, .live, some ⟨1, 100, 0#32, none, [⟨2, 700, false⟩]⟩⟩)).setEntry 1
        (some ⟨13, .suspect, some ⟨1, 100, 0#32, some .major, [⟨2, 500, false⟩]⟩⟩)).setEntry 7 (some ⟨14, .lost, none⟩);
      contributors s.view 2 = [⟨700, false⟩, ⟨500, true⟩, ⟨1000, true⟩] ∧ contributors s.view 1 = [⟨1000, true⟩] ∧
      s.ctl.node = .run ∧ s.ctl.epochTimer = some 0#32 ∧
      (after .epochExpiry s).spread.records.map (fun r => r.operators.map OperatorRecord.offset) = some [3, -39] ∧
      heldOffset (after .epochExpiry s).alloc.offsets 1 = 3) := by decide +kernel

/-- What the statement asks of the fault table and the re-credit, with FLOOR_SHED standing or not. -/
theorem witness_EpochCloseStepsOffsets_recompute :
    ∀ placed ∈ [[], [(0, fresh .floorShed 1)], [(14, { fresh .floorShed 1 with state := .activeAcked })]],
      let s := withTable (sampled 600) (tableOf placed)
      s.ctl.node = .run ∧ s.spread.records.isSome = true ∧ settledNow s = true ∧ distinctNow s = true ∧ atMostNow 15 s = true ∧
      s.supervisor.reCreditDue = false := by decide +kernel

theorem witness_ReCreditRenewsStandingFaults :
    (running.setSupervisor { running.supervisor with reCreditDue := true }).supervisor.reCreditDue = true := by decide +kernel

theorem witness_ConversionStartsTheNext :
    ∀ i ∈ [0, 3, 4], (withConversion running i).scanner.conversion = some i ∧
      i < (withConversion running i).scanner.scanList.length := by decide +kernel

/-- The node in RUN with the conversion of scan list entry `i` in flight and one watch for every channel. -/
def watching (i : Nat) (w : StuckWatch) : State :=
  (withConversion running i).setScanner
    { (withConversion running i).scanner with stuck := Vector.replicate 11 w }

theorem witness_UplinkResultCountsASample :
    (running.scanner.conversion = some 0 ∧ running.scanner.scanList[0]? = some (channelOf 0) ∧
      running.cfg.slots[0] = some ⟨1, 0, 100, 80, 120, 300⟩) ∧
    (∀ code ∈ [(0#10 : DetectorCode), 1023#10, 299#10, 300#10], ∀ w ∈ [(⟨62, 0, false⟩ : StuckWatch), ⟨64, 0, true⟩, ⟨0, 62, true⟩],
      ((code = 0#10 ∨ code = 1023#10) → w.railRun < 63 ∨ w.standing = true) ∧
      (code ≠ 0#10 → code ≠ 1023#10 → w.inRangeRun < 63 ∨ w.standing = false) ∧
      (watching 0 w).scanner.stuck[channelOf 0] = w) := by decide +kernel

/-- A table whose twenty-four positions hold these entries, each with the position as subject. -/
def full (entry : Fin 24 → FaultEntry) : FaultTable := tab 24 fun p => some { entry p with subject := 20 + p.val }

/-- A table without an empty position in which no entry is CLEARED-UNACKED or of lower severity than MAJOR. -/
def majors : FaultTable := full fun _ => fresh .idClash 0
/-- One with a CLEARED-UNACKED entry at `p`, and another of the same stamps behind it where there is room. -/
def withCleared (p : Fin 24) : FaultTable :=
  full fun q => if p ≤ q ∧ q.val ≤ p.val + 1 then { fresh .idClash 0 with state := .clearedUnacked } else fresh .idClash 0
/-- One with a MINOR entry at `p`, and another of the same stamps behind it where there is room. -/
def withMinor (p : Fin 24) (code : FaultCode) : FaultTable :=
  full fun q => if p ≤ q ∧ q.val ≤ p.val + 1 then fresh code 0 else fresh .idClash 0

/-- Channels of every kind, and each of the four kinds of table. -/
theorem witness_SixtyFourthRailResultRaisesDetStuck :
    (∀ x ∈ [(0, (0 : Fin 11)), (1, 1), (2, 8), (3, 9), (4, 10)],
      (watching x.1 ⟨63, 0, false⟩).scanner.conversion = some x.1 ∧
      (watching x.1 ⟨63, 0, false⟩).scanner.scanList[x.1]? = some x.2 ∧
      (watching x.1 ⟨63, 0, false⟩).scanner.stuck[x.2] = ⟨63, 0, false⟩ ∧
      (watching x.1 ⟨0, 63, true⟩).scanner.stuck[x.2] = ⟨0, 63, true⟩ ∧ settledNow (watching x.1 ⟨0, 63, true⟩) = true ∧
      distinctNow (watching x.1 ⟨0, 63, true⟩) = true ∧
      ∀ table ∈ [Vector.replicate 24 none, majors, withCleared 0, withCleared 23, withMinor 0 .peerLost, withMinor 23 .peerLost,
          withMinor 5 .tempWarn],
        let s := withTable (watching x.1 ⟨63, 0, false⟩) table
        settledNow s = true ∧ findEntry s.supervisor.table .detStuck x.2.val = none) ∧
    running.cfg.slots[0] ≠ none ∧ firstEmpty (Vector.replicate 24 none) = some 0 := by decide +kernel

/-- What the clauses ask of a full table: no empty position; the first CLEARED-UNACKED entry; the first of lower severity; none. -/
theorem witness_SixtyFourthRailResultRaisesDetStuck_full :
    (∀ table ∈ [majors, withCleared 0, withCleared 23, withMinor 0 .peerLost, withMinor 23 .peerLost], firstEmpty table = none) ∧
    (∀ p ∈ [(0 : Fin 24), 23], ∀ q : Fin 24,
      ((withCleared p)[q].map fun e => e.state) = (if p ≤ q ∧ q.val ≤ p.val + 1 then some .clearedUnacked else some .activeUnacked) ∧
      ((withMinor p .peerLost)[q].map fun e => decide (e.code.severity.number < 3 ∧ e.state = .activeUnacked)) =
        some (decide (p ≤ q ∧ q.val ≤ p.val + 1)) ∧
      (majors[q].map fun e => decide (e.code.severity.number < 3 ∨ e.state = .clearedUnacked)) = some false) := by
  decide +kernel

theorem witness_SixtyFourthRailResultRaisesDetStuck_first :
    ∀ p q : Fin 24, q ≠ p → p ≤ q → EvictedBefore (withMinor p .peerLost) FaultEntry.firstEpoch p q := by
  intro p q h hle e f he hf
  simp only [withMinor, full, tab, Fin.getElem_fin, Vector.getElem_mk, List.getElem_toArray, List.getElem_ofFn,
    Option.some.injEq, Fin.eta] at he hf
  subst he hf
  have := Fin.val_ne_of_ne h
  split <;> split <;> simp [fresh, FaultCode.severity, Severity.number] <;> omega

/-- Each temperature condition standing with its entry, and results on both sides of each threshold. -/
theorem witness_OverheatedAmplifierTrips_ends :
    (∀ w ∈ [(⟨62, 0, false⟩ : StuckWatch), ⟨63, 0, false⟩, ⟨0, 62, true⟩, ⟨0, 63, true⟩],
      (watching 4 w).scanner.conversion = some 4 ∧ (watching 4 w).scanner.scanList[4]? = some channelTemp ∧
      (watching 4 w).scanner.stuck[channelTemp] = w) ∧
    (after (.conversionComplete 579#10) (watching 4 ⟨0, 62, true⟩)).scanner.tempHigh = false ∧
    (after (.conversionComplete 579#10) (watching 4 ⟨0, 63, true⟩)).scanner.tempHigh = true ∧
    (after (.conversionComplete 1023#10) (watching 4 ⟨62, 0, false⟩)).scanner.tempLimit = true ∧
    (after (.conversionComplete 1023#10) (watching 4 ⟨63, 0, false⟩)).scanner.tempLimit = false ∧
    (∀ x ∈ [FaultCode.tempWarn, .tempHigh, .tempLimit], ∀ state ∈ [EntryState.activeUnacked, .activeAcked, .clearedUnacked],
      let s := withTable (withConversion running 4) (tableOf [(2, { fresh x 0 with state := state })])
      let s' := s.setScanner { s.scanner with tempWarn := true, tempHigh := true, tempLimit := true }
      s'.scanner.conversion = some 4 ∧ s'.scanner.scanList[4]? = some channelTemp ∧
      s'.scanner.stuck[channelTemp].standing = false ∧ settledNow s' = true ∧ distinctNow s' = true ∧ atMostNow 13 s' = true ∧
      (findEntry s'.supervisor.table x 0).map (fun y => y.2.state) = some state ∧
      (after (.conversionComplete 479#10) s').scanner.tempWarn = false ∧
      (after (.conversionComplete 519#10) s').scanner.tempHigh = false ∧
      (after (.conversionComplete 559#10) s').scanner.tempLimit = false) := by decide +kernel

theorem witness_OverheatedAmplifierTrips :
    let s := withConversion running 4
    (s.scanner.conversion = some 4 ∧ s.scanner.scanList[4]? = some channelTemp ∧ s.ctl.node = .run ∧
      s.scanner.stuck[channelTemp].standing = false ∧ s.supervisor.table = Vector.replicate 24 none ∧
      s.scanner.tempWarn = false ∧ s.scanner.tempHigh = false ∧ s.scanner.tempLimit = false ∧ s.ctl.operation = none ∧
      s.ctl.region = .empty) ∧ 580 ≤ (580#10 : DetectorCode).toNat ∧ (580#10 : DetectorCode) ≠ 1023#10 ∧ s.Settled ∧
      s.AmplifierSafe :=
  ⟨by decide +kernel, by decide, by decide, ⟨⟨by decide, by decide, by decide⟩, by decide⟩, ⟨by decide, by decide⟩⟩

/-- What a crash write request can meet: each region with nothing in flight, a write in flight, an erase in flight with and without a
write that waits (R193). -/
def requested : List (StoreCtl → StoreCtl) :=
  ([.empty, .foundTorn true, .foundTorn false, .foundValid, .written, .unknown].map fun region c => { c with region := region }) ++
  [fun c => { c with operation := some ⟨.crashWrite 1 record, 0, 0#32⟩ },
    fun c => { c with operation := some ⟨.crashErase 1 false, 0, 0#32⟩, region := .foundValid },
    fun c => { c with operation := some ⟨.crashErase 1 true, 0, 0#32⟩, region := .unknown, pendingWrite := some record }]

/-- What a request of a trip leaves: the code of the record with which a write was started, and of the one that waits. -/
def answered (c : StoreCtl) : Option FaultCode × Option FaultCode :=
  ((c.operation.bind fun op => match op.operation with
    | .crashWrite _ r => some r.code
    | .configRead => none
    | .crashRead => none
    | .crashErase _ _ => none), c.pendingWrite.map CrashRecord.code)

/-- TEMP_LIMIT's trip and VSWR_TRIP's with each of them; `record` has the code TEMP_LIMIT. -/
theorem witness_crash_write_requests :
    (∀ f ∈ requested, let s := (withConversion running 4).setCtl (f running.ctl);
      s.scanner.conversion = some 4 ∧ s.ctl.node = .run ∧ s.supervisor.table = Vector.replicate 24 none ∧ settledNow s = true) ∧
    (∀ f ∈ requested, let s := ((withConversion running 3).setScanner
          { (withConversion running 3).scanner with forward := some 200, badPairs := 18 }).setCtl (f running.ctl);
      s.scanner.conversion = some 3 ∧ s.scanner.forward = some 200 ∧ s.scanner.badPairs = 18 ∧ s.scanner.vswrTrip = false ∧
      findEntry s.supervisor.table .vswrTrip 0 = none ∧ firstEmpty s.supervisor.table = some 0 ∧ settledNow s = true) ∧
    (requested.map fun f => answered (after (.conversionComplete 161#10) (((withConversion running 3).setScanner
          { (withConversion running 3).scanner with forward := some 200, badPairs := 18 }).setCtl (f running.ctl))).ctl) =
      [(some .vswrTrip, none), (some .vswrTrip, none), (some .vswrTrip, none), (none, none), (none, none), (none, none),
        (some .tempLimit, none), (none, some .vswrTrip), (none, some .tempLimit)] := by decide +kernel

/-- A pair with a channel stuck before the result, from it on, and no longer from it on; and a forward result. -/
theorem witness_PairsAreJudgedByReturnLoss_stuck :
    (∀ w ∈ [(⟨62, 0, false⟩ : StuckWatch), ⟨63, 0, false⟩, ⟨0, 62, true⟩, ⟨0, 63, true⟩], ∀ stands ∈ [true, false],
      let s := (watching 3 w).setScanner
        { (watching 3 w).scanner with
          forward := some 200, stuck := (Vector.replicate 11 w).set 8 ⟨0, 0, stands⟩ }
      s.scanner.conversion = some 3 ∧ s.scanner.scanList[3]? = some channelRfl ∧ s.scanner.forward = some 200 ∧
      s.scanner.stuck[channelFwd].standing = stands ∧ s.scanner.stuck[channelRfl] = w) ∧
    running.scanner.scanList[2]? = some channelFwd ∧ (withConversion running 2).scanner.conversion = some 2 := by decide +kernel

/-- A forward result below fwd_min; a pair one below the threshold of 40; a pair at it; the marks on and off, and the tables. -/
theorem witness_PairsAreJudgedByReturnLoss :
    (∀ forward ∈ [199, 200], ∀ counts ∈ [(2, 0), (18, 0), (0, 7), (255, 0)], ∀ warn ∈ [false, true],
      ∀ s0 ∈ [running, faulted, withEntry running (fresh .vswrWarn 0), withEntry running (fresh .tempHigh 0)],
      let s := s0.setScanner
        { (withConversion running 3).scanner with
          forward := some forward, badPairs := counts.1, goodPairs := counts.2, vswrWarn := warn }
      s.scanner.conversion = some 3 ∧ s.scanner.scanList[3]? = some channelRfl ∧ s.scanner.forward = some forward ∧
      s.scanner.stuck[channelFwd].standing = false ∧ s.scanner.stuck[channelRfl].standing = false ∧
      s.scanner.badPairs = counts.1 ∧ s.scanner.goodPairs = counts.2 ∧ s.scanner.vswrWarn = warn ∧ s.scanner.vswrTrip = false ∧
      settledNow { s with alloc := { s.alloc with derating := deratingLevel s.supervisor.table } } = true ∧
      distinctNow s = true ∧ atMostNow 15 s = true ∧ findEntry s.supervisor.table .vswrTrip 0 = none) ∧
    findEntry running.supervisor.table .vswrWarn 0 = none ∧
    (findEntry (withEntry running (fresh .vswrWarn 0)).supervisor.table .vswrWarn 0).map Prod.fst = some 0 ∧
    firstEmpty running.supervisor.table = some 0 ∧ running.alloc.derating < 24 ∧ running.alloc.down = false ∧
    running.ctl.operation = none ∧ running.ctl.region = .empty ∧ running.cfg.fwdMin = 200 ∧ running.cfg.rlThreshold = 40 ∧
    ((200 : Nat) : Int) - (161#10 : DetectorCode).toNat < 40 ∧ (40 : Int) ≤ ((200 : Nat) : Int) - (160#10 : DetectorCode).toNat ∧
    (161#10 : DetectorCode) ≠ 0#10 ∧ (161#10 : DetectorCode) ≠ 1023#10 := by decide +kernel

/-- The nineteenth bad pair with VSWR_TRIP's entry new or returning, and no snapshot held or one. -/
theorem witness_PairsAreJudgedByReturnLoss_snapshot :
    ∀ placed ∈ [[], [(5, { fresh .vswrTrip 0 with state := .clearedUnacked, count := 255 })]],
      ∀ held ∈ [none, some (running.takeSnapshot .detStuck 3 9#32)], ∀ count ∈ [0, 255],
      let s0 := withTable running (tableOf placed)
      let s := (s0.setScanner { (withConversion running 3).scanner with forward := some 200, badPairs := 18 }).setSupervisor
        { s0.supervisor with snapshot := held, sinceSnapshot := count }
      s.scanner.conversion = some 3 ∧ s.scanner.forward = some 200 ∧ s.scanner.badPairs = 18 ∧ s.scanner.vswrTrip = false ∧
      settledNow s = true ∧ s.supervisor.snapshot = held ∧
      (placed = [] → findEntry s.supervisor.table .vswrTrip 0 = none ∧ firstEmpty s.supervisor.table = some 0) ∧
      (placed ≠ [] → (findEntry s.supervisor.table .vswrTrip 0).map (fun x => (x.1, x.2.state)) = some (5, .clearedUnacked)) ∧
      (after (.conversionComplete 161#10) s).supervisor.sinceSnapshot = (if held = none then 0 else min 255 (count + 1)) := by
  decide +kernel

/-- With and without a notice, the trip standing or not, its entry in each state, in RUN and outside it, alone and with TEMP_LIMIT. -/
theorem witness_TripReleaseEndsTheLatch :
    ∀ notice ∈ [true, false], ∀ trip ∈ [true, false], ∀ state ∈ [EntryState.activeUnacked, .activeAcked, .clearedUnacked],
      ∀ x ∈ [(running, []), (running, [(1, fresh .tempLimit 0)]), (faulted, [])],
      let s := withTable x.1 (tableOf ((0, { fresh .vswrTrip 0 with state := state }) :: x.2))
      let s' := s.setScanner { s.scanner with releaseNotice := notice, vswrTrip := trip }
      s'.scanner.releaseNotice = notice ∧ s'.scanner.vswrTrip = trip ∧ settledNow s' = true ∧ distinctNow s' = true ∧
      atMostNow 16 s' = true ∧ findEntry s'.supervisor.table .vswrTrip 0 = some (0, { fresh .vswrTrip 0 with state := state }) ∧
      (s'.ctl.node ≠ .run ∨ x.2 = [] ∨ (activeEntries s'.supervisor.table).any (fun e => e.code == .tempLimit) = true) := by
  decide +kernel

/-- The release that ends DOWN in RUN, with room for both floors, and the carriers that come back at their floors. -/
theorem witness_TripReleaseEndsTheLatch_recompute :
    let s := withTable (running.setAlloc { running.alloc with slots := ((Vector.replicate 8 .idle).set 0 .down).set 1 .down })
      (tableOf [(0, { fresh .vswrTrip 0 with state := .activeAcked })])
    let s' := s.setScanner { s.scanner with releaseNotice := true, vswrTrip := true }
    s'.ctl.node = .run ∧ s'.alloc.down = true ∧ settledNow s' = true ∧ distinctNow s' = true ∧ atMostNow 16 s' = true ∧
    (after .vswrTripRelease s').alloc.down = false ∧
    (after .vswrTripRelease s').alloc.slots.toList.take 2 = [.active 100 80, .active 90 70] := by decide +kernel

/-- A slot that rises, one at its target, one that is not ACTIVE; the rise to the value held or to another; a write in flight or none. -/
theorem witness_RampTickRaisesCarriersByOne :
    (running.alloc.ramp = some 0#32 ∧ running.cfg.period ≤ 1000 ∧ running.alloc.slots[0] = .active 100 80 ∧
      running.alloc.slots[7].isActive = false) ∧
    (let s := running.setAlloc { running.alloc with slots := (Vector.replicate 8 .idle).set 0 (.active 80 80) };
      s.alloc.ramp = some 0#32 ∧ s.alloc.slots[0] = .active 80 80 ∧ ∀ i : Fin 8, (s.alloc.slots[i]).rise = s.alloc.slots[i]) ∧
    (∀ held ∈ [none, some (Drive.code 80), some (.code 81)], ∀ flight ∈ [none, some (⟨1, .code 100, false⟩ : WriteInFlight)],
      ∀ waits ∈ [none, some (⟨.code 70, false⟩ : PendingDrive)],
      let s := running.setWriter { running.writer with
        held := Vector.replicate 8 held, inFlight := flight, dirty := (Vector.replicate 8 none).set 5 waits }
      s.alloc.ramp = some 0#32 ∧ s.writer.inFlight = flight ∧ s.writer.held[0] = held ∧
      (after .rampTick s).alloc.slots[0] = .active 100 81) ∧
    (after .rampTick running).writer.inFlight = some ⟨0, .code 81, false⟩ ∧
    (after .rampTick running).writer.dirty[1] = some ⟨.code 71, false⟩ := by decide +kernel

/-- The node in RUN with a write of slot 1 in flight and three slots that wait. -/
def writing (a b : Option PendingDrive) : State :=
  running.setWriter { running.writer with
    held := Vector.replicate 8 (some (.code 90))
    inFlight := some ⟨1, .code 100, false⟩
    dirty := ((Vector.replicate 8 none).set 2 a).set 5 b }

theorem witness_WriteCompleteServesDecreasesFirst :
    (writing none none).writer.inFlight = some ⟨1, .code 100, false⟩ ∧
    (∀ i : Fin 8, (writing none none).writer.dirty[i] = none) ∧
    (let w := (writing (some ⟨.code 95, false⟩) (some ⟨.mute, false⟩)).writer;
      w.waitsDecrease 5 = true ∧ ∀ j : Fin 8, j < 5 → w.waitsDecrease j = false) ∧
    (let w := (writing (some ⟨.code 95, false⟩) (some ⟨.code 91, false⟩)).writer;
      (∀ j : Fin 8, w.waitsDecrease j = false) ∧ w.dirty[2].isSome = true ∧ ∀ j : Fin 8, j < 2 → w.dirty[j] = none) := by
  decide +kernel

/-- The node in RUN with station 33 at a position. -/
def silent (p : Fin 16) (state : Presence) : State := running.setEntry p (some ⟨33, state, some ⟨1, 1000, 0#32, none, []⟩⟩)

theorem witness_SilenceLimitsJudgeAnEntry :
    (∀ p ∈ [(0 : Fin 16), 7, 8, 9, 10, 15], ∀ state ∈ [Presence.live, .suspect],
      (silent p state).view.table[p] = some ⟨33, state, some ⟨1, 1000, 0#32, none, []⟩⟩) ∧
    (∀ p : Fin 16, (silent p .suspect).Settled) ∧ firstEmpty (silent 7 .suspect).supervisor.table = some 0 ∧
    firstEmpty (silent 9 .suspect).supervisor.table = some 0 ∧
    findEntry (silent 7 .suspect).supervisor.table .peerLost 33 = none ∧
    findEntry (silent 9 .suspect).supervisor.table .supvLost 33 = none ∧
    (∀ r, running.spread.records = some r → ∀ o ∈ r.operators, o.offset ≤ running.cfg.smax) := by
  refine ⟨by decide +kernel, fun _ => ⟨⟨test_running_settled.1.1, test_running_settled.1.2, test_running_settled.1.3⟩,
    test_running_settled.2⟩, by decide +kernel, by decide +kernel, by decide +kernel, by decide +kernel, ?_⟩
  rintro r ⟨rfl⟩
  decide

/-- A first loss and a second one, with an offset at Smax or at Smax + F under the fill allowance, and at Smax in OFF; the loss has an entry in
each state. -/
theorem witness_SilenceLimitsJudgeAnEntry_allowance :
    ∀ x ∈ [((12 : Int), SpreadMode.normal, 0), (24, .normal, 1), (24, .surge, 1), (12, .off, 1)],
      ∀ state ∈ [EntryState.activeUnacked, .activeAcked, .clearedUnacked],
      let s0 := withTable ((silent 7 .suspect).setEntry 0 (some ⟨7, if x.2.2 = 1 then .lost else .live, none⟩))
        (tableOf [(1, { fresh .peerLost 33 with state := state })])
      let s := s0.setSpread ⟨some ⟨Vector.replicate 8 600, [⟨1, 600, x.1, false⟩, ⟨2, 600, 3, false⟩], x.2.1, .normal, 24⟩, x.2.2⟩
      s.view.table[7] = some ⟨33, .suspect, some ⟨1, 1000, 0#32, none, []⟩⟩ ∧ settledNow s = true ∧
      firstEmpty s.supervisor.table = some 0 ∧
      findEntry s.supervisor.table .peerLost 33 = some (1, { fresh .peerLost 33 with state := state }) ∧
      s.spread.records.map (fun r => r.operators.all fun o => decide (o.offset ≤
        if r.current = .off then (s.cfg.smax : Int) else s.cfg.smax + s.cfg.fill)) = some true ∧
      (after (.silenceLostLimit 7) s).spread.lostCount = x.2.2 + 1 := by decide +kernel

/-- Entries that are ABSENT in both pinned groups, at their ends, with the loss of a station standing in each state or not. -/
theorem witness_StartUpLimitGivesUpAbsentEntries :
    ∀ placed ∈ [[], [(5, fresh .peerLost 44)], [(5, { fresh .peerLost 44 with state := .clearedUnacked })],
        [(5, { fresh .supvLost 61 with state := .activeAcked })]],
      let s := withTable (running.setEntry 7 (some ⟨44, .absent, none⟩)) (tableOf placed)
      s.view.listenEntry = some 0#32 ∧ s.cfg.period ≤ 1000 ∧ settledNow s = true ∧ atMostNow 14 s = true ∧
      s.spread.records.map (fun r => r.operators.all fun o => decide (o.offset ≤ s.cfg.smax)) = some true ∧
      (∀ x ∈ [((0 : Fin 16), 7), (7, 44), (8, 60), (9, 61)], s.view.table[x.1] = some ⟨x.2, .absent, none⟩) ∧
      (∀ x ∈ [(FaultCode.peerLost, 7), (.peerLost, 44), (.supvLost, 60), (.supvLost, 61)],
        (findEntry (after .startUpLimit s).supervisor.table x.1 x.2).isSome = true) := by decide +kernel

/-- The node in RUN with `n` answers queued. -/
def answering (n : Nat) : State := running.setPort { running.port with answers := List.replicate n ⟨[], 1⟩ }

/-- An offset under the fill allowance, which the entries given up keep in use. -/
theorem witness_StartUpLimitGivesUpAbsentEntries_allowance :
    ∀ x ∈ [((24 : Int), SpreadMode.normal), (12, .off)],
      let s := (running.setEntry 7 (some ⟨44, .lost, none⟩)).setSpread
        ⟨some ⟨Vector.replicate 8 600, [⟨1, 600, x.1, false⟩, ⟨2, 600, 3, false⟩], x.2, .normal, 24⟩, 1⟩
      s.view.listenEntry = some 0#32 ∧ settledNow s = true ∧ atMostNow 14 s = true ∧
      (after .startUpLimit s).spread.lostCount = 4 ∧
      (after .startUpLimit s).spread.records.map (fun r => (r.smaxEff, r.operators.map OperatorRecord.offset)) =
        some (if x.2 = .off then 12 else 24, [x.1, 3]) := by decide +kernel

theorem witness_DirectiveChecksInOrder :
    (running.ctl.node ≠ .configFault ∧ 44 ∉ running.cfg.supervisors ∧ 60 ∈ running.cfg.supervisors) ∧
    (DirectiveKind.ofNumber 0 = none ∧ DirectiveKind.ofNumber 10 = none ∧ DirectiveKind.ofNumber 1 = some .restart ∧
      DirectiveKind.ofNumber 9 = some .spreadMode) ∧
    (listening.ctl.node = .listen ∧ 60 ∈ listening.cfg.supervisors) ∧ faulted.ctl.node = .configFault ∧
    (faulted.setCtl { faulted.ctl with image := .unusable none }).ownId = none ∧ faulted.ownId ≠ none ∧
    DirectiveKind.statusQuery.isQuery = true ∧ DirectiveKind.quiet.isQuery = false ∧
    judgeArguments .quiet [3#8, 1#8] = some .quiet ∧ judgeArguments .statusQuery [5#8, 1#8] = some .statusQuery ∧
    ([3#8, 1#8, 0#8] : List Byte).length ≠ DirectiveKind.quiet.length ∧
    (∀ x ∈ [(0#8 : Byte), 3#8], judgeArguments .faultAck [2#8, 1#8, x, 0#8, 0#8] = none ∧
      judgeArguments .tableRead [7#8, 1#8, x, 0#8, 1#8] = none) ∧
    judgeArguments .carrierMask [8#8, 1#8, 4#8, 0#8] = none ∧ judgeArguments .spreadMode [9#8, 1#8, 4#8] = none ∧
    3 ≤ (answering 3).port.answers.length ∧ (answering 2).port.answers.length < 3 := by decide +kernel

theorem witness_RefusedDirectiveIsOnlyRecorded :
    running.delivers 44#8 12#8 = true ∧ running.delivers 60#8 63#8 = true ∧
    (∀ kind ∈ [(1#8 : Byte), 2#8, 3#8, 4#8, 5#8, 6#8, 7#8, 8#8, 9#8, 10#8],
      running.judge 44#8 12#8 [kind] = .refused .notSupervisor) ∧
    namesADirective [10#8] = false ∧ namesADirective [] = false ∧ running.sourcePasses 60#8 = true ∧
    (∀ kind ∈ [(1#8 : Byte), 2#8, 3#8, 4#8, 8#8, 9#8, 10#8],
      running.judge 60#8 63#8 [kind] = .refused .badArgument) ∧
    (∀ kind ∈ [(5#8 : Byte), 6#8, 7#8], running.judge 60#8 63#8 [kind] = .refused .notAvailable) ∧
    (answering 3).judge 60#8 12#8 [5#8, 1#8] = .refused .busy := by decide +kernel

/-- Each judgement of an erase request: the region, what is in flight, what is pending, and whether the erase is started. -/
def eraseCases : List (RegionStatus × Option NvmOperation × Option CrashRecord × Bool) :=
  [(.foundValid, none, none, true), (.foundTorn true, none, none, true), (.foundTorn false, none, none, true),
   (.unknown, none, none, true), (.empty, none, none, false), (.written, none, none, false),
   (.foundValid, none, some record, false), (.foundValid, some (.crashErase 0 false), none, false),
   (.unknown, some (.crashWrite 0 record), none, false)]

/-- The node in RUN with PRIOR_TRIP standing, before an erase request. -/
def erasing (x : RegionStatus × Option NvmOperation × Option CrashRecord × Bool) : State :=
  (withTable running (tableOf [(23, fresh .priorTrip 1)])).setCtl
    { running.ctl with region := x.1, operation := x.2.1.map fun op => ⟨op, 0, 0#32⟩, pendingWrite := x.2.2.1 }

theorem witness_erase_requests :
    ∀ x ∈ eraseCases, ∀ y ∈ [([1#8, 0#8, 0#8], AckSelector.all), ([2#8, 15#8, 1#8], .one 15 1)],
      (erasing x).delivers 60#8 12#8 = true ∧
      (erasing x).judge 60#8 12#8 (2#8 :: 1#8 :: y.1) = .accepted (.faultAck y.2) ∧ settledNow (erasing x) = true ∧
      findEntry (erasing x).supervisor.table .priorTrip 1 = some (23, fresh .priorTrip 1) ∧
      ((after (.faultAck 60#8 12#8 (1#8 :: y.1)) (erasing x)).ctl.operation == some ⟨.crashErase 0 false, 0, 0#32⟩) =
        (x.2.2.2 || x.2.1 == some (.crashErase 0 false)) := by decide +kernel

theorem witness_FaultAckAllAcknowledgesEveryEntry :
    ∀ x ∈ [(FaultCode.detStuck, 3), (.vswrTrip, 0), (.priorTrip, 0)],
      ∀ state ∈ [EntryState.activeUnacked, .activeAcked, .clearedUnacked], ∀ trip ∈ [true, false],
      let s := withTable running (tableOf [(23, { fresh x.1 x.2 with state := state })])
      let s' := s.setScanner { s.scanner with vswrTrip := trip }
      s'.delivers 60#8 12#8 = true ∧ s'.judge 60#8 12#8 [2#8, 1#8, 1#8, 0#8, 0#8] = .accepted (.faultAck .all) ∧
      settledNow s' = true ∧ s'.scanner.vswrTrip = trip := by decide +kernel

/-- An ordinary code in each state and an ack-cleared one; a selector that matches no entry, of the catalog and outside it. -/
theorem witness_FaultAckOneActsOnItsEntry :
    (∀ x ∈ [(FaultCode.detStuck, 3, EntryState.activeUnacked), (.detStuck, 3, .activeAcked), (.detStuck, 3, .clearedUnacked),
        (.vswrTrip, 0, .activeUnacked), (.vswrTrip, 0, .clearedUnacked), (.storeFail, 3, .activeUnacked)], ∀ trip ∈ [true, false],
      let s0 := withTable running (tableOf [(0, { fresh x.1 x.2.1 with state := x.2.2 })])
      let s := s0.setScanner { s0.scanner with vswrTrip := trip }
      s.delivers 60#8 12#8 = true ∧
      s.judge 60#8 12#8 [2#8, 1#8, 2#8, byteOf x.1.number, byteOf x.2.1] = .accepted (.faultAck (.one x.1.number x.2.1)) ∧
      findEntry s.supervisor.table x.1 x.2.1 = some (0, { fresh x.1 x.2.1 with state := x.2.2 }) ∧ settledNow s = true ∧
      findEntry s.supervisor.table .vswrTrip 1 = none) ∧
    (∀ number ∈ [(0#8 : Byte), 17#8, 255#8], running.judge 60#8 12#8 [2#8, 1#8, 2#8, number, 0#8] =
      .accepted (.faultAck (.one number.toNat 0))) ∧
    (∀ number ∈ [0, 17, 255], FaultCode.ofNumber number = none) ∧
    (holding .vswrWarn 0 .activeAcked).supervisor.alarm = false := by decide +kernel

/-- The node of section 5.6 of chapter 5 meets every premise: with three carriers that fit, with one to be shed, with one to be readmitted, and
with every slot muted. -/
theorem witness_CarrierMaskSetsFlagsAndMutes_recompute :
    (∀ x ∈ [(worked 120 (tableOf []) [.active 96 96, .active 99 90, .active 105 84], (0#8 : Byte)),
        (worked 108 (tableOf [(0, fresh .tempHigh 0)]) [.active 96 96, .active 99 99, .active 105 105], 0#8),
        (worked 108 (tableOf [(0, fresh .tempHigh 0), (1, fresh .floorShed 2)]) [.active 96 96, .active 96 96, .shed], 1#8),
        (worked 108 (tableOf [(0, fresh .tempHigh 0)]) [.active 96 96, .active 96 96, .shed], 7#8)],
      x.1.delivers 60#8 12#8 = true ∧
      x.1.judge 60#8 12#8 [8#8, 1#8, 1#8, x.2] = .accepted (.carrierMask .mute x.2) ∧
      settledNow x.1 = true ∧ distinctNow x.1 = true ∧ atMostNow 16 x.1 = true ∧
      (after (.carrierMask 60#8 12#8 [1#8, 1#8, x.2]) x.1).alloc.beff = x.1.alloc.beff ∧ x.1.alloc.beff ≠ none ∧
      ∀ i : Fin 8, ∀ c ∈ x.1.cfg.slots[i], c.floor ≤ c.ceiling ∧ c.ceiling ≤ 143) ∧
    (worked 120 (tableOf []) []).cfg.smin ≤ 0 := by decide +kernel

/-- Every form; then all carriers muted, so that no slot stays ACTIVE. -/
theorem witness_CarrierMaskSetsFlagsAndMutes :
    (∀ x ∈ [((1#8 : Byte), MaskForm.mute), (2#8, .unmute), (3#8, .flip)],
      running.delivers 60#8 12#8 = true ∧
      running.judge 60#8 12#8 [8#8, 1#8, x.1, 255#8] = .accepted (.carrierMask x.2 255#8) ∧
      (after (.carrierMask 60#8 12#8 [1#8, x.1, 255#8]) running).alloc.down = false ∧
      (after (.carrierMask 60#8 12#8 [1#8, x.1, 255#8])
        (running.setAlloc { running.alloc with down := true })).alloc.down = true) ∧
    anyActive running.alloc.slots = true ∧ running.alloc.slots[0].isActive = true ∧
    (let t := after (.carrierMask 60#8 12#8 [1#8, 1#8, 3#8]) running;
      t.alloc.slots[0].isActive = false ∧ anyActive t.alloc.slots = false ∧ t.writer.paEnable = false) := by decide +kernel

theorem witness_SpreadModeSetsThePendingMode :
    running.delivers 60#8 12#8 = true ∧ running.spread.records.isSome = true ∧
    (∀ x ∈ [((0#8 : Byte), SpreadMode.off), (3#8, .surge)],
      running.judge 60#8 12#8 [9#8, 1#8, x.1] = .accepted (.spreadMode x.2)) := by decide +kernel

theorem witness_QuietWithdrawsAndSpeakAllowsBeacons :
    (∀ s ∈ [running, sending .beacon .kept [] (some 1), sending .answer .kept [⟨[], 1⟩] (some 1),
        sending .answer .kept [⟨[], 1⟩] none, withTx running (.gap none), withTx running (.countdown 1),
        running.setPort { running.port with quiet := true }],
      s.delivers 60#8 12#8 = true ∧ s.judge 60#8 12#8 [3#8, 1#8] = .accepted .quiet ∧
      s.judge 60#8 12#8 [4#8, 1#8] = .accepted .speak) ∧
    running.port.quiet = false ∧ (sending .beacon .kept [] (some 1)).port.quiet = false ∧
    (sending .answer .kept [⟨[], 1⟩] (some 1)).port.tx = .sending ⟨.answer, [], .kept⟩ ∧
    (running.setPort { running.port with quiet := true }).port.quiet = true := by decide +kernel

/-- With nothing in flight; with a write, an erase, an erase with a write behind it, and a failing operation. -/
theorem witness_RestartEntersLoadOrIsDeferred :
    (running.delivers 60#8 12#8 = true ∧ running.judge 60#8 12#8 [1#8, 1#8] = .accepted .restart ∧
      running.ctl.operation = none ∧ running.port.noiseStanding = false ∧ running.view.clash = none ∧
      running.supervisor.reCreditDue = false ∧ running.scanner.releaseNotice = false) ∧
    (∀ x ∈ [(NvmOperation.crashWrite 2 record, 0), (.crashErase 2 false, 0), (.crashWrite 0 record, 2), (.crashErase 1 true, 2)],
      ∀ waiting ∈ [none, some record],
      let s0 := withOperation running x.1 x.2
      let s := s0.setCtl { s0.ctl with pendingWrite := waiting }
      s.delivers 60#8 12#8 = true ∧ s.judge 60#8 12#8 [1#8, 1#8] = .accepted .restart ∧ s.ctl.operation ≠ none ∧
      s.ctl.operation = some ⟨x.1, x.2, 0#32⟩ ∧ s.ctl.storeWait = false ∧ s.store.wf ∧ s.ctl.pendingWrite = waiting ∧
      (after (.restart 60#8 12#8 [1#8]) s).ctl.deferredRestart = true) := by decide +kernel

/-- TRUNK_NOISE and a clash that stand, or neither, at the last counts before their clears; the marks that are kept. -/
theorem witness_RestartEntersLoadOrIsDeferred_kept :
    ∀ noise ∈ [(false, 4), (true, 3)], ∀ clash ∈ [(none, 16), (some 12, 15)],
      ∀ state ∈ [EntryState.activeUnacked, .activeAcked, .clearedUnacked],
      let s0 := withTable running (tableOf [(0, { fresh .trunkNoise 0 with state := state }), (1, fresh .tempHigh 0),
        (23, { fresh .trunkBusy 0 with state := state })])
      let s := ((s0.setPort { s0.port with noiseStanding := noise.1, cleanRun := noise.2 }).setView
        { s0.view with clash := clash.1, clashCount := clash.2 }).setScanner
          { s0.scanner with stuck := s0.scanner.stuck.set 3 ⟨5, 0, true⟩, vswrWarn := true, tempWarn := true, tempHigh := true }
      let t := after (.restart 60#8 12#8 [1#8]) s
      s.delivers 60#8 12#8 = true ∧ s.judge 60#8 12#8 [1#8, 1#8] = .accepted .restart ∧ s.ctl.operation = none ∧
      (s.port.noiseStanding = false ∨ s.port.cleanRun < 4) ∧ (s.view.clash = none ∨ s.view.clashCount < 16) ∧
      s.supervisor.reCreditDue = false ∧ s.scanner.releaseNotice = false ∧ settledNow s = true ∧
      t.supervisor.table[0].map FaultEntry.state = (if state = .activeAcked then none else some .clearedUnacked) ∧
      t.alloc.derating = s.alloc.derating ∧ t.alloc.derating ≠ 0 ∧ t.view.clashCount = clash.2 := by decide +kernel

/-- The snapshot that the node would take for TEMP_LIMIT. -/
def shot : Snapshot := running.takeSnapshot .tempLimit 0 9#32

theorem witness_QueriesQueueTheirAnswers :
    running.delivers 60#8 12#8 = true ∧ running.judge 60#8 12#8 [5#8, 1#8] = .accepted .statusQuery ∧
    running.judge 60#8 12#8 [6#8, 1#8] = .accepted .snapshotQuery ∧ running.supervisor.snapshot = none ∧
    (running.setSupervisor { running.supervisor with snapshot := some shot }).supervisor.snapshot = some shot ∧
    shot.operators[0]? = some (1, 600, 0) ∧ shot.operators[1]? = some (2, 600, 3) ∧
    (running.setSupervisor { running.supervisor with snapshot := some shot }).judge 60#8 12#8 [6#8, 1#8]
      = .accepted .snapshotQuery := by decide +kernel

theorem witness_StatusBodyLayout :
    State.reset.spread.records = none ∧ running.spread.records.isSome = true ∧ running.ctl.operation = none ∧
    State.reset.ctl.operation = some ⟨.configRead, 0, 0#32⟩ ∧ running.handler.lastRefusal = none ∧
    (running.setHandler ⟨some ⟨.busy, 5#8, 60#8, 9#32⟩⟩).handler.lastRefusal = some ⟨.busy, 5#8, 60#8, 9#32⟩ := by
  decide +kernel

theorem witness_TableReadReturnsPositionsAndMovesTheCursor :
    running.delivers 60#8 12#8 = true ∧
    (∀ x ∈ [((1#8 : Byte), TableName.neighbour), (2#8, .fault)], ∀ y ∈ [((0#8 : Byte), some 0), (15#8, some 15), (23#8, some 23),
        (254#8, some 254), (255#8, none)], ∀ count ∈ [(0#8 : Byte), 1#8, 4#8, 5#8, 255#8],
      running.judge 60#8 12#8 [7#8, 1#8, x.1, y.1, count] = .accepted (.tableRead x.2 y.2 count.toNat)) ∧
    (answering 3).judge 60#8 12#8 [7#8, 1#8, 1#8, 0#8, 1#8] = .refused .busy ∧ (answering 3).delivers 60#8 12#8 = true ∧
    (running.cursorPair 60#8 = .first ∧ running.cursorPair 61#8 = .second ∧ running.cursorPair 44#8 = .shared ∧
      faulted.cursorPair 60#8 = .shared) ∧
    (running.view.table[0] = some ⟨7, .absent, none⟩ ∧ running.view.table[15] = none ∧
      (∀ state ∈ [Presence.live, .suspect, .lost],
        ((hearing state).view.table[0].map fun n => (n.state, n.heard.isSome)) = some (state, true)) ∧
      running.supervisor.table[23] = none ∧ reporting.supervisor.table[23] = some (fresh .peerLost 7)) := by decide +kernel

/-! The invariants: the node in RUN, both carriers on, with a ramp tick at the front of the queue. -/

/-- The node in RUN with a ramp tick waiting. -/
def ticking : State := running.setPending [.rampTick]

theorem test_ticking_steps : ∃ t, step ticking = .next t := ⟨_, rfl⟩

theorem witness_EveryStepKeepsTheStoreCanonical :
    (ticking.setStore ⟨[(0, 0xC7#8), (128, 0xFD#8)]⟩).store.wf := by decide

theorem witness_EveryStepKeepsOutputsFollowingTheTable : ticking.OutputsFollow := ⟨by decide, by decide, by decide⟩

theorem witness_EveryStepKeepsEntriesDistinct : ticking.EntriesDistinct := by unfold State.EntriesDistinct; decide

theorem test_ticking_image : ticking.ImageInRange := by
  rintro im ⟨rfl⟩
  exact ⟨by decide +kernel, by decide⟩

theorem witness_EveryStepKeepsCarriersWithinBudget : ticking.WithinBudget where
  reads := trivial
  image := test_ticking_image
  taken := by decide
  beff := by decide
  off := by decide
  order := by
    intro i target applied h
    fin_cases i <;> cases h
    · exact ⟨⟨1, 0, 100, 80, 120, 300⟩, rfl, by decide, by decide, by decide⟩
    · exact ⟨⟨2, 1, 90, 70, 110, 300⟩, rfl, by decide, by decide, by decide⟩
  fits := by decide +kernel
  allocated := fun _ =>
    { absent := by decide +kernel
      down := fun h => absurd h (by decide)
      muted := by
        intro _ i c _ h
        fin_cases i <;> cases h
      candidates := by
        intro _ i c h _
        fin_cases i <;> cases h <;> decide +kernel
      targets := by
        refine ⟨0, by decide +kernel, fun q h => absurd h (Nat.not_lt_zero q), ?_⟩
        intro i c target applied h slot
        fin_cases i <;> cases h <;> cases slot <;> decide
      flags := by
        intro k flag _
        have free : ¬ ∃ (i : Fin 8) (c : SlotConfig), ticking.cfg.slots[i] = some c ∧ c.operator = k ∧
            c.Constrains ticking.alloc.offsets ticking.alloc.slots[i] := by
          rintro ⟨i, c, h, -, constrained⟩
          fin_cases i <;> cases h <;> rcases constrained with idle | ⟨target, h, lower⟩ | above
          · cases idle
          · cases h; exact absurd lower (by decide)
          · exact absurd above (by decide)
          · cases idle
          · cases h; exact absurd lower (by decide)
          · exact absurd above (by decide)
        have present : (∃ (i : Fin 8) (c : SlotConfig), ticking.cfg.slots[i] = some c ∧ c.operator = k) ↔ k = 1 ∨ k = 2 := by
          refine ⟨?_, ?_⟩
          · rintro ⟨i, c, h, rfl⟩
            fin_cases i <;> cases h <;> decide
          · rintro (rfl | rfl)
            exacts [⟨0, _, rfl, rfl⟩, ⟨1, _, rfl, rfl⟩]
        have handed : (k, flag) ∈ ticking.alloc.flags ↔ (k = 1 ∨ k = 2) ∧ flag = false := by
          have flags : ticking.alloc.flags = [(1, false), (2, false)] := rfl
          rw [flags]; simp; tauto
        simp only [present, handed, free, iff_false, Bool.not_eq_true] }

/-- A node with one slot SHED, one MUTED and one fitted below its raw target. -/
theorem witness_EveryStepKeepsCarriersWithinBudget_shed :
    let t := after (.carrierMask 60#8 12#8 [1#8, 1#8, 1#8])
      (worked 106 (tableOf []) [.active 96 96, .active 96 96, .active 98 84])
    t.ctl.node = .run ∧ t.alloc.slots.toList.take 3 = [.muted, .active 90 90, .active 96 84] := by decide +kernel

theorem witness_EveryStepKeepsTheAmplifierOffWithoutCarriers : ticking.AmplifierSafe := ⟨by decide, by decide⟩

/-- One output that is held, one that waits, and a write in flight with a newer value behind it. -/
def writingOut : State :=
  ticking.setWriter { ticking.writer with
    held := Vector.replicate 8 (some .mute) |>.set 0 (some (.code 80)) |>.set 1 (some (.code 69))
    dirty := (Vector.replicate 8 none).set 1 (some ⟨.code 70, false⟩)
    inFlight := some ⟨1, .code 69, false⟩
    transceiver := Vector.ofFn fun i => some (driveWord i (if i.val = 0 then .code 80 else .mute)) }

theorem witness_EveryStepKeepsTheAmplifierOffWithoutCarriers_outputs : writingOut.OutputsReachWriter where
  reads := trivial
  taken := by decide
  idle := by decide
  outputs := by
    intro i
    fin_cases i
    · exact .inr ⟨by decide, by decide +kernel⟩
    · exact .inl ⟨⟨.code 70, false⟩, by decide, by decide +kernel⟩
    all_goals exact .inr ⟨by decide, by decide +kernel⟩
  flight := by rintro f ⟨⟩; decide
  settings := by
    intro i value held free
    have other : i ≠ 1 := (free _ rfl).symm
    fin_cases i <;> cases held
    · decide +kernel
    · exact absurd rfl other
    all_goals decide +kernel

theorem witness_EveryStepKeepsOffsetsInLimits : ticking.OffsetsInLimits where
  reads := trivial
  image := test_ticking_image
  run := by decide
  cleared := by intro h; cases h
  handed := by decide +kernel
  limit := by rintro r ⟨rfl⟩; decide
  inLimits := by rintro r ⟨rfl⟩; decide

theorem witness_EveryStepKeepsTheQueueInBounds : (answering 3).port.QueueInBounds where
  room := by decide
  answers := by decide
  beacon := by rintro n ⟨⟩

theorem witness_EveryStepKeepsThePortByNodeState : ticking.PortByNodeState where
  reads := trivial
  receiver := by decide
  silent := by decide
  sends := by decide

end Sys2Proof.Tests
end

section
/-! PROOFS. The loads at an epoch close (R60, R61). -/

namespace Sys2Proof.Machine

/-! ### The records but for their constrained flags

A recompute writes the controller's records in one way only: it hands the constrained flags (R75, R96). So the records without
these flags stand through every raise, every clear and every recompute. -/

/-- An operator record without its constrained flag. -/
def OperatorRecord.unflagged (o : OperatorRecord) : OperatorRecord := { o with constrained := false }

/-- The controller's records without their constrained flags. -/
def SpreadRun.unflagged (r : SpreadRun) : SpreadRun := { r with operators := r.operators.map OperatorRecord.unflagged }

/-- The spreading controller without the constrained flags of its records. -/
def Spread.unflagged (p : Spread) : Spread := { p with records := p.records.map SpreadRun.unflagged }

theorem SpreadRun.loads_eq_of_unflagged_eq {r r' : SpreadRun} (same : r'.unflagged = r.unflagged) : r'.loads = r.loads :=
  (congrArg SpreadRun.loads same : r'.unflagged.loads = r.unflagged.loads)

/-- What is read of the operator records apart from their flags agrees where the records agree but for the flags. -/
theorem SpreadRun.operators_map_eq_of_unflagged_eq {α : Type} {r r' : SpreadRun} (same : r'.unflagged = r.unflagged)
    (read : OperatorRecord → α) (blind : ∀ o : OperatorRecord, read o.unflagged = read o) :
    r'.operators.map read = r.operators.map read := by
  have reads (q : SpreadRun) : q.unflagged.operators.map read = q.operators.map read := by
    simp [SpreadRun.unflagged, blind]
  rw [← reads r', same, reads r]

theorem Spread.records_of_unflagged_eq {p q : Spread} (same : p.unflagged = q.unflagged) {r : SpreadRun}
    (held : q.records = some r) : ∃ r', p.records = some r' ∧ r'.unflagged = r.unflagged := by
  have records : p.records.map SpreadRun.unflagged = q.records.map SpreadRun.unflagged := congrArg Spread.records same
  rwa [held, Option.map_some, Option.map_eq_some_iff] at records

theorem mirror_unflagged (flags : List (Nat × Bool)) (o : OperatorRecord) : (mirror flags o).unflagged = o.unflagged := by
  unfold mirror
  split <;> rfl

theorem Spread.takeFlags_unflagged (p : Spread) (flags : List (Nat × Bool)) : (p.takeFlags flags).unflagged = p.unflagged := by
  cases h : p.records <;> simp [Spread.takeFlags, Spread.unflagged, SpreadRun.unflagged, mirror_unflagged, h]

/-! ### What one change of the fault table leaves of the controller -/

@[simp] theorem State.setTable_spread (s : State) (t : FaultTable) : (s.setTable t).spread = s.spread := rfl

@[simp] theorem State.serious_spread (s : State) (code : FaultCode) (subject : Nat) (stamp : EpochCount) :
    (s.serious code subject stamp).spread = s.spread := by
  unfold State.serious
  repeat' split
  all_goals rfl

@[simp] theorem State.tripped_spread (s : State) (code : FaultCode) (subject : Nat) (stamp : EpochCount) :
    (s.tripped code subject stamp).spread = s.spread := by
  unfold State.tripped
  split <;> rfl

@[simp] theorem State.handDerating_spread (s : State) (level : Nat) : (s.handDerating level).spread = s.spread := by
  unfold State.handDerating
  repeat' split
  all_goals rfl

@[simp] theorem State.handDown_spread (s : State) (down : Bool) : (s.handDown down).spread = s.spread := by
  unfold State.handDown
  split <;> rfl

@[simp] theorem State.handOutputs_spread (s : State) : s.handOutputs.spread = s.spread := by simp [State.handOutputs]

@[simp] theorem State.raiseOnly_spread (s : State) (code : FaultCode) (subject : Nat) :
    (s.raiseOnly code subject).spread = s.spread := by
  simp only [State.raiseOnly, State.handOutputs_spread]
  split <;> simp

@[simp] theorem State.clearOnly_spread (s : State) (code : FaultCode) (subject : Nat) :
    (s.clearOnly code subject).spread = s.spread := by simp [State.clearOnly]

/-! ### Recomputes hand the flags and nothing else -/

theorem State.reallocate_unflagged (s : State) : s.reallocate.spread.unflagged = s.spread.unflagged :=
  Spread.takeFlags_unflagged _ _

@[simp] theorem State.floorShed_spread (s : State) (before : Vector SlotState 8) (slot : Fin 8) :
    (s.floorShed before slot).spread = s.spread := by
  unfold State.floorShed
  dsimp only
  repeat' split
  all_goals simp

@[simp] theorem State.floorsShed_spread (s : State) (before : Vector SlotState 8) (slots : List (Fin 8)) :
    (s.floorsShed before slots).spread = s.spread := by
  induction slots generalizing s with
  | nil => rfl
  | cons slot rest ih => exact (ih _).trans (s.floorShed_spread before slot)

theorem State.recompute_unflagged (s : State) : s.recompute.spread.unflagged = s.spread.unflagged := by
  rw [State.recompute, State.floorsShed_spread, State.reallocate_unflagged]

theorem State.settleFuel_unflagged (fuel : Nat) (s : State) :
    (State.settleFuel fuel s).spread.unflagged = s.spread.unflagged := by
  induction fuel generalizing s with
  | zero => unfold State.settleFuel; split; exacts [s.reallocate_unflagged, rfl]
  | succ n ih => unfold State.settleFuel; split; exacts [(ih _).trans s.recompute_unflagged, rfl]

@[simp] theorem State.settle_unflagged (s : State) : s.settle.spread.unflagged = s.spread.unflagged :=
  State.settleFuel_unflagged 4 s

@[simp] theorem State.raise_unflagged (s : State) (code : FaultCode) (subject : Nat) :
    (s.raise code subject).spread.unflagged = s.spread.unflagged := by simp [State.raise]

@[simp] theorem State.clear_unflagged (s : State) (code : FaultCode) (subject : Nat) :
    (s.clear code subject).spread.unflagged = s.spread.unflagged := by simp [State.clear]

@[simp] theorem State.handOffsets_unflagged (s : State) (set : List (Nat × Int)) :
    (s.handOffsets set).spread.unflagged = s.spread.unflagged := by simp [State.handOffsets, State.recomputeNow]

/-! ### The work of an expiry beside the close -/

@[simp] theorem State.settleNoise_unflagged (s : State) : s.settleNoise.spread.unflagged = s.spread.unflagged := by
  unfold State.settleNoise
  split <;> simp

@[simp] theorem State.closeNoiseWindow_unflagged (s : State) : s.closeNoiseWindow.spread.unflagged = s.spread.unflagged := by
  simp [State.closeNoiseWindow]

@[simp] theorem State.settleClash_unflagged (s : State) : s.settleClash.spread.unflagged = s.spread.unflagged := by
  unfold State.settleClash
  repeat' split
  all_goals simp

@[simp] theorem State.countClash_unflagged (s : State) : s.countClash.spread.unflagged = s.spread.unflagged := by
  unfold State.countClash
  dsimp only
  split <;> simp

@[simp] theorem State.settleReCredit_spread (s : State) : s.settleReCredit.spread = s.spread := by
  unfold State.settleReCredit
  split <;> rfl

@[simp] theorem State.countReCredit_spread (s : State) : s.countReCredit.spread = s.spread := by
  unfold State.countReCredit
  dsimp only
  split <;> simp

@[simp] theorem State.dropBeacon_unflagged (s : State) : s.dropBeacon.spread.unflagged = s.spread.unflagged := by
  unfold State.dropBeacon
  dsimp only
  split <;> simp

@[simp] theorem State.supersedeBeacon_unflagged (s : State) : s.supersedeBeacon.spread.unflagged = s.spread.unflagged := by
  unfold State.supersedeBeacon
  repeat' split
  all_goals simp

@[simp] theorem State.supersedeRequest_unflagged (s : State) : s.supersedeRequest.spread.unflagged = s.spread.unflagged := by
  unfold State.supersedeRequest
  split <;> simp

@[simp] theorem State.requestBeacon_unflagged (s : State) : s.requestBeacon.spread.unflagged = s.spread.unflagged := by
  unfold State.requestBeacon
  split <;> simp [State.drawn]

@[simp] theorem State.expiryWork_unflagged (s : State) : s.expiryWork.spread.unflagged = s.spread.unflagged := by
  simp [State.expiryWork]

/-! ### The records after an expiry in RUN -/

theorem exec_epochExpiry (s : State) : exec .epochExpiry s = .next s.runExpiry := rfl

theorem State.spreadClose_unflagged (s : State) (occupancy : Fin 8 → Option Nat) {r : SpreadRun} (held : s.spread.records = some r) :
    (s.spreadClose occupancy).spread.unflagged =
      { s.spread with records := some (closeRecords s.cfg s.view s.spread.lostCount s.ctl.epoch occupancy r).unflagged } := by
  simp only [State.spreadClose, held, State.handOffsets_unflagged]
  rfl

@[simp] theorem State.epochMoment_spread (s : State) (moment : Ms) (interval : Nat) :
    (s.epochMoment moment interval).spread = s.spread := rfl
@[simp] theorem State.epochMoment_cfg (s : State) (moment : Ms) (interval : Nat) :
    (s.epochMoment moment interval).cfg = s.cfg := rfl
@[simp] theorem State.epochMoment_view (s : State) (moment : Ms) (interval : Nat) :
    (s.epochMoment moment interval).view = s.view := rfl
@[simp] theorem State.epochMoment_epoch (s : State) (moment : Ms) (interval : Nat) :
    (s.epochMoment moment interval).ctl.epoch = s.ctl.epoch := rfl
@[simp] theorem State.epochMoment_occupancyItem (s : State) (moment : Ms) (interval : Nat) :
    (s.epochMoment moment interval).occupancyItem = s.occupancyItem := rfl

/-- The records after the expiry of the epoch timer are those of the close, but for the flags that the recomputes handed. -/
theorem State.runExpiry_records {s : State} {moment : Ms} {r : SpreadRun} (run : s.ctl.node = .run)
    (timer : s.ctl.epochTimer = some moment) (held : s.spread.records = some r) :
    ∃ r', s.runExpiry.spread.records = some r' ∧
      r'.unflagged = (closeRecords s.cfg s.view s.spread.lostCount s.ctl.epoch s.occupancyItem r).unflagged := by
  have expiry : s.runExpiry = (s.epochMoment moment s.cfg.period).closeEpoch := by simp [State.runExpiry, run, timer]
  have close (u : State) : u.closeEpoch.spread.unflagged = (u.spreadClose u.occupancyItem).spread.unflagged :=
    State.expiryWork_unflagged _
  refine Spread.records_of_unflagged_eq
    (q := { s.spread with records := some (closeRecords s.cfg s.view s.spread.lostCount s.ctl.epoch s.occupancyItem r) }) ?_ rfl
  rw [expiry, close, State.spreadClose_unflagged (held := (congrArg Spread.records (s.epochMoment_spread _ _)).trans held)]
  simp [Spread.unflagged]

/-! ### The load of a slot (R49, R60) -/

theorem closeRecords_loads (image : Image) (view : View) (lostCount : Nat) (n : EpochCount) (occupancy : Fin 8 → Option Nat)
    (r : SpreadRun) (i : Fin 8) : (closeRecords image view lostCount n occupancy r).loads[i] = smooth r.loads[i] (occupancy i) :=
  tab_getElem _ _

theorem State.occupancyItem_of_stuck {s : State} {i : Fin 8} (stuck : s.stuckStands (channelOf i) = true) :
    s.occupancyItem i = none := by
  unfold State.occupancyItem
  split
  · rfl
  · rw [if_pos stuck]

theorem State.occupancyItem_of_free {s : State} {i : Fin 8} {c : SlotConfig} (present : s.cfg.slots[i] = some c)
    (free : s.stuckStands (channelOf i) = false) :
    s.occupancyItem i = some ((s.scanner.windows[i]).occupancy i s.ctl.epoch) := by
  simp [State.occupancyItem, present, free]

theorem Window.occupancy_of_samples {w : Window} (sampled : w.samples ≠ 0) (slot : Fin 8) (epoch : EpochCount) :
    w.occupancy slot epoch = w.active * 1000 / w.samples := if_neg sampled

/-- An occupancy is a figure of 0 to 1000 (R49). -/
theorem Window.occupancy_le {w : Window} (counted : w.active ≤ w.samples) (slot : Fin 8) (epoch : EpochCount) :
    w.occupancy slot epoch ≤ 1000 := by
  by_cases sampled : w.samples = 0
  · rw [Window.occupancy, if_pos sampled]
    exact Nat.min_le_left _ _
  · rw [Window.occupancy_of_samples sampled]
    exact Nat.div_le_of_le_mul (Nat.mul_le_mul_right 1000 counted)

theorem State.occupancyItem_le {s : State} {i : Fin 8} (counted : (s.scanner.windows[i]).active ≤ (s.scanner.windows[i]).samples) :
    ∀ occupancy ∈ s.occupancyItem i, occupancy ≤ 1000 := by
  intro occupancy item
  unfold State.occupancyItem at item
  split at item
  · cases item
  · split at item <;> cases item
    exact Window.occupancy_le counted _ _

/-- Smoothing takes a load past no bound of 999 or more that it was within. A lower bound can be passed: an occupancy of 1000 takes
998 to 999 (R60). -/
theorem smooth_le {bound load : Nat} {item : Option Nat} (high : 999 ≤ bound) (within : load ≤ bound)
    (figure : ∀ occupancy ∈ item, occupancy ≤ 1000) : smooth load item ≤ bound := by
  cases item with
  | none => exact within
  | some occupancy =>
    have : occupancy ≤ 1000 := figure occupancy rfl
    simp only [smooth]
    omega

/-! ### The load of an operator (R61) -/

theorem le_operatorLoad {image : Image} {i : Fin 8} {c : SlotConfig} (loads : Vector Nat 8) (present : image.slots[i] = some c) :
    loads[i] ≤ operatorLoad image loads c.operator := by
  have member := List.mem_finRange i
  unfold operatorLoad
  generalize List.finRange 8 = slots at member ⊢
  induction slots with
  | nil => cases member
  | cons j rest ih =>
    rw [List.foldr_cons]
    obtain rfl | later := List.mem_cons.mp member
    · simp [present]
    · have below := ih later
      split
      · split
        · exact below.trans (Nat.le_max_right _ _)
        · exact below
      · exact below

theorem operatorLoad_eq_zero_or (image : Image) (loads : Vector Nat 8) (operator : Nat) :
    operatorLoad image loads operator = 0 ∨ ∃ (i : Fin 8) (c : SlotConfig),
      image.slots[i] = some c ∧ c.operator = operator ∧ operatorLoad image loads operator = loads[i] := by
  unfold operatorLoad
  induction List.finRange 8 with
  | nil => exact .inl rfl
  | cons j rest ih =>
    rw [List.foldr_cons]
    split
    next c present =>
      split
      next own =>
        obtain larger | larger := max_choice loads[j] (rest.foldr _ 0)
        · exact .inr ⟨j, c, present, own, larger⟩
        · rw [larger]; exact ih
      next => exact ih
    next => exact ih

/-- The load of an operator is that of one of its present slots, or 0 where it has none. -/
theorem operatorLoad_attained (image : Image) (loads : Vector Nat 8) (operator : Nat) :
    (∃ (i : Fin 8) (c : SlotConfig), image.slots[i] = some c ∧ c.operator = operator ∧ operatorLoad image loads operator = loads[i]) ∨
      ((∀ (i : Fin 8) (c : SlotConfig), image.slots[i] = some c → c.operator ≠ operator) ∧ operatorLoad image loads operator = 0) := by
  obtain zero | attained := operatorLoad_eq_zero_or image loads operator
  · by_cases served : ∃ (i : Fin 8) (c : SlotConfig), image.slots[i] = some c ∧ c.operator = operator
    · obtain ⟨i, c, present, rfl⟩ := served
      have le := le_operatorLoad loads present
      exact .inl ⟨i, c, present, rfl, by omega⟩
    · exact .inr ⟨fun i c present own => served ⟨i, c, present, own⟩, zero⟩
  · exact .inl attained

/-- After a close each operator record holds the load that R61 forms from the new loads of the slots. -/
theorem closeRecords_operatorLoads (image : Image) (view : View) (lostCount : Nat) (n : EpochCount) (occupancy : Fin 8 → Option Nat)
    (r : SpreadRun) :
    let closed := closeRecords image view lostCount n occupancy r
    closed.operators.map (fun o => (o.operator, o.load)) =
      r.operators.map fun o => (o.operator, operatorLoad image closed.loads o.operator) := by
  simp [closeRecords, closeOperator, Function.comp_def]

/-- Settles O28: the loads are those of the close, which the recompute after it and the other work of the expiry leave alone. -/
theorem epochCloseSmoothsLoads : Obligations.EpochCloseSmoothsLoads := by
  unfold Obligations.EpochCloseSmoothsLoads
  intro s moment r run timer held
  obtain ⟨r', records, same⟩ := State.runExpiry_records run timer held
  have load (i : Fin 8) : r'.loads[i] = smooth r.loads[i] (s.occupancyItem i) := by
    rw [SpreadRun.loads_eq_of_unflagged_eq same]
    exact closeRecords_loads ..
  have operators : r'.operators.map (fun o => (o.operator, o.load)) =
      r.operators.map fun o => (o.operator, operatorLoad s.cfg r'.loads o.operator) := by
    rw [SpreadRun.loads_eq_of_unflagged_eq same, SpreadRun.operators_map_eq_of_unflagged_eq same _ fun _ => rfl]
    exact closeRecords_operatorLoads ..
  refine ⟨_, r', exec_epochExpiry s, records, fun i c present => ⟨fun stuck => ?_, fun free sampled => ?_, fun counted within => ?_,
    fun counted within => ?_⟩, ?_, fun o member => ?_⟩
  · rw [load, State.occupancyItem_of_stuck stuck, smooth]
  · rw [load, State.occupancyItem_of_free present free, Window.occupancy_of_samples sampled, smooth]
  · rw [load]
    exact smooth_le (by decide) within (State.occupancyItem_le counted)
  · rw [load]
    exact smooth_le le_rfl within (State.occupancyItem_le counted)
  · simpa [Function.comp_def] using congrArg (List.map Prod.fst) operators
  · have formed : o.load = operatorLoad s.cfg r'.loads o.operator := by
      have mapped := List.mem_map_of_mem (f := fun o : OperatorRecord => (o.operator, o.load)) member
      rw [operators] at mapped
      obtain ⟨p, -, pair⟩ := List.mem_map.mp mapped
      obtain ⟨operator, load⟩ := Prod.mk.inj pair
      rw [← load, operator]
    rw [formed]
    exact ⟨fun i c present own => own ▸ le_operatorLoad _ present, operatorLoad_attained ..⟩

end Sys2Proof.Machine
end

section
/-! PROOFS. ALARM, the derating level and DOWN follow the fault table through every command (R126, R128, R129, R130). -/

namespace Sys2Proof.Machine

/-! ### Outputs and credits

The outputs of the table read nothing of an entry but its code and its state. So a change of credits alone leaves them (R152, R154). -/

theorem tab_toList {α : Type} {n : Nat} (f : Fin n → α) : (tab n f).toList = (List.finRange n).map f := by
  rw [Vector.toList_eq_finRange]
  exact List.map_congr_left fun i _ => tab_getElem f i

/-- The table with `f` applied to every entry, each at its position. -/
def mapEntries (f : FaultEntry → FaultEntry) (t : FaultTable) : FaultTable := tab 24 fun i => (t[i]).map f

theorem spendCredits_eq (t : FaultTable) (carried : List (FaultCode × Nat)) : spendCredits t carried =
    mapEntries (fun e => if carried.contains e.key then { e with credit := e.credit - 1 } else e) t := rfl

theorem renewCredits_eq (t : FaultTable) :
    renewCredits t = mapEntries (fun e => if e.alarms then { e with credit := max e.credit 1 } else e) t := rfl

theorem entries_mapEntries (f : FaultEntry → FaultEntry) (t : FaultTable) : entries (mapEntries f t) = (entries t).map f := by
  simp [entries, mapEntries, tab_toList, Vector.toList_eq_finRange t, List.filterMap_map, List.map_filterMap]

/-- `f` changes neither the code nor the state of an entry. -/
def KeepsCodeAndState (f : FaultEntry → FaultEntry) : Prop := ∀ e, (f e).code = e.code ∧ (f e).state = e.state

theorem keepsCodeAndState_credit (p : FaultEntry → Bool) (credit : FaultEntry → Nat) :
    KeepsCodeAndState fun e => if p e then { e with credit := credit e } else e := by
  intro e
  dsimp only
  split <;> exact ⟨rfl, rfl⟩

namespace KeepsCodeAndState

variable {f : FaultEntry → FaultEntry} (keeps : KeepsCodeAndState f)
include keeps

theorem code (e : FaultEntry) : (f e).code = e.code := (keeps e).1

theorem alarms (e : FaultEntry) : (f e).alarms = e.alarms := by simp [FaultEntry.alarms, keeps e]

theorem active (e : FaultEntry) : (f e).active = e.active := by simp [FaultEntry.active, keeps e]

theorem alarmLevel_eq (t : FaultTable) : alarmLevel (mapEntries f t) = alarmLevel t := by
  simp [alarmLevel, entries_mapEntries, Function.comp_def, keeps.alarms]

theorem activeEntries_eq (t : FaultTable) : activeEntries (mapEntries f t) = (activeEntries t).map f := by
  simp [activeEntries, entries_mapEntries, List.filter_map, Function.comp_def, keeps.active]

theorem deratingLevel_eq (t : FaultTable) : deratingLevel (mapEntries f t) = deratingLevel t := by
  simp [deratingLevel, keeps.activeEntries_eq, Function.comp_def, keeps.code]

theorem downCondition_eq (t : FaultTable) : downCondition (mapEntries f t) = downCondition t := by
  simp [downCondition, keeps.activeEntries_eq, Function.comp_def, keeps.code]

end KeepsCodeAndState

/-! ### The invariant under the named updates -/

/-- The invariant reads the table and the three outputs alone. -/
theorem State.OutputsFollow.of_same {s t : State} (h : s.OutputsFollow) (table : t.supervisor.table = s.supervisor.table)
    (alarm : t.supervisor.alarm = s.supervisor.alarm) (derating : t.alloc.derating = s.alloc.derating)
    (down : t.alloc.down = s.alloc.down) : t.OutputsFollow := by
  refine ⟨?_, ?_, ?_⟩
  · rw [alarm, table, h.alarm]
  · rw [derating, table, h.derating]
  · rw [down, table, h.down]

theorem State.outputsFollow_congr {s t : State} (table : t.supervisor.table = s.supervisor.table)
    (alarm : t.supervisor.alarm = s.supervisor.alarm) (derating : t.alloc.derating = s.alloc.derating)
    (down : t.alloc.down = s.alloc.down) : t.OutputsFollow ↔ s.OutputsFollow :=
  ⟨fun h => h.of_same table.symm alarm.symm derating.symm down.symm, fun h => h.of_same table alarm derating down⟩

@[simp] theorem State.setPending_outputsFollow (s : State) (x : List Instr) : (s.setPending x).OutputsFollow ↔ s.OutputsFollow :=
  outputsFollow_congr rfl rfl rfl rfl
@[simp] theorem State.setPort_outputsFollow (s : State) (x : Port) : (s.setPort x).OutputsFollow ↔ s.OutputsFollow :=
  outputsFollow_congr rfl rfl rfl rfl
@[simp] theorem State.setView_outputsFollow (s : State) (x : View) : (s.setView x).OutputsFollow ↔ s.OutputsFollow :=
  outputsFollow_congr rfl rfl rfl rfl
@[simp] theorem State.setScanner_outputsFollow (s : State) (x : Scanner) : (s.setScanner x).OutputsFollow ↔ s.OutputsFollow :=
  outputsFollow_congr rfl rfl rfl rfl
@[simp] theorem State.setSpread_outputsFollow (s : State) (x : Spread) : (s.setSpread x).OutputsFollow ↔ s.OutputsFollow :=
  outputsFollow_congr rfl rfl rfl rfl
@[simp] theorem State.setWriter_outputsFollow (s : State) (x : Writer) : (s.setWriter x).OutputsFollow ↔ s.OutputsFollow :=
  outputsFollow_congr rfl rfl rfl rfl
@[simp] theorem State.setComposer_outputsFollow (s : State) (x : Composer) : (s.setComposer x).OutputsFollow ↔ s.OutputsFollow :=
  outputsFollow_congr rfl rfl rfl rfl
@[simp] theorem State.setHandler_outputsFollow (s : State) (x : Handler) : (s.setHandler x).OutputsFollow ↔ s.OutputsFollow :=
  outputsFollow_congr rfl rfl rfl rfl
@[simp] theorem State.setCtl_outputsFollow (s : State) (x : StoreCtl) : (s.setCtl x).OutputsFollow ↔ s.OutputsFollow :=
  outputsFollow_congr rfl rfl rfl rfl
@[simp] theorem State.setStore_outputsFollow (s : State) (x : Memory) : (s.setStore x).OutputsFollow ↔ s.OutputsFollow :=
  outputsFollow_congr rfl rfl rfl rfl
@[simp] theorem State.setDraws_outputsFollow (s : State) (x : Nat) : (s.setDraws x).OutputsFollow ↔ s.OutputsFollow :=
  outputsFollow_congr rfl rfl rfl rfl

/-! ### One change of the table

Step 4 of a change hands the outputs of the table as it then stands, so after it they follow whatever they were before (R126). -/

theorem State.handOutputs_outputsFollow (s : State) : s.handOutputs.OutputsFollow := by
  obtain ⟨table, alarm, derating, down⟩ := s.handOutputs_follow
  refine ⟨?_, ?_, ?_⟩
  · rw [alarm, table]
  · rw [derating, table]
  · rw [down, table]

theorem State.raiseOnly_outputsFollow (s : State) (code : FaultCode) (subject : Nat) : (s.raiseOnly code subject).OutputsFollow :=
  State.handOutputs_outputsFollow _

theorem State.clearOnly_outputsFollow (s : State) (code : FaultCode) (subject : Nat) : (s.clearOnly code subject).OutputsFollow :=
  State.handOutputs_outputsFollow _

theorem State.ackAllOnly_outputsFollow (s : State) : s.ackAllOnly.OutputsFollow := State.handOutputs_outputsFollow _

namespace State.OutputsFollow

variable {s : State}

theorem ackOneOnly (h : s.OutputsFollow) (code subject : Nat) : (s.ackOneOnly code subject).OutputsFollow := by
  unfold State.ackOneOnly
  split
  · exact h
  · exact State.handOutputs_outputsFollow _

/-! ### Recomputes -/

theorem reallocate (h : s.OutputsFollow) : s.reallocate.OutputsFollow := h.of_same rfl rfl rfl rfl

theorem floorShed (h : s.OutputsFollow) (before : Vector SlotState 8) (slot : Fin 8) : (s.floorShed before slot).OutputsFollow := by
  unfold State.floorShed
  dsimp only
  split
  · exact State.raiseOnly_outputsFollow _ _ _
  · split
    · exact State.clearOnly_outputsFollow _ _ _
    · exact h

theorem floorsShed (h : s.OutputsFollow) (before : Vector SlotState 8) (slots : List (Fin 8)) :
    (s.floorsShed before slots).OutputsFollow := by
  induction slots generalizing s with
  | nil => exact h
  | cons slot rest ih => exact ih (h.floorShed before slot)

theorem settleFuel (h : s.OutputsFollow) (fuel : Nat) : (State.settleFuel fuel s).OutputsFollow := by
  induction fuel generalizing s with
  | zero => unfold State.settleFuel; split; exacts [h.reallocate, h]
  | succ fuel ih => unfold State.settleFuel; split; exacts [ih (h.reallocate.floorsShed _ _), h]

theorem settle (h : s.OutputsFollow) : s.settle.OutputsFollow := h.settleFuel 4

theorem recomputeNow (h : s.OutputsFollow) : s.recomputeNow.OutputsFollow :=
  settle (h.of_same rfl rfl rfl rfl)

end State.OutputsFollow

@[simp] theorem State.raise_outputsFollow (s : State) (code : FaultCode) (subject : Nat) : (s.raise code subject).OutputsFollow :=
  (s.raiseOnly_outputsFollow code subject).settle

@[simp] theorem State.clear_outputsFollow (s : State) (code : FaultCode) (subject : Nat) : (s.clear code subject).OutputsFollow :=
  (s.clearOnly_outputsFollow code subject).settle

namespace State.OutputsFollow

variable {s : State}

theorem raiseEach (h : s.OutputsFollow) (code : FaultCode) (subjects : List Nat) : (s.raiseEach code subjects).OutputsFollow := by
  induction subjects generalizing s with
  | nil => exact h
  | cons subject rest ih => exact ih (s.raise_outputsFollow code subject)

/-! ### Credits (R152, R154) -/

theorem of_mapEntries (h : s.OutputsFollow) {f : FaultEntry → FaultEntry} (keeps : KeepsCodeAndState f) {t : State}
    (table : t.supervisor.table = mapEntries f s.supervisor.table) (alarm : t.supervisor.alarm = s.supervisor.alarm)
    (alloc : t.alloc = s.alloc) : t.OutputsFollow := by
  refine ⟨?_, ?_, ?_⟩
  · rw [alarm, table, keeps.alarmLevel_eq, h.alarm]
  · rw [alloc, table, keeps.deratingLevel_eq, h.derating]
  · rw [alloc, table, keeps.downCondition_eq, h.down]

theorem spendCarried (h : s.OutputsFollow) : s.spendCarried.OutputsFollow :=
  h.of_mapEntries (keepsCodeAndState_credit _ _) (spendCredits_eq _ _) rfl rfl

theorem settleReCredit (h : s.OutputsFollow) : s.settleReCredit.OutputsFollow := by
  unfold State.settleReCredit
  split
  · exact h.of_mapEntries (keepsCodeAndState_credit _ _) (renewCredits_eq _) rfl rfl
  · exact h

theorem countReCredit (h : s.OutputsFollow) : s.countReCredit.OutputsFollow := by
  unfold State.countReCredit
  dsimp only
  split <;> exact h.settleReCredit.of_same rfl rfl rfl rfl

/-! ### The clock -/

theorem advance (h : s.OutputsFollow) (ms : Nat) : (s.advance ms).OutputsFollow := by simpa [State.advance] using h

theorem advanceTo (h : s.OutputsFollow) (moment : Ms) (ms : Nat) : (s.advanceTo moment ms).OutputsFollow := h.advance _

/-! ### The allocation unit and the spreading controller -/

theorem handOffsets (h : s.OutputsFollow) (set : List (Nat × Int)) : (s.handOffsets set).OutputsFollow :=
  recomputeNow (h.of_same rfl rfl rfl rfl)

theorem maskCarriers (h : s.OutputsFollow) (form : MaskForm) (named : Byte) : (s.maskCarriers form named).OutputsFollow :=
  recomputeNow (h.of_same rfl rfl rfl rfl)

theorem rampTick (h : s.OutputsFollow) : s.rampTick.OutputsFollow := by
  unfold State.rampTick
  split
  · exact h
  · exact h.of_same rfl rfl rfl rfl

theorem spreadClose (h : s.OutputsFollow) (occupancy : Fin 8 → Option Nat) : (s.spreadClose occupancy).OutputsFollow := by
  unfold State.spreadClose
  split
  · exact h
  · exact handOffsets (by simpa using h) _

theorem handLostCount (h : s.OutputsFollow) : s.handLostCount.OutputsFollow := by
  unfold State.handLostCount
  dsimp only
  split
  · simpa using h
  · split
    · exact handOffsets (by simpa using h) _
    · simpa using h

/-! ### The measurement scanner -/

theorem watchStuck (h : s.OutputsFollow) (channel : Fin 11) (code : DetectorCode) : (s.watchStuck channel code).OutputsFollow := by
  unfold State.watchStuck
  dsimp only
  split
  · simp
  · split <;> simp [State.setStuck, h]

theorem countSample (h : s.OutputsFollow) (slot : Fin 8) (code : DetectorCode) : (s.countSample slot code).OutputsFollow := by
  unfold State.countSample
  split <;> simp [State.setWindow, h]

/-- A condition of the scanner is raised in the table where `p` asks for it. -/
theorem raiseWhere (h : s.OutputsFollow) {p : Prop} {_ : Decidable p} {x : Scanner} {code : FaultCode} {subject : Nat} :
    (if p then (s.setScanner x).raise code subject else s).OutputsFollow := by
  split
  exacts [State.raise_outputsFollow _ _ _, h]

/-- A condition of the scanner is cleared in the table where `p` asks for it. -/
theorem clearWhere (h : s.OutputsFollow) {p : Prop} {_ : Decidable p} {x : Scanner} {code : FaultCode} {subject : Nat} :
    (if p then (s.setScanner x).clear code subject else s).OutputsFollow := by
  split
  exacts [State.clear_outputsFollow _ _ _, h]

theorem judgeWarn (h : s.OutputsFollow) : s.judgeWarn.OutputsFollow := by
  unfold State.judgeWarn
  split
  · exact State.raise_outputsFollow _ _ _
  · exact h.clearWhere

theorem judgeTrip (h : s.OutputsFollow) : s.judgeTrip.OutputsFollow := h.raiseWhere

theorem evaluatePair (h : s.OutputsFollow) (reflected : DetectorCode) : (s.evaluatePair reflected).OutputsFollow := by
  unfold State.evaluatePair
  dsimp only
  split
  · exact h
  · split
    · simpa using h
    · exact judgeTrip (judgeWarn (by simpa using h))

theorem judgeTemperature (h : s.OutputsFollow) (code : Nat) : (s.judgeTemperature code).OutputsFollow :=
  h.raiseWhere.raiseWhere.raiseWhere.clearWhere.clearWhere.clearWhere

theorem takeTemperature (h : s.OutputsFollow) (code : DetectorCode) : (s.takeTemperature code).OutputsFollow := by
  have taken : (s.setScanner { s.scanner with lastTemp := some ((code.toNat : Int) - 160) }).OutputsFollow := by simpa using h
  unfold State.takeTemperature
  dsimp only
  split
  · exact taken
  · exact taken.judgeTemperature _

theorem useResult (h : s.OutputsFollow) (channel : Fin 11) (code : DetectorCode) : (s.useResult channel code).OutputsFollow := by
  unfold State.useResult
  split
  · exact h.countSample _ _
  · split
    · simpa using h
    · split
      · exact h.evaluatePair _
      · exact h.takeTemperature _

theorem conversionEnds (h : s.OutputsFollow) (code : DetectorCode) : (s.conversionEnds code).OutputsFollow := by
  unfold State.conversionEnds
  split
  · exact h
  · unfold State.convert
    split
    · exact h
    · simpa using (h.watchStuck _ _).useResult _ _

theorem releaseTrip (h : s.OutputsFollow) : s.releaseTrip.OutputsFollow := by
  unfold State.releaseTrip
  dsimp only
  split
  · split <;> simp [h]
  · exact h

theorem notifyScanner (h : s.OutputsFollow) : s.notifyScanner.OutputsFollow := by simpa [State.notifyScanner] using h

theorem acknowledge (h : s.OutputsFollow) (selector : AckSelector) : (s.acknowledge selector).OutputsFollow := by
  cases selector with
  | all => exact s.ackAllOnly_outputsFollow.settle.notifyScanner
  | one code subject =>
    have acked := (h.ackOneOnly code subject).settle
    unfold State.acknowledge
    dsimp only
    split
    exacts [acked.notifyScanner, acked]

/-! ### The neighbour view -/

theorem raiseLoss (h : s.OutputsFollow) (position : Fin 16) (id : Nat) : (s.raiseLoss position id).OutputsFollow := by
  unfold State.raiseLoss
  split <;> simp [h]

theorem clearLoss (h : s.OutputsFollow) (position : Fin 16) (id : Nat) : (s.clearLoss position id).OutputsFollow := by
  unfold State.clearLoss
  split <;> simp [h]

theorem setEntry (h : s.OutputsFollow) (position : Fin 16) (entry : Option Neighbour) : (s.setEntry position entry).OutputsFollow := by
  simpa [State.setEntry] using h

theorem storeBeacon (h : s.OutputsFollow) (position : Fin 16) (n : Neighbour) (heard : Heard) :
    (s.storeBeacon position n heard).OutputsFollow := by
  have stored := h.setEntry position (some { n with state := .live, heard := some heard })
  unfold State.storeBeacon
  dsimp only
  split
  · exact stored
  · exact stored
  · exact stored.clearLoss _ _
  · split
    exacts [(stored.clearLoss _ _).handLostCount, stored.clearLoss _ _]

theorem settleClash (h : s.OutputsFollow) : s.settleClash.OutputsFollow := by
  unfold State.settleClash
  split
  · exact h
  · split <;> simp [h]

theorem countClash (h : s.OutputsFollow) : s.countClash.OutputsFollow := by
  unfold State.countClash
  dsimp only
  split <;> simpa using h.settleClash

theorem takeBeacon (h : s.OutputsFollow) (source : Nat) (payload : List Byte) : (s.takeBeacon source payload).OutputsFollow := by
  unfold State.takeBeacon
  dsimp only
  split
  · simp [State.clashBeacon]
  · split
    · exact h.setEntry _ _
    · split
      exacts [h.storeBeacon _ _ _, h]

theorem suspectLimit (h : s.OutputsFollow) (position : Fin 16) : (s.suspectLimit position).OutputsFollow := by
  unfold State.suspectLimit
  split
  · exact h
  · split
    exacts [(h.advanceTo _ _).setEntry _ _, h]

theorem lostLimit (h : s.OutputsFollow) (position : Fin 16) : (s.lostLimit position).OutputsFollow := by
  unfold State.lostLimit
  split
  · exact h
  · split
    · dsimp only
      split
      · exact (h.advanceTo _ _).setEntry _ _
      · exact ((h.advanceTo _ _).setEntry _ _).raiseLoss _ _
      · exact (((h.advanceTo _ _).setEntry _ _).raiseLoss _ _).handLostCount
    · exact h

theorem raiseLosses (h : s.OutputsFollow) (before : Vector (Option Neighbour) 16) (positions : List (Fin 16)) :
    (s.raiseLosses before positions).OutputsFollow := by
  induction positions generalizing s with
  | nil => exact h
  | cons p rest ih =>
    unfold State.raiseLosses
    split
    · split
      exacts [ih (h.raiseLoss _ _), ih h]
    · exact ih h

theorem startUpLimit (h : s.OutputsFollow) : s.startUpLimit.OutputsFollow := by
  unfold State.startUpLimit
  split
  · exact h
  · refine handLostCount (raiseLosses ?_ _ _)
    simpa using h.advanceTo _ _

/-! ### The trunk port -/

theorem besideContention {t : State} (h : s.OutputsFollow) (beside : s.BesideContention t) : t.OutputsFollow := by
  rw [beside.rest]
  simpa using h

theorem contend (h : s.OutputsFollow) : s.contend.OutputsFollow := h.besideContention s.contend_beside

theorem sendIf (h : s.OutputsFollow) (now : Bool) (other : TxState) : (s.sendIf now other).OutputsFollow :=
  h.besideContention (s.sendIf_beside now other)

theorem gapDone (h : s.OutputsFollow) : s.gapDone.OutputsFollow := by
  unfold State.gapDone
  split
  · exact h.besideContention s.drawBackoff_beside
  · exact h.sendIf _ _
  all_goals exact h

theorem gapComplete (h : s.OutputsFollow) : s.gapComplete.OutputsFollow := by
  have seen (port : Port) : (s.setPort port).OutputsFollow := by simpa using h
  unfold State.gapComplete
  split
  exacts [h, seen _, seen _, (seen _).gapDone, seen _]

theorem slotComplete (h : s.OutputsFollow) : s.slotComplete.OutputsFollow := by
  unfold State.slotComplete
  split
  · exact h.sendIf _ _
  all_goals exact h

theorem dropBeacon (h : s.OutputsFollow) : s.dropBeacon.OutputsFollow := by
  unfold State.dropBeacon
  dsimp only
  split <;> simp [h]

theorem beaconDelivered (h : s.OutputsFollow) : s.beaconDelivered.OutputsFollow := by
  unfold State.beaconDelivered
  dsimp only
  split <;> simp [h]

theorem afterClean (h : s.OutputsFollow) : s.afterClean.OutputsFollow := by
  unfold State.afterClean
  exact contend (by simpa using h)

theorem cleanFrame (h : s.OutputsFollow) : s.cleanFrame.OutputsFollow := by
  unfold State.cleanFrame
  split
  · split
    · exact afterClean (by simpa using h)
    · exact (beaconDelivered (by simpa using h.spendCarried)).afterClean
  all_goals exact h

theorem retryBeacon (h : s.OutputsFollow) : s.retryBeacon.OutputsFollow := by
  unfold State.retryBeacon
  dsimp only
  split
  · exact dropBeacon (by simpa using h)
  · simpa using h

theorem collision (h : s.OutputsFollow) : s.collision.OutputsFollow := by
  have forgotten : s.forgetCarried.OutputsFollow := by simpa [State.forgetCarried] using h
  have after {t : State} (h : t.OutputsFollow) : t.afterCollision.OutputsFollow := by simpa [State.afterCollision] using h
  unfold State.collision
  split
  · split
    · exact after (by simpa using h)
    · exact after forgotten.retryBeacon
    · exact after (dropBeacon (by simpa using forgotten))
    · exact after (by simpa using forgotten)
  all_goals exact h

theorem supersedeBeacon (h : s.OutputsFollow) : s.supersedeBeacon.OutputsFollow := by
  unfold State.supersedeBeacon
  split
  · simpa using h
  · split
    · exact h
    · exact dropBeacon (by simpa using h)

theorem supersedeRequest (h : s.OutputsFollow) : s.supersedeRequest.OutputsFollow := by
  unfold State.supersedeRequest
  split
  · exact dropBeacon (by simpa using h)
  · exact h

theorem requestBeacon (h : s.OutputsFollow) : s.requestBeacon.OutputsFollow := by
  unfold State.requestBeacon
  dsimp only
  split
  · exact h
  · simpa [State.drawn] using h.supersedeRequest.supersedeBeacon

theorem jitterEnd (h : s.OutputsFollow) : s.jitterEnd.OutputsFollow := by
  unfold State.jitterEnd
  dsimp only
  split
  · exact h
  · split
    · simpa using h.advanceTo _ _
    · exact contend (by simpa using h.advanceTo _ _)

theorem applyQuiet (h : s.OutputsFollow) : s.applyQuiet.OutputsFollow := by
  unfold State.applyQuiet
  dsimp only
  split <;> simpa using h

theorem answer (h : s.OutputsFollow) (source kind tag : Byte) (body : List Byte) : (s.answer source kind tag body).OutputsFollow :=
  contend (by simpa using h)

theorem settleNoise (h : s.OutputsFollow) : s.settleNoise.OutputsFollow := by
  unfold State.settleNoise
  split <;> simp [h]

theorem countBadFrame (h : s.OutputsFollow) : s.countBadFrame.OutputsFollow := by
  unfold State.countBadFrame
  dsimp only
  split <;> simp [h.settleNoise]

/-! ### Starts and the store controller -/

theorem reset : State.reset.OutputsFollow := ⟨by decide, by decide, by decide⟩

theorem enterLoad (h : s.OutputsFollow) (kind : StartKind) : (s.enterLoad kind).OutputsFollow := by
  cases kind with
  | restart => exact h.of_same rfl rfl rfl rfl
  | powerOn => exact reset.of_same rfl rfl rfl rfl
  | pinReset => exact reset.of_same rfl rfl rfl rfl

theorem applyCycle (h : s.OutputsFollow) : s.applyCycle.OutputsFollow := by
  unfold State.applyCycle
  split
  · exact h
  · split <;> simpa using h

theorem cutOperation (h : s.OutputsFollow) (cycleApplied : Bool) : (s.cutOperation cycleApplied).OutputsFollow := by
  unfold State.cutOperation
  split
  exacts [h.applyCycle, h]

/-- A RESTART ends with two clears, so its outputs follow whatever it found due (R141). -/
theorem restartNow (s : State) : s.restartNow.OutputsFollow := State.clearOnly_outputsFollow _ _ _

theorem askRestart (h : s.OutputsFollow) : s.askRestart.OutputsFollow := by
  unfold State.askRestart
  split
  · exact restartNow s
  · simpa using h

theorem restartIfDue (h : s.OutputsFollow) : s.restartIfDue.OutputsFollow := by
  unfold State.restartIfDue
  split
  · exact restartNow s
  · exact h

theorem leaveLoad (h : s.OutputsFollow) : s.leaveLoad.OutputsFollow := by
  unfold State.leaveLoad
  split <;> exact h.of_same rfl rfl rfl rfl

theorem enterRun (h : s.OutputsFollow) : s.enterRun.OutputsFollow :=
  recomputeNow (h.of_same rfl rfl rfl rfl)

theorem listenExpiry (h : s.OutputsFollow) : s.listenExpiry.OutputsFollow := by
  unfold State.listenExpiry
  split
  · exact h
  · split
    exacts [(h.advanceTo _ _).enterRun, h, h, h]

theorem beginOperation (h : s.OutputsFollow) (operation : NvmOperation) : (s.beginOperation operation).OutputsFollow := by
  simpa [State.beginOperation] using h

theorem judgeConfig (h : s.OutputsFollow) (image : List Byte) : (s.judgeConfig image).OutputsFollow := by
  unfold State.judgeConfig
  dsimp only
  refine beginOperation (raiseEach ?_ _ _) _
  split <;> simp [h]

theorem configReadEnd (h : s.OutputsFollow) (loaded : List Byte) : (s.configReadEnd loaded).OutputsFollow := by
  unfold State.configReadEnd
  split
  · exact h
  · split
    · split
      · exact h
      · exact judgeConfig (by simpa using h) _
    all_goals exact h

theorem judgeMarkers (h : s.OutputsFollow) : s.judgeMarkers.OutputsFollow := by
  unfold State.judgeMarkers
  split
  · simp
  · split <;> simp [h]

theorem crashReadEnd (h : s.OutputsFollow) : s.crashReadEnd.OutputsFollow := by
  unfold State.crashReadEnd
  split
  · exact h
  · split
    · exact (judgeMarkers (by simpa [State.noOperation] using h)).leaveLoad
    all_goals exact h

theorem eraseDone (h : s.OutputsFollow) : s.eraseDone.OutputsFollow := by
  unfold State.eraseDone
  split
  · simpa using h
  · exact restartIfDue (by simpa using h)

theorem cycleEnd (h : s.OutputsFollow) : s.cycleEnd.OutputsFollow := by
  have applied (since : Ms) := (h.advanceTo since 5).applyCycle
  unfold State.cycleEnd
  split
  · exact h
  · split
    · exact h
    · exact h
    · dsimp only
      split
      exacts [(applied _).beginOperation _, (applied _).beginOperation _, restartIfDue (by simpa using applied _)]
    · dsimp only
      split
      exacts [(applied _).beginOperation _, (applied _).beginOperation _, (applied _).eraseDone]

theorem operationFails (s : State) (operation : NvmOperation) : (s.operationFails operation).OutputsFollow := by
  cases operation with
  | configRead => exact beginOperation (State.raise_outputsFollow _ _ _) _
  | crashRead => exact leaveLoad (State.raise_outputsFollow _ _ _)
  | crashWrite step record => exact restartIfDue (State.raise_outputsFollow _ _ _)
  | crashErase step markerRead => exact restartIfDue (State.raise_outputsFollow _ _ _)

theorem tryFails (h : s.OutputsFollow) (op : InFlight) : (s.tryFails op).OutputsFollow := by
  unfold State.tryFails
  split
  · exact operationFails _ _
  · simpa using h

theorem transferFails (h : s.OutputsFollow) (later : Bool) : (s.transferFails later).OutputsFollow := by
  unfold State.transferFails
  split
  · exact h
  · split
    · exact h
    · split <;> exact h.tryFails _

theorem storeWaitEnd (h : s.OutputsFollow) : s.storeWaitEnd.OutputsFollow := by
  unfold State.storeWaitEnd
  dsimp only
  split
  · simpa using h.advanceTo _ _
  · exact h

/-! ### The directive handler -/

theorem applyDirective (h : s.OutputsFollow) (source tag : Byte) (directive : Directive) :
    (s.applyDirective source tag directive).OutputsFollow := by
  cases directive with
  | restart => exact h.askRestart
  | faultAck selector => exact h.acknowledge selector
  | quiet => exact h.applyQuiet
  | speak => simpa [State.applyDirective, State.applySpeak] using h
  | statusQuery => exact h.answer _ _ _ _
  | snapshotQuery => exact h.answer _ _ _ _
  | tableRead table start count => exact answer (by simpa [State.moveCursor] using h) _ _ _ _
  | carrierMask form slots => exact h.maskCarriers form slots
  | spreadMode mode => simpa [State.applyDirective, State.setPendingMode] using h

theorem deliverDirective (h : s.OutputsFollow) (source destination : Byte) (payload : List Byte) :
    (s.deliverDirective source destination payload).OutputsFollow := by
  unfold State.deliverDirective State.takeDirective
  split
  · split
    · simpa [State.refuse] using h
    · exact h.applyDirective _ _ _
  · exact h

/-! ### Frames and expiries -/

theorem deliverFrame (h : s.OutputsFollow) (f : Frame) : (s.deliverFrame f).OutputsFollow := by
  unfold State.deliverFrame
  split
  exacts [h.takeBeacon _ _, h.deliverDirective _ _ _, h]

theorem takeReception (h : s.OutputsFollow) (overlap : Option AttemptEnd) (wholeBytes : Bool) (bytes : List Byte) :
    (s.takeReception overlap wholeBytes bytes).OutputsFollow := by
  unfold State.takeReception
  split
  · exact h
  · split
    exacts [h.deliverFrame _, h]
  · split
    exacts [h.deliverFrame _, h.countBadFrame]

theorem frameEnds (h : s.OutputsFollow) (wait : Ms) (wholeBytes : Bool) (bytes : List Byte) :
    (s.frameEnds wait wholeBytes bytes).OutputsFollow := by
  have later := h.advance wait.toNat
  unfold State.frameEnds
  dsimp only
  split
  · exact later
  · split
    · simpa [State.lineIdle] using later
    · split
      · exact takeReception (by simpa using later) _ _ _
      · exact later

theorem firstIdle (h : s.OutputsFollow) : s.firstIdle.OutputsFollow := by
  unfold State.firstIdle
  split <;> simpa using h

theorem expiryWork (h : s.OutputsFollow) : s.expiryWork.OutputsFollow := by
  have closed : s.closeNoiseWindow.OutputsFollow := by simpa [State.closeNoiseWindow] using h.settleNoise
  exact closed.countClash.countReCredit.requestBeacon

theorem epochMoment (h : s.OutputsFollow) (moment : Ms) (interval : Nat) : (s.epochMoment moment interval).OutputsFollow := by
  simpa [State.epochMoment, State.rearmEpoch] using h.advanceTo _ _

theorem closeEpoch (h : s.OutputsFollow) : s.closeEpoch.OutputsFollow := by
  have loads : s.closeLoads.OutputsFollow := by simpa [State.closeLoads, State.openWindows] using h.spreadClose _
  simpa [State.closeEpoch, State.raiseEpoch] using loads.expiryWork

theorem runExpiry (h : s.OutputsFollow) : s.runExpiry.OutputsFollow := by
  unfold State.runExpiry
  split
  exacts [(h.epochMoment _ _).closeEpoch, h]

theorem configFaultExpiry (h : s.OutputsFollow) : s.configFaultExpiry.OutputsFollow := by
  unfold State.configFaultExpiry
  split
  exacts [(h.epochMoment _ _).expiryWork, h]

/-! ### Every command and every step -/

theorem exec_next (h : s.OutputsFollow) (c : Instr) : ∃ t, exec c s = .next t ∧ t.OutputsFollow := by
  cases c with
  | powerOn cycleApplied => exact ⟨_, rfl, (h.cutOperation cycleApplied).enterLoad .powerOn⟩
  | pinReset cycleApplied => exact ⟨_, rfl, (h.cutOperation cycleApplied).enterLoad .pinReset⟩
  | pinResetStoreWaitEnd => exact ⟨_, rfl, h.storeWaitEnd⟩
  | receivedFrame wait wholeBytes bytes => exact ⟨_, rfl, h.frameEnds wait wholeBytes bytes⟩
  | lineActivity => exact ⟨_, rfl, by simpa [State.lineActivity] using h⟩
  | gapComplete => exact ⟨_, rfl, h.gapComplete⟩
  | backoffSlotComplete => exact ⟨_, rfl, h.slotComplete⟩
  | collision => exact ⟨_, rfl, h.collision⟩
  | cleanFrame => exact ⟨_, rfl, h.cleanFrame⟩
  | beaconJitterEnd => exact ⟨_, rfl, h.jitterEnd⟩
  | epochExpiry => exact ⟨_, rfl, h.runExpiry⟩
  | configFaultEpochExpiry => exact ⟨_, rfl, h.configFaultExpiry⟩
  | listenTimerExpiry => exact ⟨_, rfl, h.listenExpiry⟩
  | conversionComplete code => exact ⟨_, rfl, h.conversionEnds code⟩
  | rampTick => exact ⟨_, rfl, h.rampTick⟩
  | writeComplete => exact ⟨_, rfl, by simpa [State.writeEnds] using h⟩
  | silenceSuspectLimit position => exact ⟨_, rfl, h.suspectLimit position⟩
  | silenceLostLimit position => exact ⟨_, rfl, h.lostLimit position⟩
  | startUpLimit => exact ⟨_, rfl, h.startUpLimit⟩
  | idClashClear => exact ⟨_, rfl, h.settleClash⟩
  | trunkNoiseClear => exact ⟨_, rfl, h.settleNoise⟩
  | reCredit => exact ⟨_, rfl, h.settleReCredit⟩
  | vswrTripRelease => exact ⟨_, rfl, h.releaseTrip⟩
  | configReadEnd image => exact ⟨_, rfl, h.configReadEnd image.toList⟩
  | crashReadEnd => exact ⟨_, rfl, h.crashReadEnd⟩
  | i2cTransferFail later => exact ⟨_, rfl, h.transferFails later⟩
  | writeCycleEnd => exact ⟨_, rfl, h.cycleEnd⟩
  | faultAck source destination rest => exact ⟨_, rfl, h.deliverDirective source destination _⟩
  | carrierMask source destination rest => exact ⟨_, rfl, h.deliverDirective source destination _⟩
  | spreadMode source destination rest => exact ⟨_, rfl, h.deliverDirective source destination _⟩
  | quiet source destination rest => exact ⟨_, rfl, h.deliverDirective source destination _⟩
  | speak source destination rest => exact ⟨_, rfl, h.deliverDirective source destination _⟩
  | restart source destination rest => exact ⟨_, rfl, h.deliverDirective source destination _⟩
  | statusQuery source destination rest => exact ⟨_, rfl, h.deliverDirective source destination _⟩
  | snapshotQuery source destination rest => exact ⟨_, rfl, h.deliverDirective source destination _⟩
  | tableRead wait source destination rest => exact ⟨_, rfl, (h.advance _).deliverDirective source destination _⟩
  | unknownDirective source destination payload =>
    refine ⟨_, rfl, ?_⟩
    split
    exacts [h, h.deliverDirective source destination payload]
  | receiverFirstIdle => exact ⟨_, rfl, h.firstIdle⟩

theorem step_next (h : s.OutputsFollow) : ∃ t, step s = .next t ∧ t.OutputsFollow := by
  unfold step
  split
  · exact ⟨_, rfl, h.advance 1⟩
  · exact exec_next (by simpa using h) _

end State.OutputsFollow

/-! ### The level of ALARM, spelled out (R130) -/

theorem Severity.serious_iff (severity : Severity) : severity.serious = true ↔ severity = .major ∨ severity = .critical := by
  cases severity <;> decide

theorem FaultEntry.alarms_iff (e : FaultEntry) :
    e.alarms = true ↔ e.state = .activeUnacked ∧ (e.code.severity = .major ∨ e.code.severity = .critical) := by
  simp [FaultEntry.alarms, Severity.serious_iff]

theorem mem_entries_iff (t : FaultTable) (e : FaultEntry) : e ∈ entries t ↔ ∃ p : Fin 24, t[p] = some e := by
  simp [entries, Vector.toList_eq_finRange t]

theorem alarmLevel_iff (t : FaultTable) : alarmLevel t = true ↔ ∃ (p : Fin 24) (e : FaultEntry), t[p] = some e ∧
    e.state = .activeUnacked ∧ (e.code.severity = .major ∨ e.code.severity = .critical) := by
  simp only [alarmLevel, List.any_eq_true, mem_entries_iff, FaultEntry.alarms_iff]
  exact ⟨fun ⟨e, ⟨p, held⟩, alarms⟩ => ⟨p, e, held, alarms⟩, fun ⟨p, e, held, alarms⟩ => ⟨e, ⟨p, held⟩, alarms⟩⟩

/-- Settles O53: each change of the table ends with its outputs handed, and nothing else touches the table's codes and states or the
three outputs, but for a start, which keeps or empties them all. -/
theorem everyStepKeepsOutputsFollowingTheTable : Obligations.EveryStepKeepsOutputsFollowingTheTable := by
  unfold Obligations.EveryStepKeepsOutputsFollowingTheTable
  intro s t follows stepped
  obtain ⟨u, next, kept⟩ := follows.step_next
  obtain rfl : u = t := Host.Outcome.next.inj (next.symm.trans stepped)
  exact ⟨kept, by rw [kept.alarm, alarmLevel_iff]⟩

end Sys2Proof.Machine
end

section
/-! PROOFS. TABLE-READ: the positions it reads, the cursor it moves, and the records it answers (R38, R174 to R177). -/

namespace Sys2Proof.Machine

/-! ### The positions read (R174, R175) -/

theorem countInForce_eq (count : Nat) : countInForce count = if count = 0 then 1 else if 4 < count then 4 else count := by
  unfold countInForce clampNat
  repeat' split
  all_goals omega

/-- The positions read are those of the window of `count` that stand in the table: a run from the first on. -/
theorem positionsRead_eq (size first count : Nat) :
    positionsRead size first count = (List.range (min count (size - first))).map (first + ·) := by
  induction count with
  | zero => simp [positionsRead]
  | succ count ih =>
    have more : positionsRead size first (count + 1) =
        positionsRead size first count ++ if first + count < size then [first + count] else [] := by
      simp [positionsRead, List.range_succ, List.filter_singleton]
    rw [more, ih]
    split
    next inside =>
      have all : min count (size - first) = count := by omega
      have allMore : min (count + 1) (size - first) = count + 1 := by omega
      rw [all, allMore, List.range_succ, List.map_append, List.map_singleton]
    next beyond =>
      have same : min (count + 1) (size - first) = min count (size - first) := by omega
      rw [same, List.append_nil]

theorem State.readPositions_eq (s : State) (source : Byte) (table : TableName) (start : Option Nat) (count : Nat) :
    s.readPositions source table start count =
      let first := start.getD ((s.view.cursors (s.cursorPair source)).at table)
      (List.range (min (if count = 0 then 1 else if 4 < count then 4 else count) (table.size - first))).map (first + ·) := by
  rw [State.readPositions, positionsRead_eq, countInForce_eq]

/-! ### The cursor after a read (R176) -/

theorem cursorAfter_run {size first n : Nat} (within : n ≤ size - first) :
    cursorAfter size ((List.range n).map (first + ·)) = if n = 0 ∨ first + n = size then 0 else first + n := by
  cases n with
  | zero => rfl
  | succ n =>
    have last : ((List.range (n + 1)).map (first + ·)).getLast? = some (first + n) := by simp [List.range_succ]
    simp only [cursorAfter, last]
    split <;> split <;> omega

theorem TableName.size_eq (table : TableName) : table.size = if table = .neighbour then 16 else 24 := by cases table <;> rfl

theorem TableName.size_pos (table : TableName) : 0 < table.size := by cases table <;> decide

theorem cursorAfter_lt {size : Nat} (positions : List Nat) (inhabited : 0 < size) : cursorAfter size positions < size := by
  unfold cursorAfter
  split
  · exact inhabited
  · split
    next before => exact before
    next => exact inhabited

/-! ### Cursors under a move (R38) -/

theorem Cursors.at_move_self (c : Cursors) {position : Nat} {table : TableName} (within : position < table.size) :
    (c.move position table).at table = position := by
  cases table <;> exact Nat.mod_eq_of_lt within

theorem Cursors.at_move_other (c : Cursors) (position : Nat) {table other : TableName} (ne : other ≠ table) :
    (c.move position table).at other = c.at other := by
  cases table <;> cases other
  case neighbour.neighbour | fault.fault => exact absurd rfl ne
  all_goals rfl

@[simp] theorem View.cursors_setCursors_self (v : View) (c : Cursors) (pair : CursorPair) :
    (v.setCursors c pair).cursors pair = c := by
  cases pair <;> rfl

theorem View.cursors_setCursors_other (v : View) (c : Cursors) {pair other : CursorPair} (ne : other ≠ pair) :
    (v.setCursors c pair).cursors other = v.cursors other := by
  cases pair <;> cases other
  case first.first | second.second | shared.shared => exact absurd rfl ne
  all_goals rfl

@[simp] theorem View.setCursors_table (v : View) (c : Cursors) (pair : CursorPair) : (v.setCursors c pair).table = v.table := by
  cases pair <;> rfl

theorem State.moveCursor_at (s : State) (source : Byte) (table : TableName) (positions : List Nat) :
    ((s.moveCursor source table positions).view.cursors (s.cursorPair source)).at table = cursorAfter table.size positions := by
  simp only [State.moveCursor, State.setView_view, View.cursors_setCursors_self]
  exact Cursors.at_move_self _ (cursorAfter_lt positions table.size_pos)

theorem State.moveCursor_at_other (s : State) (source : Byte) {table other : TableName} (positions : List Nat) (ne : other ≠ table) :
    ((s.moveCursor source table positions).view.cursors (s.cursorPair source)).at other =
      (s.view.cursors (s.cursorPair source)).at other := by
  simp only [State.moveCursor, State.setView_view, View.cursors_setCursors_self]
  exact Cursors.at_move_other _ _ ne

theorem State.moveCursor_cursors_other (s : State) (source : Byte) (table : TableName) (positions : List Nat) {pair : CursorPair}
    (ne : pair ≠ s.cursorPair source) : (s.moveCursor source table positions).view.cursors pair = s.view.cursors pair :=
  View.cursors_setCursors_other _ _ ne

theorem State.moveCursor_table (s : State) (source : Byte) (table : TableName) (positions : List Nat) :
    (s.moveCursor source table positions).view.table = s.view.table := View.setCursors_table _ _ _

/-! ### The pair of a source (R174) -/

theorem State.cursorPair_of_configFault {s : State} (node : s.ctl.node = .configFault) (source : Byte) :
    s.cursorPair source = .shared := if_pos node

theorem State.cursorPair_of_node {s : State} (node : s.ctl.node ≠ .configFault) (source : Byte) :
    s.cursorPair source = if s.cfg.supervisors[0]? = some source.toNat then .first
      else if s.cfg.supervisors[1]? = some source.toNat then .second else .shared := if_neg node

/-! ### An answer (R171) -/

namespace State.BesideContention

variable {s t : State} (h : s.BesideContention t)
include h

theorem answers : t.port.answers = s.port.answers := by rw [h.port]
theorem view : t.view = s.view := by rw [h.rest]; rfl
theorem supervisor : t.supervisor = s.supervisor := by rw [h.rest]; rfl
theorem handler : t.handler = s.handler := by rw [h.rest]; rfl
theorem store : t.store = s.store := by rw [h.rest]; rfl

end State.BesideContention

/-- An answer is the last of the FIFO, and all else that it does is to begin a contention. -/
theorem State.answer_beside (s : State) (source kind tag : Byte) (body : List Byte) :
    (s.setPort { s.port with
      answers := s.port.answers ++ [⟨frameBytes 3#8 s.ownIdByte source (kind :: tag :: body), 1⟩] }).BesideContention
      (s.answer source kind tag body) := State.contend_beside _

/-! ### The command -/

@[simp] theorem State.advance_zero (s : State) : s.advance 0 = s :=
  congrArg (fun clock => s.setCtl { s.ctl with clock := clock }) (BitVec.add_zero s.ctl.clock)

theorem exec_tableRead_now (s : State) (source destination : Byte) (rest : List Byte) :
    exec (.tableRead 0#32 source destination rest) s = .next (s.deliverDirective source destination (7#8 :: rest)) :=
  congrArg (fun now : State => Host.Outcome.next (now.deliverDirective source destination (7#8 :: rest))) s.advance_zero

theorem State.deliverDirective_of_refused {s : State} {source destination : Byte} {payload : List Byte} {reason : RefusalReason}
    (delivered : s.delivers source destination = true) (refused : s.judge source destination payload = .refused reason) :
    s.deliverDirective source destination payload = s.refuse reason source payload := by
  simp [State.deliverDirective, State.takeDirective, delivered, refused]

theorem State.deliverDirective_of_accepted {s : State} {source destination : Byte} {payload : List Byte} {directive : Directive}
    (delivered : s.delivers source destination = true) (accepted : s.judge source destination payload = .accepted directive) :
    s.deliverDirective source destination payload = s.applyDirective source (byteAt payload 1) directive := by
  simp [State.deliverDirective, State.takeDirective, delivered, accepted]

/-- What a read does to the state: its answer, its cursor, and what it leaves alone. `positions` are those read. -/
theorem State.readTable_spec (s : State) (source tag : Byte) (table : TableName) (start : Option Nat) (count : Nat) :
    let positions := s.readPositions source table start count
    let t := s.readTable source tag table start count
    t.port.answers = s.port.answers ++ [⟨frameBytes 3#8 s.ownIdByte source (3#8 :: tag :: s.tableBody table positions), 1⟩] ∧
      t.view = (s.moveCursor source table positions).view ∧
      t.supervisor = s.supervisor ∧ t.handler = s.handler ∧ t.store = s.store := by
  intro positions t
  have beside := (s.moveCursor source table positions).answer_beside source 3#8 tag (s.tableBody table positions)
  exact ⟨beside.answers, beside.view, beside.supervisor, beside.handler, beside.store⟩

/-! ### The records (R37, R177) -/

theorem toList_getD_fin {α : Type} {n : Nat} (v : Vector α n) (p : Fin n) (d : α) : v.toList.getD p.val d = v[p] := by
  simp [List.getD_eq_getElem?_getD]

theorem State.neighbourRecord_of_empty {s : State} {p : Fin 16} (empty : s.view.table[p] = none) :
    s.tableRecord .neighbour p.val = byteOf p.val :: List.replicate 7 0#8 := by
  simp only [State.tableRecord, State.neighbourRecord, toList_getD_fin, empty]

theorem State.neighbourRecord_of_entry {s : State} {p : Fin 16} {n : Neighbour} (entry : s.view.table[p] = some n) :
    s.tableRecord .neighbour p.val = [byteOf p.val, byteOf n.state.number, byteOf n.id, (heardBytes n.heard).1] ++
      bytes16 (s.age n) ++ [(heardBytes n.heard).2.1, (heardBytes n.heard).2.2] := by
  simp only [State.tableRecord, State.neighbourRecord, toList_getD_fin, entry]

theorem State.age_le (s : State) (n : Neighbour) : s.age n ≤ 65535 := Nat.min_le_left _ _

theorem State.age_of_unheard (s : State) {n : Neighbour} (unheard : n.heard = none) : s.age n = 65535 := by
  simp [State.age, State.silence, unheard]

theorem State.age_of_heard (s : State) {n : Neighbour} {h : Heard} (heard : n.heard = some h) :
    s.age n = min 65535 (s.ctl.clock - h.lastHeard).toNat := by
  simp [State.age, State.silence, State.elapsed, heard]

theorem State.faultRecord_of_empty {s : State} {p : Fin 24} (empty : s.supervisor.table[p] = none) :
    s.tableRecord .fault p.val = byteOf p.val :: List.replicate 9 0#8 := by
  simp only [State.tableRecord, State.faultRecord, toList_getD_fin, empty]

theorem State.faultRecord_of_entry {s : State} {p : Fin 24} {e : FaultEntry} (entry : s.supervisor.table[p] = some e) :
    s.tableRecord .fault p.val = [byteOf p.val, byteOf e.state.number, byteOf e.code.number, byteOf e.subject,
      byteOf e.code.severity.number, byteOf e.count] ++ bytes32 e.firstEpoch := by
  simp only [State.tableRecord, State.faultRecord, toList_getD_fin, entry]

/-- Settles O51: the positions read are a run from the first on, so the cursor moves behind the run, and the answer then begins a
contention, which touches neither table nor cursor. -/
theorem tableReadReturnsPositionsAndMovesTheCursor : Obligations.TableReadReturnsPositionsAndMovesTheCursor := by
  unfold Obligations.TableReadReturnsPositionsAndMovesTheCursor
  refine ⟨?accepted, ?refused, ?pair, fun s => ⟨fun p => ⟨State.neighbourRecord_of_empty, ?unheard, ?heard⟩,
    fun p => ⟨State.faultRecord_of_empty, fun e => State.faultRecord_of_entry⟩⟩⟩
  case accepted =>
    intro s source destination tag rest table start count delivered accepted pair first force size n next
    have length : table.size = size := table.size_eq
    have run : s.readPositions source table start count = (List.range n).map (first + ·) := by
      rw [State.readPositions_eq, length]
    have cursor : cursorAfter table.size ((List.range n).map (first + ·)) = next := by
      rw [length]
      exact cursorAfter_run (Nat.min_le_right _ _)
    obtain ⟨answers, view, supervisor, handler, store⟩ := s.readTable_spec source tag table start count
    have body : s.tableBody table ((List.range n).map (first + ·)) =
        byteOf table.number :: byteOf n :: (List.range n).flatMap fun k => s.tableRecord table (first + k) := by
      simp [State.tableBody, List.flatMap_map]
    rw [run] at answers view
    rw [body] at answers
    refine ⟨s.readTable source tag table start count, ?_, answers, ?_, fun other ne => ?_, fun q ne => ?_, ?_, supervisor, handler,
      store⟩
    · rw [exec_tableRead_now, State.deliverDirective_of_accepted delivered accepted]
      rfl
    · rw [view, State.moveCursor_at, cursor]
    · rw [view, State.moveCursor_at_other _ _ _ ne]
    · rw [view, State.moveCursor_cursors_other _ _ _ _ ne]
    · rw [view, State.moveCursor_table]
  case refused =>
    intro s source destination rest reason delivered refused
    refine ⟨s.refuse reason source (7#8 :: rest), ?_, rfl⟩
    rw [exec_tableRead_now, State.deliverDirective_of_refused delivered refused]
  case pair =>
    refine fun s source => ⟨fun fault => State.cursorPair_of_configFault fault source, fun node => ?_⟩
    rw [State.cursorPair_of_node node]
    exact ⟨fun first => if_pos first, fun other second => by rw [if_neg other, if_pos second],
      fun other neither => by rw [if_neg other, if_neg neither]⟩
  case unheard =>
    intro n entry unheard
    rw [State.neighbourRecord_of_entry entry, s.age_of_unheard unheard, unheard]
    rfl
  case heard =>
    intro n h entry heard
    refine ⟨s.age n, s.age_le n, fun _ => s.age_of_heard heard, ?_⟩
    rw [State.neighbourRecord_of_entry entry, heard]
    rfl

end Sys2Proof.Machine
end

section
/-! PROOFS. What every command keeps: a property that survives the moves of the blocks survives every command and every step. -/

namespace Sys2Proof.Machine

/-! ### Raises, clears, acknowledgements and recomputes -/

/-- `P` survives what the recomputes that are asked for consist of: a FLOOR_SHED mark with its raise or clear, and a recompute up to its
hand-overs. -/
structure KeptByRecomputes (P : State → Prop) : Prop where
  raiseFloor : ∀ {s : State} (subject : Nat), P s → P (s.raiseOnly .floorShed subject)
  clearFloor : ∀ {s : State} (subject : Nat), P s → P (s.clearOnly .floorShed subject)
  marks : ∀ {s : State} (marks : Vector Bool 8), P s → P (s.setAlloc { s.alloc with shedMarks := marks })
  reallocate : ∀ {s : State}, s.alloc.recomputeDue = true → P s → P s.reallocate

namespace KeptByRecomputes

variable {P : State → Prop} (kept : KeptByRecomputes P) {s : State}
include kept

theorem floorShed (h : P s) (before : Vector SlotState 8) (slot : Fin 8) : P (s.floorShed before slot) := by
  unfold State.floorShed
  dsimp only
  split
  · exact kept.raiseFloor _ (kept.marks _ h)
  · split
    exacts [kept.clearFloor _ (kept.marks _ h), h]

theorem floorsShed (h : P s) (before : Vector SlotState 8) (slots : List (Fin 8)) : P (s.floorsShed before slots) := by
  induction slots generalizing s with
  | nil => exact h
  | cons slot rest ih => exact ih (kept.floorShed h before slot)

theorem settleFuel (h : P s) (fuel : Nat) : P (State.settleFuel fuel s) := by
  induction fuel generalizing s with
  | zero => unfold State.settleFuel; split; exacts [kept.reallocate ‹_› h, h]
  | succ fuel ih => unfold State.settleFuel; split; exacts [ih (kept.floorsShed (kept.reallocate ‹_› h) _ _), h]

theorem settle (h : P s) : P s.settle := kept.settleFuel h 4

end KeptByRecomputes

/-- `P` survives one change of the fault table, a FLOOR_SHED mark, and a recompute up to its hand-overs. -/
structure KeptByChanges (P : State → Prop) : Prop where
  raiseOnly : ∀ {s : State} (code : FaultCode) (subject : Nat), P s → P (s.raiseOnly code subject)
  clearOnly : ∀ {s : State} (code : FaultCode) (subject : Nat), P s → P (s.clearOnly code subject)
  ackOneOnly : ∀ {s : State} (code subject : Nat), P s → P (s.ackOneOnly code subject)
  ackAllOnly : ∀ {s : State}, P s → P s.ackAllOnly
  marks : ∀ {s : State} (marks : Vector Bool 8), P s → P (s.setAlloc { s.alloc with shedMarks := marks })
  reallocate : ∀ {s : State}, s.alloc.recomputeDue = true → P s → P s.reallocate

namespace KeptByChanges

variable {P : State → Prop} (kept : KeptByChanges P) {s : State}
include kept

theorem recomputes : KeptByRecomputes P :=
  ⟨fun _ => kept.raiseOnly _ _, fun _ => kept.clearOnly _ _, kept.marks, kept.reallocate⟩

theorem settle (h : P s) : P s.settle := kept.recomputes.settle h

theorem raise (h : P s) (code : FaultCode) (subject : Nat) : P (s.raise code subject) := kept.settle (kept.raiseOnly _ _ h)

theorem clear (h : P s) (code : FaultCode) (subject : Nat) : P (s.clear code subject) := kept.settle (kept.clearOnly _ _ h)

end KeptByChanges

/-! ### The store controller through a change -/

/-- One of the two reads of LOAD is in flight. -/
def StoreCtl.Reads (c : StoreCtl) : Prop :=
  ∃ op, c.operation = some op ∧ (op.operation = .configRead ∨ op.operation = .crashRead)

theorem State.readsInLoad_iff (s : State) : s.ReadsInLoad ↔ (s.ctl.Reads → s.ctl.node = .load) := by
  unfold State.ReadsInLoad StoreCtl.Reads
  cases h : s.ctl.operation with
  | none => simp
  | some op => cases h' : op.operation <;> simp [h']

theorem StoreCtl.requestWrite_reads (c : StoreCtl) (record : CrashRecord) : (c.requestWrite record).Reads → c.Reads := by
  have started : ¬ (c.begin (.crashWrite 0 record)).Reads := by
    rintro ⟨op, h, reads⟩; cases h; simp at reads
  unfold StoreCtl.requestWrite
  split
  · split
    exacts [id, fun reads => absurd reads started]
  · split
    · split <;> exact id
    all_goals exact id

theorem StoreCtl.requestErase_reads (c : StoreCtl) : c.requestErase.Reads → c.Reads := by
  have started : ¬ (c.begin (.crashErase 0 false)).Reads := by
    rintro ⟨op, h, reads⟩; cases h; simp at reads
  unfold StoreCtl.requestErase
  split
  · exact id
  · split
    · exact id
    · split
      exacts [id, id, fun reads => absurd reads started, fun reads => absurd reads started, fun reads => absurd reads started]

theorem StoreCtl.requestErases_reads (c : StoreCtl) (n : Nat) : (c.requestErases n).Reads → c.Reads := by
  induction n generalizing c with
  | zero => exact id
  | succ n ih => exact fun h => c.requestErase_reads (ih _ h)

@[simp] theorem State.serious_ctl (s : State) (code : FaultCode) (subject : Nat) (stamp : EpochCount) :
    (s.serious code subject stamp).ctl = s.ctl := by
  unfold State.serious
  repeat' split
  all_goals rfl

@[simp] theorem State.handOutputs_ctl (s : State) : s.handOutputs.ctl = s.ctl := by
  unfold State.handOutputs State.handDown State.handDerating
  dsimp only
  repeat' split
  all_goals rfl

theorem State.tripped_ctl (s : State) (code : FaultCode) (subject : Nat) (stamp : EpochCount) : (s.tripped code subject stamp).ctl =
    if code.trips then s.ctl.requestWrite (s.crashRecord code subject stamp) else s.ctl := by
  unfold State.tripped
  split <;> rfl

/-- A raise of a code that brings no DOWN asks for no crash write. -/
theorem State.raiseOnly_ctl (s : State) {code : FaultCode} (h : code.trips = false) (subject : Nat) :
    (s.raiseOnly code subject).ctl = s.ctl := by
  simp only [State.raiseOnly, State.handOutputs_ctl]
  split
  · rw [State.tripped_ctl, h]; simp; rfl
  · rfl

theorem State.raiseOnly_reads (s : State) (code : FaultCode) (subject : Nat) : (s.raiseOnly code subject).ctl.Reads → s.ctl.Reads := by
  simp only [State.raiseOnly, State.handOutputs_ctl]
  split
  · rw [State.tripped_ctl]
    split
    · exact fun h => by simpa [State.setTable] using StoreCtl.requestWrite_reads _ _ h
    · rw [State.serious_ctl]; exact id
  · exact id

@[simp] theorem State.clearOnly_ctl (s : State) (code : FaultCode) (subject : Nat) : (s.clearOnly code subject).ctl = s.ctl := by
  simp only [State.clearOnly, State.handOutputs_ctl]; rfl

@[simp] theorem State.reallocate_ctl (s : State) : s.reallocate.ctl = s.ctl := rfl

@[simp] theorem State.floorShed_ctl (s : State) (before : Vector SlotState 8) (slot : Fin 8) : (s.floorShed before slot).ctl = s.ctl := by
  unfold State.floorShed
  dsimp only
  split
  · rw [State.raiseOnly_ctl _ rfl]; rfl
  · split
    · rw [State.clearOnly_ctl]; rfl
    · rfl

@[simp] theorem State.floorsShed_ctl (s : State) (before : Vector SlotState 8) (slots : List (Fin 8)) :
    (s.floorsShed before slots).ctl = s.ctl := by
  induction slots generalizing s with
  | nil => rfl
  | cons slot rest ih => exact (ih _).trans (s.floorShed_ctl before slot)

/-- A recompute raises and clears FLOOR_SHED alone, which asks for no crash write. -/
@[simp] theorem State.settleFuel_ctl (fuel : Nat) (s : State) : (State.settleFuel fuel s).ctl = s.ctl := by
  induction fuel generalizing s with
  | zero => unfold State.settleFuel; split <;> rfl
  | succ n ih => unfold State.settleFuel; split; exacts [(ih _).trans (by simp [State.recompute]), rfl]

@[simp] theorem State.settle_ctl (s : State) : s.settle.ctl = s.ctl := State.settleFuel_ctl 4 s

@[simp] theorem State.recomputeNow_ctl (s : State) : s.recomputeNow.ctl = s.ctl := by simp [State.recomputeNow]

@[simp] theorem State.handOffsets_ctl (s : State) (set : List (Nat × Int)) : (s.handOffsets set).ctl = s.ctl := by
  simp [State.handOffsets]

theorem State.raise_ctl (s : State) {code : FaultCode} (h : code.trips = false) (subject : Nat) : (s.raise code subject).ctl = s.ctl := by
  rw [State.raise, State.settle_ctl, State.raiseOnly_ctl _ h]

@[simp] theorem State.clear_ctl (s : State) (code : FaultCode) (subject : Nat) : (s.clear code subject).ctl = s.ctl := by
  simp [State.clear]

theorem State.raiseEach_ctl (s : State) {code : FaultCode} (h : code.trips = false) (subjects : List Nat) :
    (s.raiseEach code subjects).ctl = s.ctl := by
  induction subjects generalizing s with
  | nil => rfl
  | cons subject rest ih => exact (ih _).trans (s.raise_ctl h subject)

/-! ### Moves of the carriers and of the fault table -/

/-- `t` differs from `s` in the carriers, the fault table, the records and the writer alone: what every invariant of the port, the
store and the queue reads is as it was, and no read has begun. -/
structure State.CarrierStep (s t : State) : Prop where
  pending : t.pending = s.pending
  port : t.port = s.port
  view : t.view = s.view
  request : t.composer.request = s.composer.request
  store : t.store = s.store
  node : t.ctl.node = s.ctl.node
  image : t.ctl.image = s.ctl.image
  reads : t.ctl.Reads → s.ctl.Reads

namespace State.CarrierStep

variable {s t u : State}

theorem refl (s : State) : s.CarrierStep s := ⟨rfl, rfl, rfl, rfl, rfl, rfl, rfl, id⟩

theorem trans (h : s.CarrierStep t) (k : t.CarrierStep u) : s.CarrierStep u :=
  ⟨k.pending.trans h.pending, k.port.trans h.port, k.view.trans h.view, k.request.trans h.request, k.store.trans h.store,
    k.node.trans h.node, k.image.trans h.image, h.reads ∘ k.reads⟩

theorem of_beside (h : s.Beside t) (reads : t.ctl.Reads → s.ctl.Reads) : s.CarrierStep t :=
  ⟨h.pending, h.port, h.view, h.request, h.store, h.node, h.image, reads⟩

theorem setAlloc (h : s.CarrierStep t) (x : Alloc) : s.CarrierStep (t.setAlloc x) :=
  h.trans ⟨rfl, rfl, rfl, rfl, rfl, rfl, rfl, id⟩

theorem setSpread (h : s.CarrierStep t) (x : Spread) : s.CarrierStep (t.setSpread x) :=
  h.trans ⟨rfl, rfl, rfl, rfl, rfl, rfl, rfl, id⟩

theorem changes (s : State) : KeptByChanges s.CarrierStep where
  raiseOnly {t} code subject h := h.trans (of_beside (t.raiseOnly_beside _ _) (t.raiseOnly_reads _ _))
  clearOnly {t} code subject h := h.trans (of_beside (t.clearOnly_beside _ _) (by simp))
  ackOneOnly {t} code subject h := by
    refine h.trans (of_beside (t.ackOneOnly_beside _ _) ?_)
    unfold State.ackOneOnly
    split
    · exact id
    · rw [State.handOutputs_ctl]; exact StoreCtl.requestErases_reads _ _
  ackAllOnly {t} h := by
    refine h.trans (of_beside t.ackAllOnly_beside ?_)
    simp only [State.ackAllOnly, State.handOutputs_ctl]
    exact StoreCtl.requestErases_reads _ _
  marks _ h := h.setAlloc _
  reallocate {t} _ h := h.trans (of_beside t.reallocate_beside id)

theorem recomputeNow (h : s.CarrierStep t) : s.CarrierStep t.recomputeNow := (changes s).settle (h.setAlloc _)

theorem handOffsets (h : s.CarrierStep t) (set : List (Nat × Int)) : s.CarrierStep (t.handOffsets set) :=
  recomputeNow (h.setAlloc _)

theorem maskCarriers (s : State) (form : MaskForm) (named : Byte) : s.CarrierStep (s.maskCarriers form named) :=
  recomputeNow ((refl s).setAlloc _)

theorem spreadClose (s : State) (occupancy : Fin 8 → Option Nat) : s.CarrierStep (s.spreadClose occupancy) := by
  unfold State.spreadClose
  split
  · exact .refl s
  · exact ((refl s).setSpread _).handOffsets _

theorem handLostCount (s : State) : s.CarrierStep s.handLostCount := by
  unfold State.handLostCount
  dsimp only
  split
  · exact (refl s).setSpread _
  · split
    exacts [((refl s).setSpread _).handOffsets _, (refl s).setSpread _]

end State.CarrierStep

end Sys2Proof.Machine
end

section
/-! PROOFS. The moves that commands are made of, and that a property which survives them survives every command. -/

namespace Sys2Proof.Machine

/-! ### The moves -/

/-- `t` agrees with `s` in everything that the invariants read, and no read of LOAD has begun: the clock, the timers, the scanner, the
handler and the like may differ. -/
structure State.SameCore (s t : State) : Prop where
  pending : t.pending = s.pending
  port : t.port = s.port
  table : t.view.table = s.view.table
  spread : t.spread = s.spread
  alloc : t.alloc = s.alloc
  writer : t.writer = s.writer
  faults : t.supervisor.table = s.supervisor.table
  request : t.composer.request = s.composer.request
  node : t.ctl.node = s.ctl.node
  image : t.ctl.image = s.ctl.image
  store : t.store = s.store
  reads : t.ctl.Reads → s.ctl.Reads

/-- The transmitter is off, and nothing is queued, waiting or requested. -/
structure State.TrunkSilent (s : State) : Prop where
  tx : s.port.tx = .silent
  answers : s.port.answers = []
  beacon : s.port.beacon = none
  waiting : s.port.beaconWaiting = false
  request : s.composer.request = none

/-- The port goes on from `s` to `t`: nothing but the port, the composer and the count of draws changes, the receiver and the
transmitter stay as they are, on or off, a queue in bounds stays in bounds, and where the trunk is silent it stays so. -/
structure State.TrunkStep (s t : State) : Prop where
  rest : t = ((s.setPort t.port).setComposer t.composer).setDraws t.draws
  receiver : t.port.receiver = s.port.receiver
  off : t.port.tx = .silent ↔ s.port.tx = .silent
  bounds : s.port.QueueInBounds → t.port.QueueInBounds
  silent : s.TrunkSilent → t.TrunkSilent

theorem State.TrunkStep.refl (s : State) : s.TrunkStep s := ⟨rfl, rfl, Iff.rfl, id, id⟩

/-- The queue and the request stand, and the transmitter is as it was, on or off. -/
theorem State.TrunkStep.of_sameQueue {s t : State} (rest : t = ((s.setPort t.port).setComposer t.composer).setDraws t.draws)
    (port : t.port.receiver = s.port.receiver ∧ t.port.answers = s.port.answers ∧ t.port.beacon = s.port.beacon ∧
      t.port.beaconWaiting = s.port.beaconWaiting)
    (off : t.port.tx = .silent ↔ s.port.tx = .silent) (request : t.composer.request = s.composer.request) : s.TrunkStep t := by
  obtain ⟨receiver, answers, beacon, waiting⟩ := port
  refine ⟨rest, receiver, off, fun h => ⟨?_, ?_, ?_⟩, fun h => ⟨off.mpr h.tx, ?_, ?_, ?_, ?_⟩⟩
  · rw [answers]; exact h.room
  · rw [answers]; exact h.answers
  · rw [beacon]; exact h.beacon
  · rw [answers, h.answers]
  · rw [beacon, h.beacon]
  · rw [waiting, h.waiting]
  · rw [request, h.request]

/-- The port alone changes, with its queue as it was. -/
theorem State.TrunkStep.setPort (s : State) {p : Port}
    (port : p.receiver = s.port.receiver ∧ p.answers = s.port.answers ∧ p.beacon = s.port.beacon ∧
      p.beaconWaiting = s.port.beaconWaiting)
    (off : p.tx = .silent ↔ s.port.tx = .silent) : s.TrunkStep (s.setPort p) := of_sameQueue rfl port off rfl

theorem State.TrunkStep.of_contention {s t : State} (h : s.BesideContention t) (off : t.port.tx = .silent ↔ s.port.tx = .silent) :
    s.TrunkStep t :=
  of_sameQueue h.rest (by rw [h.port]; exact ⟨rfl, rfl, rfl, rfl⟩) off (by rw [h.composer])

/-- What the property `P` must survive to survive every command. `Q` is `P` between a change of the LOST adjacent entries and the
hand-over of their count. -/
structure KeptByCommands (P Q : State → Prop) : Prop where
  core : ∀ {s t : State}, P s → s.SameCore t → P t
  trunk : ∀ {s t : State}, P s → s.TrunkStep t → P t
  requested : ∀ {s : State} (r : BeaconRequest), P s → s.ownId ≠ none → s.ctl.node ≠ .listen →
    P (s.setComposer { s.composer with request := some r })
  answered : ∀ {s : State} (bytes : List Byte), P s → s.ownId ≠ none → s.ctl.node ≠ .listen → s.port.answers.length < 3 →
    P (s.setPort { s.port with answers := s.port.answers ++ [⟨bytes, 1⟩] })
  raise : ∀ {s : State} (code : FaultCode) (subject : Nat), P s → P (s.raise code subject)
  clear : ∀ {s : State} (code : FaultCode) (subject : Nat), P s → P (s.clear code subject)
  ackOne : ∀ {s : State} (code subject : Nat), P s → P (s.ackOneOnly code subject).settle
  ackAll : ∀ {s : State}, P s → P s.ackAllOnly.settle
  credits : ∀ {s : State} {f : FaultEntry → FaultEntry} (u : Supervisor), P s → (∀ e, (f e).key = e.key) →
    u.table = mapEntries f s.supervisor.table → P (s.setSupervisor u)
  spreadClose : ∀ {s : State} (occupancy : Fin 8 → Option Nat), P s → P (s.spreadClose occupancy)
  pendingMode : ∀ {s : State} (mode : SpreadMode), P s → P (s.setPendingMode mode)
  maskCarriers : ∀ {s : State} (form : MaskForm) (named : Byte), P s → P (s.maskCarriers form named)
  rampTick : ∀ {s : State}, P s → P s.rampTick
  writeEnds : ∀ {s : State}, P s → P s.writeEnds
  entries : ∀ {s : State} (table : Vector (Option Neighbour) 16), P s →
    (∀ p : Fin 16, p.val < 8 → (table[p].map Neighbour.state = some .lost ↔ s.view.table[p].map Neighbour.state = some .lost) ∧
      (s.view.table[p] = none → table[p] = none)) → P (s.setView { s.view with table := table })
  losses : ∀ {s : State} (table : Vector (Option Neighbour) 16), P s →
    (∀ p : Fin 16, p.val < 8 → s.view.table[p] = none → table[p] = none) → Q (s.setView { s.view with table := table })
  raiseLosing : ∀ {s : State} (code : FaultCode) (subject : Nat), Q s → Q (s.raise code subject)
  clearLosing : ∀ {s : State} (code : FaultCode) (subject : Nat), Q s → Q (s.clear code subject)
  handLostCount : ∀ {s : State}, Q s → P s.handLostCount
  start : ∀ {s : State} (kind : StartKind), P s → kind ≠ .restart → P (s.enterLoad kind)
  restart : ∀ {s : State}, P s → P (((s.enterLoad .restart).clearOnly .trunkBusy 0).clearOnly .trunkNoise 0)
  writeBytes : ∀ {s : State} (address : Nat) (bytes : List Byte), P s → P (s.setStore (s.store.writeBytes address bytes))
  takeImage : ∀ {s : State} (held : HeldImage), P s → s.ctl.Reads → (∀ image, held = .usable image → image.InRange) →
    P (s.setCtl { s.ctl with image := held })
  leaveLoad : ∀ {s t : State}, P s → s.ctl.Reads → P t → t.ctl.node = s.ctl.node → t.ctl.operation = none → P t.leaveLoad
  enterRun : ∀ {s : State}, P s → s.ctl.node = .listen → P s.enterRun

/-! ### The port's own operations as moves -/

theorem State.drawBackoff_trunk (s : State) {frozen : Option Nat} (h : s.port.tx = .idle ∨ s.port.tx = .gap frozen) :
    s.TrunkStep s.drawBackoff := by
  refine .of_contention s.drawBackoff_beside ?_
  have off : s.drawBackoff.port.tx ≠ .silent := by
    show (if _ then TxState.sending _ else .countdown _) ≠ TxState.silent
    split <;> simp
  obtain h | h := h <;> simp [h, off]

theorem State.sendIf_trunk (s : State) (now : Bool) (b : Nat) (h : s.port.tx ≠ .silent) :
    s.TrunkStep (s.sendIf now (.countdown b)) := by
  refine .of_contention (s.sendIf_beside _ _) ?_
  have off : (s.sendIf now (.countdown b)).port.tx ≠ .silent := by
    show (if _ then TxState.sending _ else .countdown _) ≠ TxState.silent
    split <;> simp
  simp [h, off]

theorem State.contend_trunk (s : State) : s.TrunkStep s.contend := by
  unfold State.contend
  split
  next idle =>
    split
    · exact .refl s
    · split
      · exact s.drawBackoff_trunk (frozen := none) (.inl idle)
      all_goals exact .setPort s ⟨rfl, rfl, rfl, rfl⟩ (by simp [idle])
  all_goals exact .refl s

theorem State.gapDone_trunk (s : State) : s.TrunkStep s.gapDone := by
  unfold State.gapDone
  split
  next h => exact s.drawBackoff_trunk (.inr h)
  next h => exact s.sendIf_trunk _ _ (by simp [h])
  all_goals exact .refl s

theorem State.slotComplete_trunk (s : State) : s.TrunkStep s.slotComplete := by
  unfold State.slotComplete
  split
  next h => exact s.sendIf_trunk _ _ (by simp [h])
  all_goals exact .refl s

theorem Port.lostSlot_silent (p : Port) : p.lostSlot = .silent ↔ p.tx = .silent := by
  unfold Port.lostSlot
  cases p.tx <;> simp

theorem State.lineActivity_trunk (s : State) : s.TrunkStep s.lineActivity :=
  .setPort s ⟨rfl, rfl, rfl, rfl⟩ s.port.lostSlot_silent

theorem Port.endContention_eq (p : Port) : p.endContention = { p with tx := p.endContention.tx } := by
  unfold Port.endContention
  repeat' split
  all_goals rfl

theorem Port.endContention_silent (p : Port) : p.endContention.tx = .silent ↔ p.tx = .silent := by
  unfold Port.endContention
  cases h : p.tx <;> simp [apply_ite Port.tx, h] <;> split <;> simp

theorem Port.markOnLine_eq (p : Port) (f : Attempt → Attempt) : p.markOnLine f = { p with tx := (p.markOnLine f).tx } := by
  unfold Port.markOnLine
  split <;> rfl

theorem Port.markOnLine_silent (p : Port) (f : Attempt → Attempt) : (p.markOnLine f).tx = .silent ↔ p.tx = .silent := by
  unfold Port.markOnLine
  cases h : p.tx <;> simp [h]

/-- A beacon is taken from the slot or a waiting one forgotten, and the transmitter is as it was, on or off. -/
theorem State.TrunkStep.withdrawn {s t : State} (rest : t = ((s.setPort t.port).setComposer t.composer).setDraws t.draws)
    (receiver : t.port.receiver = s.port.receiver) (answers : t.port.answers = s.port.answers)
    (beacon : t.port.beacon = none ∨ t.port.beacon = s.port.beacon)
    (waiting : t.port.beaconWaiting = false ∨ t.port.beaconWaiting = s.port.beaconWaiting)
    (off : t.port.tx = .silent ↔ s.port.tx = .silent)
    (request : t.composer.request = none ∨ t.composer.request = s.composer.request) : s.TrunkStep t := by
  refine ⟨rest, receiver, off, fun h => ⟨?_, ?_, ?_⟩, fun h => ⟨off.mpr h.tx, ?_, ?_, ?_, ?_⟩⟩
  · rw [answers]; exact h.room
  · rw [answers]; exact h.answers
  · intro n held
    obtain none_ | same := beacon
    · cases none_.symm.trans held
    · exact h.beacon n (same ▸ held)
  · rw [answers, h.answers]
  · obtain e | e := beacon
    exacts [e, e.trans h.beacon]
  · obtain e | e := waiting
    exacts [e, e.trans h.waiting]
  · obtain e | e := request
    exacts [e, e.trans h.request]

theorem State.applyQuiet_trunk (s : State) : s.TrunkStep s.applyQuiet := by
  unfold State.applyQuiet
  dsimp only
  split
  · exact .refl s
  · split
    next onLine =>
      rw [Port.markOnLine_eq]
      exact .withdrawn rfl rfl rfl (.inr rfl) (.inl rfl) (Port.markOnLine_silent _ _) (.inl rfl)
    next =>
      rw [Port.endContention_eq]
      exact .withdrawn rfl rfl rfl (.inl rfl) (.inl rfl) (Port.endContention_silent _) (.inl rfl)

theorem retryAnswers_length (answers : List QueuedAnswer) : (retryAnswers answers).length ≤ answers.length := by
  unfold retryAnswers
  split
  · simp
  · split <;> simp

theorem retryAnswers_attempt {answers : List QueuedAnswer} (h : ∀ a ∈ answers, 1 ≤ a.attempt ∧ a.attempt ≤ 8) :
    ∀ a ∈ retryAnswers answers, 1 ≤ a.attempt ∧ a.attempt ≤ 8 := by
  unfold retryAnswers
  split
  · simp
  next a rest =>
    have first := h a (by simp)
    have others : ∀ b ∈ rest, 1 ≤ b.attempt ∧ b.attempt ≤ 8 := fun b hb => h b (by simp [hb])
    split
    · exact others
    · intro b hb
      obtain rfl | hb := List.mem_cons.mp hb
      · dsimp only; omega
      · exact others b hb

/-- The end of an attempt: from SENDING the port goes on with a queue in bounds where it was in bounds. -/
theorem State.TrunkStep.of_sending {s t : State} {a : Attempt} (sending : s.port.tx = .sending a)
    (rest : t = ((s.setPort t.port).setComposer t.composer).setDraws t.draws) (receiver : t.port.receiver = s.port.receiver)
    (on : t.port.tx ≠ .silent) (bounds : s.port.QueueInBounds → t.port.QueueInBounds) : s.TrunkStep t :=
  ⟨rest, receiver, by simp [on, sending], bounds, fun h => by simp [h.tx] at sending⟩

theorem Port.admitWaiting_bounds {p : Port} (h : p.QueueInBounds) : p.admitWaiting.QueueInBounds := by
  unfold Port.admitWaiting
  split
  · exact ⟨h.room, h.answers, fun n held => by cases held; omega⟩
  · exact h

theorem Port.admitWaiting_receiver (p : Port) : p.admitWaiting.receiver = p.receiver := by
  unfold Port.admitWaiting; split <;> rfl

/-- Bounds rest on the queue alone. -/
theorem Port.QueueInBounds.of_same {p q : Port} (h : p.QueueInBounds) (answers : q.answers = p.answers) (beacon : q.beacon = p.beacon) :
    q.QueueInBounds := ⟨answers ▸ h.room, answers ▸ h.answers, beacon ▸ h.beacon⟩

theorem State.TrunkStep.trans {s t u : State} (h : s.TrunkStep t) (k : t.TrunkStep u) : s.TrunkStep u where
  rest := by rw [k.rest, h.rest]; rfl
  receiver := k.receiver.trans h.receiver
  off := k.off.trans h.off
  bounds := k.bounds ∘ h.bounds
  silent := k.silent ∘ h.silent

theorem State.afterCollision_trunk {s : State} {a : Attempt} (sending : s.port.tx = .sending a) : s.TrunkStep s.afterCollision := by
  refine .of_sending sending rfl s.port.admitWaiting_receiver ?_ fun h => (Port.admitWaiting_bounds h).of_same rfl rfl
  show (if _ then TxState.idle else .gap none) ≠ .silent
  split <;> simp

theorem State.afterClean_trunk {s : State} {a : Attempt} (sending : s.port.tx = .sending a) : s.TrunkStep s.afterClean := by
  unfold State.afterClean
  refine State.TrunkStep.trans ?_ (State.contend_trunk _)
  exact .of_sending sending rfl s.port.admitWaiting_receiver nofun fun h => (Port.admitWaiting_bounds h).of_same rfl rfl

end Sys2Proof.Machine
end

section
/-! PROOFS. A property that survives the moves of `KeptByCommands` survives every command and every step. -/

namespace Sys2Proof.Machine

/-! ### Positions of the neighbour table -/

theorem pinnedKind_beyond {position : Fin 16} (h : pinnedKind position ≠ .adjacent) : 8 ≤ position.val := by
  unfold pinnedKind at h
  split at h
  · contradiction
  · omega

theorem State.mostSilent_mem (s : State) (best : Fin 16) (positions : List (Fin 16)) :
    s.mostSilent best positions ∈ best :: positions := by
  induction positions generalizing best with
  | nil => simp [State.mostSilent]
  | cons p rest ih =>
    unfold State.mostSilent
    split
    · exact List.mem_cons_of_mem _ (ih p)
    · obtain h | h := List.mem_cons.mp (ih best)
      · rw [h]; simp
      · simp [h]

/-- A station new to the table takes an unpinned position (R26, R27). -/
theorem State.newPosition_unpinned (s : State) : 10 ≤ s.newPosition.val := by
  have range : ∀ p ∈ unpinnedPositions, 10 ≤ p.val := by decide
  unfold State.newPosition
  split
  next p found => exact range p (List.mem_of_find?_eq_some found)
  next => exact range _ (s.mostSilent_mem 10 _)

namespace KeptByCommands

variable {P Q : State → Prop} (kept : KeptByCommands P Q) {s : State}
include kept

/-! ### What no invariant reads -/

theorem advance (h : P s) (ms : Nat) : P (s.advance ms) :=
  kept.core h ⟨rfl, rfl, rfl, rfl, rfl, rfl, rfl, rfl, rfl, rfl, rfl, id⟩

theorem advanceTo (h : P s) (moment : Ms) (ms : Nat) : P (s.advanceTo moment ms) := kept.advance h _

theorem setScanner (h : P s) (x : Scanner) : P (s.setScanner x) :=
  kept.core h ⟨rfl, rfl, rfl, rfl, rfl, rfl, rfl, rfl, rfl, rfl, rfl, id⟩

theorem setHandler (h : P s) (x : Handler) : P (s.setHandler x) :=
  kept.core h ⟨rfl, rfl, rfl, rfl, rfl, rfl, rfl, rfl, rfl, rfl, rfl, id⟩

theorem drawn (h : P s) : P s.drawn := kept.core h ⟨rfl, rfl, rfl, rfl, rfl, rfl, rfl, rfl, rfl, rfl, rfl, id⟩

theorem setView (h : P s) {x : View} (table : x.table = s.view.table) : P (s.setView x) :=
  kept.core h ⟨rfl, rfl, table, rfl, rfl, rfl, rfl, rfl, rfl, rfl, rfl, id⟩

theorem setSupervisor (h : P s) {x : Supervisor} (table : x.table = s.supervisor.table) : P (s.setSupervisor x) :=
  kept.core h ⟨rfl, rfl, rfl, rfl, rfl, rfl, table, rfl, rfl, rfl, rfl, id⟩

theorem setCtl (h : P s) {x : StoreCtl} (node : x.node = s.ctl.node) (image : x.image = s.ctl.image)
    (reads : x.Reads → s.ctl.Reads) : P (s.setCtl x) :=
  kept.core h ⟨rfl, rfl, rfl, rfl, rfl, rfl, rfl, rfl, node, image, rfl, reads⟩

theorem forgetCarried (h : P s) : P s.forgetCarried :=
  kept.core h ⟨rfl, rfl, rfl, rfl, rfl, rfl, rfl, rfl, rfl, rfl, rfl, id⟩

/-- The port changes with its queue as it was, and the transmitter as it was, on or off. -/
theorem setPort (h : P s) {p : Port}
    (port : p.receiver = s.port.receiver ∧ p.answers = s.port.answers ∧ p.beacon = s.port.beacon ∧
      p.beaconWaiting = s.port.beaconWaiting)
    (off : p.tx = .silent ↔ s.port.tx = .silent) : P (s.setPort p) := kept.trunk h (.setPort s port off)

/-! ### Credits (R152, R154) -/

theorem spendCarried (h : P s) : P s.spendCarried := by
  refine forgetCarried kept (kept.credits (f := fun e =>
    if s.composer.carried.contains e.key then { e with credit := e.credit - 1 } else e) _ h (fun e => ?_) rfl)
  split <;> rfl

theorem settleReCredit (h : P s) : P s.settleReCredit := by
  unfold State.settleReCredit
  split
  · refine kept.credits (f := fun e => if e.alarms then { e with credit := max e.credit 1 } else e) _ h (fun e => ?_) rfl
    split <;> rfl
  · exact h

theorem countReCredit (h : P s) : P s.countReCredit := by
  unfold State.countReCredit
  dsimp only
  split <;> exact kept.setSupervisor (kept.settleReCredit h) rfl

theorem raiseEach (h : P s) (code : FaultCode) (subjects : List Nat) : P (s.raiseEach code subjects) := by
  induction subjects generalizing s with
  | nil => exact h
  | cons subject rest ih => exact ih (kept.raise _ _ h)

/-! ### The measurement scanner -/

theorem resetWindowOf (h : P s) (channel : Fin 11) : P (s.resetWindowOf channel) := by
  unfold State.resetWindowOf
  split
  exacts [kept.setScanner h _, h]

theorem watchStuck (h : P s) (channel : Fin 11) (code : DetectorCode) : P (s.watchStuck channel code) := by
  unfold State.watchStuck
  dsimp only
  split
  · exact kept.raise _ _ (kept.setScanner h _)
  · split
    exacts [kept.clear _ _ (kept.resetWindowOf (kept.setScanner h _) _), kept.setScanner h _]

theorem countSample (h : P s) (slot : Fin 8) (code : DetectorCode) : P (s.countSample slot code) := by
  unfold State.countSample
  split
  exacts [h, kept.setScanner h _]

/-- A condition of the scanner is raised in the table where `p` asks for it. -/
theorem raiseWhere (h : P s) {p : Prop} {_ : Decidable p} {x : Scanner} {code : FaultCode} {subject : Nat} :
    P (if p then (s.setScanner x).raise code subject else s) := by
  split
  exacts [kept.raise _ _ (kept.setScanner h _), h]

/-- A condition of the scanner is cleared in the table where `p` asks for it. -/
theorem clearWhere (h : P s) {p : Prop} {_ : Decidable p} {x : Scanner} {code : FaultCode} {subject : Nat} :
    P (if p then (s.setScanner x).clear code subject else s) := by
  split
  exacts [kept.clear _ _ (kept.setScanner h _), h]

theorem judgeWarn (h : P s) : P s.judgeWarn := by
  unfold State.judgeWarn
  split
  exacts [kept.raise _ _ (kept.setScanner h _), kept.clearWhere h]

theorem judgeTrip (h : P s) : P s.judgeTrip := kept.raiseWhere h

theorem evaluatePair (h : P s) (reflected : DetectorCode) : P (s.evaluatePair reflected) := by
  unfold State.evaluatePair
  dsimp only
  split
  · exact h
  · split
    exacts [kept.setScanner h _, kept.judgeTrip (kept.judgeWarn (kept.setScanner (kept.setScanner h _) _))]

theorem judgeTemperature (h : P s) (code : Nat) : P (s.judgeTemperature code) :=
  kept.clearWhere (kept.clearWhere (kept.clearWhere (kept.raiseWhere (kept.raiseWhere (kept.raiseWhere h)))))

theorem useResult (h : P s) (channel : Fin 11) (code : DetectorCode) : P (s.useResult channel code) := by
  unfold State.useResult
  split
  · exact kept.countSample h _ _
  · split
    · exact kept.setScanner h _
    · split
      · exact kept.evaluatePair h _
      · unfold State.takeTemperature
        dsimp only
        split
        exacts [kept.setScanner h _, kept.judgeTemperature (kept.setScanner h _) _]

theorem conversionEnds (h : P s) (code : DetectorCode) : P (s.conversionEnds code) := by
  unfold State.conversionEnds
  split
  · exact h
  · unfold State.convert
    split
    exacts [h, kept.setScanner (kept.useResult (kept.watchStuck h _ _) _ _) _]

theorem releaseTrip (h : P s) : P s.releaseTrip := by
  unfold State.releaseTrip
  dsimp only
  split
  · split
    exacts [kept.clear _ _ (kept.setScanner (kept.setScanner h _) _), kept.setScanner h _]
  · exact h

theorem acknowledge (h : P s) (selector : AckSelector) : P (s.acknowledge selector) := by
  cases selector with
  | all => exact kept.setScanner (kept.ackAll h) _
  | one code subject =>
    have acked := kept.ackOne code subject h
    unfold State.acknowledge
    dsimp only
    split
    exacts [kept.setScanner acked _, acked]

/-! ### The neighbour view -/

theorem raiseLoss (h : P s) (position : Fin 16) (id : Nat) : P (s.raiseLoss position id) := by
  unfold State.raiseLoss
  split
  exacts [kept.raise _ _ h, h]

theorem clearLoss (h : P s) (position : Fin 16) (id : Nat) : P (s.clearLoss position id) := by
  unfold State.clearLoss
  split
  exacts [kept.clear _ _ h, h]

theorem raiseLosing' (h : Q s) (position : Fin 16) (id : Nat) : Q (s.raiseLoss position id) := by
  unfold State.raiseLoss
  split
  exacts [kept.raiseLosing _ _ h, h]

theorem clearLosing' (h : Q s) (position : Fin 16) (id : Nat) : Q (s.clearLoss position id) := by
  unfold State.clearLoss
  split
  exacts [kept.clearLosing _ _ h, h]

/-- An entry outside the adjacent positions is replaced. -/
theorem setEntry_beyond (h : P s) {position : Fin 16} (beyond : 8 ≤ position.val) (entry : Option Neighbour) :
    P (s.setEntry position entry) := by
  refine kept.entries _ h fun p below => ?_
  have : position.val ≠ p.val := by omega
  simp [this]

/-- An entry is replaced by one that is LOST exactly where it was. -/
theorem setEntry_same (h : P s) {position : Fin 16} {n n' : Neighbour} (held : s.view.table[position] = some n)
    (lost : n'.state = .lost ↔ n.state = .lost) : P (s.setEntry position (some n')) := by
  refine kept.entries _ h fun p below => ?_
  by_cases same : position = p
  · subst same; simp [held, lost]
  · have : position.val ≠ p.val := Fin.val_ne_of_ne same
    simp [this]

/-- An entry is replaced by another; the count of LOST adjacent ones has still to be handed. -/
theorem setEntry_losing (h : P s) {position : Fin 16} {n : Neighbour} (held : s.view.table[position] = some n) (n' : Neighbour) :
    Q (s.setEntry position (some n')) := by
  refine kept.losses _ h fun p below empty => ?_
  have : position.val ≠ p.val := fun e => by
    obtain rfl : position = p := Fin.ext e
    simp [held] at empty
  simpa [Vector.getElem_set, this] using empty

theorem storeBeacon (h : P s) {position : Fin 16} {n : Neighbour} (held : s.view.table[position] = some n) (heard : Heard) :
    P (s.storeBeacon position n heard) := by
  unfold State.storeBeacon
  dsimp only
  split
  next live => exact kept.setEntry_same h held (by simp [live])
  next suspect => exact kept.setEntry_same h held (by simp [suspect])
  next absent => exact kept.clearLoss (kept.setEntry_same h held (by simp [absent])) _ _
  next lost =>
    split
    · exact kept.handLostCount (kept.clearLosing' (kept.setEntry_losing h held _) _ _)
    next beyond => exact kept.clearLoss (kept.setEntry_beyond h (pinnedKind_beyond beyond) _) _ _

theorem settleClash (h : P s) : P s.settleClash := by
  unfold State.settleClash
  split
  · exact h
  · split
    exacts [kept.clear _ _ (kept.setView h rfl), h]

theorem countClash (h : P s) : P s.countClash := by
  unfold State.countClash
  dsimp only
  split
  exacts [kept.settleClash h, kept.setView (kept.settleClash h) rfl]

theorem takeBeacon (h : P s) (source : Nat) (payload : List Byte) : P (s.takeBeacon source payload) := by
  unfold State.takeBeacon
  dsimp only
  split
  · exact kept.setView (kept.raise _ _ (kept.settleClash h)) rfl
  · split
    · exact kept.setEntry_beyond h (by have := s.newPosition_unpinned; omega) _
    · split
      next held => exact kept.storeBeacon h held _
      next => exact h

theorem suspectLimit (h : P s) (position : Fin 16) : P (s.suspectLimit position) := by
  unfold State.suspectLimit
  split
  · exact h
  next n held =>
    split
    next live _ => exact kept.setEntry_same (kept.advanceTo h _ _) held (by simp [live])
    next => exact h

theorem lostLimit (h : P s) (position : Fin 16) : P (s.lostLimit position) := by
  unfold State.lostLimit
  split
  · exact h
  next n held =>
    split
    · dsimp only
      split
      next kind => exact kept.setEntry_beyond (kept.advanceTo h _ _) (pinnedKind_beyond (by simp [kind])) _
      next kind =>
        exact kept.raiseLoss (kept.setEntry_beyond (kept.advanceTo h _ _) (pinnedKind_beyond (by simp [kind])) _) _ _
      next =>
        exact kept.handLostCount (kept.raiseLosing' (kept.setEntry_losing (kept.advanceTo h _ _) held _) _ _)
    · exact h

theorem raiseLosses (h : Q s) (before : Vector (Option Neighbour) 16) (positions : List (Fin 16)) :
    Q (s.raiseLosses before positions) := by
  induction positions generalizing s with
  | nil => exact h
  | cons p rest ih =>
    unfold State.raiseLosses
    split
    · split
      exacts [ih (kept.raiseLosing' h _ _), ih h]
    · exact ih h

theorem startUpLimit (h : P s) : P s.startUpLimit := by
  unfold State.startUpLimit
  split
  · exact h
  · refine kept.handLostCount (kept.raiseLosses (kept.losses _ (kept.advanceTo h _ _) fun p _ empty => ?_) _ _)
    rw [tab_getElem, empty]; rfl

/-! ### The trunk port -/

theorem contend (h : P s) : P s.contend := kept.trunk h s.contend_trunk

theorem gapComplete (h : P s) : P s.gapComplete := by
  have seen (line : LineView) (footing : Bool) (overlap : Option AttemptEnd) :
      P (s.setPort { s.port with line := line, footing := footing, overlap := overlap }) :=
    kept.setPort h ⟨rfl, rfl, rfl, rfl⟩ Iff.rfl
  unfold State.gapComplete
  split
  exacts [h, seen _ _ _, seen _ _ _, kept.trunk (seen _ _ _) (State.gapDone_trunk _), seen _ _ _]

theorem dropBeacon (h : P s) : P s.dropBeacon := by
  have counted : P (s.setPort { s.port with failures := saturate 255 s.port.failures }) :=
    kept.setPort h ⟨rfl, rfl, rfl, rfl⟩ Iff.rfl
  unfold State.dropBeacon
  dsimp only
  split
  exacts [kept.raise _ _ (kept.setPort counted ⟨rfl, rfl, rfl, rfl⟩ Iff.rfl), counted]

theorem beaconDelivered (h : P s) : P s.beaconDelivered := by
  have delivered : P (s.setPort { s.port with failures := 0, busyStanding := false }) :=
    kept.setPort h ⟨rfl, rfl, rfl, rfl⟩ Iff.rfl
  unfold State.beaconDelivered
  dsimp only
  split
  exacts [kept.clear _ _ delivered, delivered]

/-- A beacon is taken from the slot. -/
theorem takeFromSlot (h : P s) {p : Port} (port : p = { s.port with beacon := none, tx := p.tx })
    (off : p.tx = .silent ↔ s.port.tx = .silent) : P (s.setPort p) :=
  kept.trunk h (.withdrawn rfl (by rw [port]; rfl) (by rw [port]; rfl) (.inl (by rw [port]; rfl)) (.inr (by rw [port]; rfl)) off
    (.inr rfl))

end KeptByCommands

/-- A dropped beacon leaves the transmitter as it is. -/
@[simp] theorem State.dropBeacon_tx (s : State) : s.dropBeacon.port.tx = s.port.tx := by rw [s.dropBeacon_beside.2]

@[simp] theorem State.beaconDelivered_port (s : State) :
    s.beaconDelivered.port = { s.port with failures := 0, busyStanding := false } := by
  unfold State.beaconDelivered
  dsimp only
  split
  · rw [(State.clear_beside _ _ _).port]; rfl
  · rfl

theorem State.retryBeacon_tx (s : State) : s.retryBeacon.port.tx = s.port.tx := by
  unfold State.retryBeacon
  dsimp only
  split <;> simp

namespace KeptByCommands

variable {P Q : State → Prop} (kept : KeptByCommands P Q) {s : State}
include kept

theorem cleanFrame (h : P s) : P s.cleanFrame := by
  unfold State.cleanFrame
  split
  next a sending =>
    split
    · refine kept.trunk (s := s.setPort { s.port with answers := s.port.answers.drop 1 }) (kept.trunk h ?_)
        (State.afterClean_trunk sending)
      refine .of_sending sending rfl rfl (by simp [sending]) fun bounds => ⟨?_, fun a ha => ?_, bounds.beacon⟩
      · have := bounds.room; simp; omega
      · exact bounds.answers a (List.mem_of_mem_drop ha)
    · have spent : P ((s.spendCarried).setPort { s.port with beacon := none }) :=
        kept.takeFromSlot (kept.spendCarried h) rfl Iff.rfl
      exact kept.trunk (kept.beaconDelivered spent) (State.afterClean_trunk (a := a) (by simp [sending]))
  all_goals exact h

theorem retryBeacon (h : P s) {a : Attempt} (sending : s.port.tx = .sending a) : P s.retryBeacon := by
  unfold State.retryBeacon
  dsimp only
  split
  · exact kept.dropBeacon (kept.takeFromSlot h rfl Iff.rfl)
  next more =>
    refine kept.trunk h (.of_sending sending rfl rfl (by simp [sending]) fun bounds => ⟨bounds.room, bounds.answers, ?_⟩)
    rintro n ⟨⟩
    cases held : s.port.beacon with
    | none => simp
    | some m =>
      have := bounds.beacon m held
      simp only [held, Option.getD_some] at more ⊢
      omega

theorem collision (h : P s) : P s.collision := by
  have forgotten := kept.forgetCarried h
  have slot : P (s.forgetCarried.setPort { s.port with beacon := none }) := kept.takeFromSlot forgotten rfl Iff.rfl
  unfold State.collision
  split
  next a sending =>
    split
    · refine kept.trunk (s := s.setPort { s.port with answers := retryAnswers s.port.answers }) (kept.trunk h ?_)
        (State.afterCollision_trunk sending)
      exact .of_sending sending rfl rfl (by simp [sending]) fun bounds =>
        ⟨(retryAnswers_length _).trans bounds.room, retryAnswers_attempt bounds.answers, bounds.beacon⟩
    · exact kept.trunk (kept.retryBeacon forgotten sending)
        (State.afterCollision_trunk (a := a) ((State.retryBeacon_tx _).trans sending))
    · exact kept.trunk (kept.dropBeacon slot) (State.afterCollision_trunk (a := a) ((State.dropBeacon_tx _).trans sending))
    · exact kept.trunk slot (State.afterCollision_trunk (a := a) sending)
  all_goals exact h

theorem supersedeBeacon (h : P s) : P s.supersedeBeacon := by
  unfold State.supersedeBeacon
  split
  · rw [Port.markOnLine_eq]
    exact kept.setPort h ⟨rfl, rfl, rfl, rfl⟩ (Port.markOnLine_silent _ _)
  · split
    · exact h
    · rw [Port.endContention_eq]
      exact kept.dropBeacon (kept.takeFromSlot h rfl (Port.endContention_silent _))

theorem supersedeRequest (h : P s) : P s.supersedeRequest := by
  unfold State.supersedeRequest
  split
  · exact kept.dropBeacon (kept.trunk h (.withdrawn rfl rfl rfl (.inr rfl) (.inl rfl) Iff.rfl (.inl rfl)))
  · exact h

theorem jitterEnd (h : P s) : P s.jitterEnd := by
  unfold State.jitterEnd
  dsimp only
  split
  · exact h
  next request held =>
    have later := kept.advanceTo h request.since request.jitter
    have held : ¬ (s.advanceTo request.since request.jitter).TrunkSilent := fun silent => by
      cases held.symm.trans silent.request
    split
    · exact kept.trunk later ⟨rfl, rfl, Iff.rfl, fun bounds => ⟨bounds.room, bounds.answers, bounds.beacon⟩, (absurd · held)⟩
    · refine kept.contend (kept.trunk later ⟨rfl, rfl, Iff.rfl, fun bounds => ⟨bounds.room, bounds.answers, ?_⟩, (absurd · held)⟩)
      rintro n ⟨⟩
      omega

theorem settleNoise (h : P s) : P s.settleNoise := by
  unfold State.settleNoise
  split
  exacts [kept.clear _ _ (kept.setPort h ⟨rfl, rfl, rfl, rfl⟩ Iff.rfl), h]

theorem countBadFrame (h : P s) : P s.countBadFrame := by
  have counted (n : Nat) : P (s.settleNoise.setPort { s.settleNoise.port with badFrames := n }) :=
    kept.setPort (kept.settleNoise h) ⟨rfl, rfl, rfl, rfl⟩ Iff.rfl
  unfold State.countBadFrame
  dsimp only
  split
  exacts [kept.raise _ _ (kept.setPort (counted _) ⟨rfl, rfl, rfl, rfl⟩ Iff.rfl), counted _]

theorem closeNoiseWindow (h : P s) : P s.closeNoiseWindow :=
  kept.setPort (kept.settleNoise h) ⟨rfl, rfl, rfl, rfl⟩ Iff.rfl

theorem firstIdle (h : P s) : P s.firstIdle := by
  unfold State.firstIdle
  split
  exacts [kept.setPort h ⟨rfl, rfl, rfl, rfl⟩ Iff.rfl, h]

end KeptByCommands

end Sys2Proof.Machine
end

section
/-! PROOFS. Starts, directives and the dispatch: a property that survives the moves survives every command and every step. -/

namespace Sys2Proof.Machine

/-! ### The store controller beside the trunk and the view -/

@[simp] theorem State.dropBeacon_ctl (s : State) : s.dropBeacon.ctl = s.ctl := by
  unfold State.dropBeacon
  dsimp only
  split
  · rw [State.raise_ctl _ rfl]; rfl
  · rfl

@[simp] theorem State.supersedeRequest_ctl (s : State) : s.supersedeRequest.ctl = s.ctl := by
  unfold State.supersedeRequest
  split <;> simp

@[simp] theorem State.supersedeBeacon_ctl (s : State) : s.supersedeBeacon.ctl = s.ctl := by
  unfold State.supersedeBeacon
  repeat' split
  all_goals simp

@[simp] theorem State.requestBeacon_ctl (s : State) : s.requestBeacon.ctl = s.ctl := by
  unfold State.requestBeacon
  split
  · rfl
  · simp [State.drawn]

@[simp] theorem State.settleNoise_ctl (s : State) : s.settleNoise.ctl = s.ctl := by
  unfold State.settleNoise
  split <;> simp

@[simp] theorem State.closeNoiseWindow_ctl (s : State) : s.closeNoiseWindow.ctl = s.ctl := by
  simp [State.closeNoiseWindow]

@[simp] theorem State.settleClash_ctl (s : State) : s.settleClash.ctl = s.ctl := by
  unfold State.settleClash
  repeat' split
  all_goals simp

@[simp] theorem State.countClash_ctl (s : State) : s.countClash.ctl = s.ctl := by
  unfold State.countClash
  dsimp only
  split <;> simp

@[simp] theorem State.settleReCredit_ctl (s : State) : s.settleReCredit.ctl = s.ctl := by
  unfold State.settleReCredit
  split <;> rfl

@[simp] theorem State.countReCredit_ctl (s : State) : s.countReCredit.ctl = s.ctl := by
  unfold State.countReCredit
  dsimp only
  split <;> simp

@[simp] theorem State.spreadClose_ctl (s : State) (occupancy : Fin 8 → Option Nat) : (s.spreadClose occupancy).ctl = s.ctl := by
  unfold State.spreadClose
  split <;> simp

@[simp] theorem State.closeLoads_ctl (s : State) : s.closeLoads.ctl = s.ctl := by simp [State.closeLoads, State.openWindows]

@[simp] theorem State.expiryWork_ctl (s : State) : s.expiryWork.ctl = s.ctl := by simp [State.expiryWork]

@[simp] theorem State.epochMoment_node (s : State) (moment : Ms) (interval : Nat) :
    (s.epochMoment moment interval).ctl.node = s.ctl.node := rfl

theorem State.ownId_of_ctl {s t : State} (ctl : t.ctl = s.ctl) : t.ownId = s.ownId := by
  simp [State.ownId, State.cfg, ctl]

theorem StoreCtl.reads_of_configRead {c : StoreCtl} {op : InFlight} (flight : c.operation = some op) (h : op.operation = .configRead) :
    c.Reads := ⟨op, flight, .inl h⟩

theorem StoreCtl.reads_of_crashRead {c : StoreCtl} {op : InFlight} (flight : c.operation = some op) (h : op.operation = .crashRead) :
    c.Reads := ⟨op, flight, .inr h⟩

theorem StoreCtl.not_reads_of_idle {c : StoreCtl} (idle : c.operation = none) : ¬ c.Reads := by
  rintro ⟨op, flight, -⟩
  cases idle.symm.trans flight

/-- An operation begun that is a write or an erase is no read. -/
theorem StoreCtl.not_reads_begin (c : StoreCtl) {operation : NvmOperation} (h : operation ≠ .configRead) (h' : operation ≠ .crashRead) :
    ¬ (c.begin operation).Reads := by
  rintro ⟨op, flight, reads⟩
  cases flight
  obtain reads | reads := reads
  exacts [h reads, h' reads]

/-! ### The images that a read leaves -/

theorem judge_bounds (lo hi v : Nat) (h : lo ≤ hi) : lo ≤ (judge lo hi v).value ∧ (judge lo hi v).value ≤ hi := by
  simp only [judge, clampNat]; omega

theorem judgeSlot_inRange {image : List Byte} {k : Nat} {c : SlotConfig} (h : (judgeSlot image k).1 = some c)
    (order : imageByte image (37 + 8 * k) ≤ imageByte image (38 + 8 * k)) : c.floor ≤ c.ceiling ∧ c.ceiling ≤ 143 := by
  unfold judgeSlot at h
  split at h
  · cases h
  · cases h
    simp only [judge, clampNat]
    omega

/-- A slot of an image whose structure passes: its operator is named and its ceiling is not below its floor (R186). -/
theorem slotFailure_none {image : List Byte} {n k : Nat} (h : slotFailure image n k = none) {j : Nat} (from_ : k ≤ j) (below : j < k + n)
    (present : slotPresent image j = true) :
    imageByte image (34 + 8 * j) ≠ 0 ∧ imageByte image (37 + 8 * j) ≤ imageByte image (38 + 8 * j) := by
  induction n generalizing k with
  | zero => omega
  | succ n ih =>
    unfold slotFailure at h
    split at h
    · cases h
    next operator =>
      split at h
      · cases h
      next order =>
        obtain rfl | later := Nat.eq_or_lt_of_le from_
        · exact ⟨by simpa [present] using operator, by simpa [present] using order⟩
        · exact ih h later (by omega)

theorem structureFailure_slots {image : List Byte} (h : structureFailure image = none) : slotFailure image 8 0 = none := by
  unfold structureFailure at h
  dsimp only at h
  split at h
  · cases h
  · split at h
    · cases h
    · split at h
      · cases h
      · exact h

/-- The image that a read leaves usable is within its limits (R186, R187). -/
theorem judgeRead_inRange {bytes : List Byte} {image : Image} (h : (judgeRead bytes).held = .usable image) : image.InRange := by
  unfold judgeRead at h
  split at h
  · cases h
  · split at h
    · cases h
    next passes =>
      cases h
      refine ⟨fun i c held => ?_, ?_⟩
      · have slot : (judgeSlot bytes i.val).1 = some c := by
          rw [← held]; exact (tab_getElem (fun k : Fin 8 => (judgeSlot bytes k.val).1) i).symm
        have present : slotPresent bytes i.val = true := by
          unfold judgeSlot at slot
          split at slot
          · cases slot
          next h => simpa using h
        exact judgeSlot_inRange slot (slotFailure_none (structureFailure_slots passes) (Nat.zero_le _) (by omega) present).2
      · show (judgeSmin _).value ≤ 0
        unfold judgeSmin
        split
        · decide
        · simp only [judgeInt, clampInt]; omega

/-! ### Availability of the queries (R161, R163) -/

/-- The kind of a directive. -/
def Directive.kind : Directive → DirectiveKind
  | .restart => .restart
  | .faultAck _ => .faultAck
  | .quiet => .quiet
  | .speak => .speak
  | .statusQuery => .statusQuery
  | .snapshotQuery => .snapshotQuery
  | .tableRead _ _ _ => .tableRead
  | .carrierMask _ _ => .carrierMask
  | .spreadMode _ => .spreadMode

/-- The argument check gives a directive of the kind that was checked (R162). -/
theorem judgeArguments_kind {kind : DirectiveKind} {payload : List Byte} {d : Directive} (h : judgeArguments kind payload = some d) :
    d.kind = kind := by
  unfold judgeArguments at h
  split at h
  · cases h
  · cases kind <;> dsimp only at h
    case spreadMode => obtain ⟨mode, -, rfl⟩ := Option.map_eq_some_iff.mp h; rfl
    all_goals
      repeat' split at h
      all_goals cases h <;> rfl

/-- A directive that the checks accept has passed each of them (R159 to R163). -/
theorem State.judge_accepted {s : State} {source destination : Byte} {payload : List Byte} {d : Directive}
    (h : s.judge source destination payload = .accepted d) :
    s.sourcePasses source = true ∧ DirectiveKind.ofNumber (kindByte payload).toNat = some d.kind ∧
      s.availabilityPasses d.kind destination = true ∧ judgeArguments d.kind payload = some d ∧ s.roomFor d.kind = true := by
  unfold State.judge at h
  split at h
  · cases h
  next passes =>
    split at h
    · cases h
    next kind named =>
      split at h
      · cases h
      next available =>
        split at h
        · cases h
        next d' arguments =>
          split at h
          next room =>
            cases h
            obtain rfl := judgeArguments_kind arguments
            exact ⟨by simpa using passes, named, by simpa using available, arguments, room⟩
          · cases h

/-- A query that the checks accept finds room, an own id, and a node that is not in LISTEN (R161, R163). -/
theorem State.judge_query {s : State} {source destination : Byte} {payload : List Byte} {d : Directive}
    (accepted : s.judge source destination payload = .accepted d) (query : d.kind.isQuery = true) :
    s.ownId ≠ none ∧ s.ctl.node ≠ .listen ∧ s.port.answers.length < 3 := by
  obtain ⟨-, -, available, -, room⟩ := State.judge_accepted accepted
  have inNode : availableIn s.ctl.node s.ownId.isSome d.kind = true := by
    unfold State.availabilityPasses at available
    exact (Bool.and_eq_true_iff.mp available).1
  have notRestart : d.kind ≠ .restart := fun e => by simp [e, DirectiveKind.isQuery] at query
  refine ⟨fun none_ => ?_, fun listen => ?_, by simpa [State.roomFor, query] using room⟩
  · cases node : s.ctl.node with
    | load => simp [node, availableIn] at inNode
    | listen => simp [node, availableIn, notRestart] at inNode
    | run => simp [State.ownId, node] at none_
    | configFault => simp [node, availableIn, none_, notRestart] at inNode
  · simp [listen, availableIn, notRestart] at inNode

namespace KeptByCommands

variable {P Q : State → Prop} (kept : KeptByCommands P Q) {s : State}
include kept

/-! ### The epoch timer -/

theorem requestBeacon (h : P s) (node : s.ctl.node ≠ .listen) : P s.requestBeacon := by
  unfold State.requestBeacon
  dsimp only
  split
  · exact h
  next asks =>
    have superseded := kept.supersedeBeacon (kept.supersedeRequest h)
    refine kept.drawn (kept.requested _ superseded ?_ ?_)
    · rw [State.ownId_of_ctl (s := s) (by simp)]
      exact fun none_ => by simp [none_] at asks
    · simpa using node

theorem expiryWork (h : P s) (node : s.ctl.node ≠ .listen) : P s.expiryWork :=
  kept.requestBeacon (kept.countReCredit (kept.countClash (kept.closeNoiseWindow h))) (by simpa using node)

theorem epochMoment (h : P s) (moment : Ms) (interval : Nat) : P (s.epochMoment moment interval) :=
  kept.setCtl (kept.advanceTo h _ _) rfl rfl id

theorem runExpiry (h : P s) : P s.runExpiry := by
  unfold State.runExpiry
  split
  next moment run _ =>
    have closed : P (s.epochMoment moment s.cfg.period).closeLoads :=
      kept.setScanner (kept.spreadClose _ (kept.epochMoment h moment s.cfg.period)) _
    exact kept.setCtl (kept.expiryWork closed (by simp [run])) rfl rfl id
  · exact h

theorem configFaultExpiry (h : P s) : P s.configFaultExpiry := by
  unfold State.configFaultExpiry
  split
  next moment fault _ =>
    exact kept.expiryWork (kept.epochMoment h _ _) (by simp [fault])
  · exact h

/-! ### Starts -/

theorem applyCycle (h : P s) : P s.applyCycle := by
  unfold State.applyCycle
  split
  · exact h
  · split
    exacts [h, kept.writeBytes _ _ h]

theorem cutOperation (h : P s) (cycleApplied : Bool) : P (s.cutOperation cycleApplied) := by
  unfold State.cutOperation
  split
  exacts [kept.applyCycle h, h]

theorem restartNow (h : P s) : P s.restartNow :=
  kept.restart (kept.releaseTrip (kept.settleReCredit (kept.settleClash (kept.settleNoise h))))

theorem askRestart (h : P s) : P s.askRestart := by
  unfold State.askRestart
  split
  exacts [kept.restartNow h, kept.setCtl h rfl rfl id]

theorem restartIfDue (h : P s) : P s.restartIfDue := by
  unfold State.restartIfDue
  split
  exacts [kept.restartNow h, h]

theorem listenExpiry (h : P s) : P s.listenExpiry := by
  unfold State.listenExpiry
  split
  · exact h
  · split
    next listen => exact kept.enterRun (kept.advanceTo h _ _) listen
    all_goals exact h

/-- The crash read begins where a read of LOAD was in flight. -/
theorem beginCrashRead (h : P s) (reads : s.ctl.Reads) : P (s.beginOperation .crashRead) := kept.setCtl h rfl rfl fun _ => reads

theorem judgeConfig (h : P s) (reads : s.ctl.Reads) (image : List Byte) : P (s.judgeConfig image) := by
  have taken := kept.takeImage (judgeRead image).held h reads fun _ held => judgeRead_inRange held
  have taking : (s.setCtl { s.ctl with image := (judgeRead image).held }).ctl.Reads := reads
  unfold State.judgeConfig
  dsimp only
  split
  · refine kept.beginCrashRead (kept.raiseEach (kept.raise _ _ taken) _ _) ?_
    rwa [State.raiseEach_ctl _ rfl, State.raise_ctl _ rfl]
  · refine kept.beginCrashRead (kept.raiseEach taken _ _) ?_
    rwa [State.raiseEach_ctl _ rfl]

theorem configUnreadable (h : P s) (reads : s.ctl.Reads) : P s.configUnreadable := by
  have failed : (s.raise .storeFail 1).ctl.Reads := by rwa [State.raise_ctl _ rfl]
  refine kept.beginCrashRead (kept.raise _ _ (kept.takeImage (.unusable none) (kept.raise _ _ h) failed nofun)) ?_
  rwa [State.raise_ctl _ rfl]

theorem configReadEnd (h : P s) (loaded : List Byte) : P (s.configReadEnd loaded) := by
  unfold State.configReadEnd
  split
  · exact h
  next op flight =>
    split
    next read =>
      split
      · exact h
      · exact kept.judgeConfig (kept.writeBytes _ _ h) (StoreCtl.reads_of_configRead flight read) _
    all_goals exact h

theorem crashReadEnd (h : P s) : P s.crashReadEnd := by
  have region (r : RegionStatus) : P (s.noOperation.setCtl { s.noOperation.ctl with region := r }) :=
    kept.setCtl h rfl rfl fun ⟨op, none_, _⟩ => nomatch none_
  have leave (r : RegionStatus) (subject : Nat) :
      (((s.noOperation.setCtl { s.noOperation.ctl with region := r }).raise .priorTrip subject).ctl.node = s.ctl.node) ∧
        ((s.noOperation.setCtl { s.noOperation.ctl with region := r }).raise .priorTrip subject).ctl.operation = none := by
    rw [State.raise_ctl _ rfl]; exact ⟨rfl, rfl⟩
  unfold State.crashReadEnd
  split
  · exact h
  next op flight =>
    split
    next read =>
      have reads := StoreCtl.reads_of_crashRead flight read
      unfold State.judgeMarkers
      split
      · exact kept.leaveLoad h reads (kept.raise _ _ (region _)) (leave _ _).1 (leave _ _).2
      · split
        · exact kept.leaveLoad h reads (kept.raise _ _ (region _)) (leave _ _).1 (leave _ _).2
        · exact kept.leaveLoad h reads (region _) rfl rfl
    all_goals exact h

theorem eraseDone (h : P s) : P s.eraseDone := by
  unfold State.eraseDone
  split
  · exact kept.setCtl h rfl rfl (absurd · (StoreCtl.not_reads_begin _ nofun nofun))
  · exact kept.restartIfDue (kept.setCtl h rfl rfl (absurd · (StoreCtl.not_reads_of_idle rfl)))

theorem cycleEnd (h : P s) : P s.cycleEnd := by
  have applied (since : Ms) := kept.applyCycle (kept.advanceTo h since 5)
  unfold State.cycleEnd
  split
  · exact h
  · split
    · exact h
    · exact h
    · dsimp only
      split
      · exact kept.setCtl (applied _) rfl rfl (absurd · (StoreCtl.not_reads_begin _ nofun nofun))
      · exact kept.setCtl (applied _) rfl rfl (absurd · (StoreCtl.not_reads_begin _ nofun nofun))
      · exact kept.restartIfDue (kept.setCtl (applied _) rfl rfl (absurd · (StoreCtl.not_reads_of_idle rfl)))
    · dsimp only
      split
      · exact kept.setCtl (applied _) rfl rfl (absurd · (StoreCtl.not_reads_begin _ nofun nofun))
      · exact kept.setCtl (applied _) rfl rfl (absurd · (StoreCtl.not_reads_begin _ nofun nofun))
      · exact kept.eraseDone (applied _)

theorem operationFails (h : P s) (operation : NvmOperation)
    (reads : operation = .configRead ∨ operation = .crashRead → s.ctl.Reads) : P (s.operationFails operation) := by
  have ended (c : StoreCtl) (node : c.node = s.ctl.node) (image : c.image = s.ctl.image) (idle : c.operation = none) :
      P (s.setCtl c) := kept.setCtl h node image (absurd · (StoreCtl.not_reads_of_idle idle))
  cases operation with
  | configRead => exact kept.configUnreadable h (reads (.inl rfl))
  | crashRead =>
    refine kept.leaveLoad h (reads (.inr rfl)) (kept.raise _ _ (ended _ rfl rfl rfl)) ?_ ?_ <;> rw [State.raise_ctl _ rfl] <;> rfl
  | crashWrite step record => exact kept.restartIfDue (kept.raise _ _ (ended _ rfl rfl rfl))
  | crashErase step markerRead => exact kept.restartIfDue (kept.raise _ _ (ended _ rfl rfl rfl))

theorem tryFails (h : P s) {op : InFlight} (reads : op.operation = .configRead ∨ op.operation = .crashRead → s.ctl.Reads) :
    P (s.tryFails op) := by
  unfold State.tryFails
  split
  · exact kept.operationFails h _ reads
  · refine kept.setCtl h rfl rfl ?_
    rintro ⟨op', flight, read⟩
    cases flight
    exact reads read

theorem transferFails (h : P s) (later : Bool) : P (s.transferFails later) := by
  unfold State.transferFails
  split
  · exact h
  next op flight =>
    have reads (read : op.operation = .configRead ∨ op.operation = .crashRead) : s.ctl.Reads := ⟨op, flight, read⟩
    split
    · exact h
    · split
      next operation transfer =>
        refine kept.tryFails h fun read => reads ?_
        unfold laterTransfer at transfer
        split at transfer
        next same => exact .inl same
        next same => exact .inr same
        next => cases transfer
        next => split at transfer <;> cases transfer; simp at read
      all_goals exact kept.tryFails h reads

theorem storeWaitEnd (h : P s) : P s.storeWaitEnd := by
  unfold State.storeWaitEnd
  dsimp only
  split
  exacts [kept.setCtl (kept.advanceTo h _ _) rfl rfl id, h]

/-! ### The directive handler -/

theorem answer (h : P s) (id : s.ownId ≠ none) (node : s.ctl.node ≠ .listen) (room : s.port.answers.length < 3)
    (source kind tag : Byte) (body : List Byte) : P (s.answer source kind tag body) :=
  kept.contend (kept.answered _ h id node room)

theorem applyDirective (h : P s) {source destination : Byte} {payload : List Byte} {d : Directive}
    (accepted : s.judge source destination payload = .accepted d) (tag : Byte) : P (s.applyDirective source tag d) := by
  have query := State.judge_query accepted
  cases d with
  | restart => exact kept.askRestart h
  | faultAck selector => exact kept.acknowledge h selector
  | quiet => exact kept.trunk h s.applyQuiet_trunk
  | speak => exact kept.setPort h ⟨rfl, rfl, rfl, rfl⟩ Iff.rfl
  | statusQuery => obtain ⟨id, node, room⟩ := query rfl; exact kept.answer h id node room _ _ _ _
  | snapshotQuery => obtain ⟨id, node, room⟩ := query rfl; exact kept.answer h id node room _ _ _ _
  | tableRead table start count =>
    obtain ⟨id, node, room⟩ := query rfl
    exact kept.answer (kept.setView h (View.setCursors_table _ _ _)) id node room _ _ _ _
  | carrierMask form slots => exact kept.maskCarriers form slots h
  | spreadMode mode => exact kept.pendingMode mode h

theorem deliverDirective (h : P s) (source destination : Byte) (payload : List Byte) :
    P (s.deliverDirective source destination payload) := by
  unfold State.deliverDirective State.takeDirective
  split
  · split
    next => exact kept.setHandler h _
    next accepted => exact kept.applyDirective h accepted _
  · exact h

/-! ### Frames -/

theorem deliverFrame (h : P s) (f : Frame) : P (s.deliverFrame f) := by
  unfold State.deliverFrame
  split
  exacts [kept.takeBeacon h _ _, kept.deliverDirective h _ _ _, h]

theorem takeReception (h : P s) (overlap : Option AttemptEnd) (wholeBytes : Bool) (bytes : List Byte) :
    P (s.takeReception overlap wholeBytes bytes) := by
  unfold State.takeReception
  split
  · exact h
  · split
    exacts [kept.deliverFrame h _, h]
  · split
    exacts [kept.deliverFrame h _, kept.countBadFrame h]

theorem frameEnds (h : P s) (wait : Ms) (wholeBytes : Bool) (bytes : List Byte) : P (s.frameEnds wait wholeBytes bytes) := by
  have later := kept.advance h wait.toNat
  unfold State.frameEnds
  dsimp only
  split
  · exact later
  · split
    · exact kept.setPort later ⟨rfl, rfl, rfl, rfl⟩ Iff.rfl
    · split
      · exact kept.takeReception (kept.setPort later (p := s.port.endReception) ⟨rfl, rfl, rfl, rfl⟩ s.port.lostSlot_silent) _ _ _
      · exact later

/-! ### Every command and every step -/

theorem exec_next (h : P s) (c : Instr) : ∃ t, exec c s = .next t ∧ P t := by
  have directive (source destination : Byte) (payload : List Byte) := kept.deliverDirective h source destination payload
  cases c with
  | powerOn cycleApplied => exact ⟨_, rfl, kept.start .powerOn (kept.cutOperation h cycleApplied) nofun⟩
  | pinReset cycleApplied => exact ⟨_, rfl, kept.start .pinReset (kept.cutOperation h cycleApplied) nofun⟩
  | pinResetStoreWaitEnd => exact ⟨_, rfl, kept.storeWaitEnd h⟩
  | receivedFrame wait wholeBytes bytes => exact ⟨_, rfl, kept.frameEnds h wait wholeBytes bytes⟩
  | lineActivity => exact ⟨_, rfl, kept.trunk h s.lineActivity_trunk⟩
  | gapComplete => exact ⟨_, rfl, kept.gapComplete h⟩
  | backoffSlotComplete => exact ⟨_, rfl, kept.trunk h s.slotComplete_trunk⟩
  | collision => exact ⟨_, rfl, kept.collision h⟩
  | cleanFrame => exact ⟨_, rfl, kept.cleanFrame h⟩
  | beaconJitterEnd => exact ⟨_, rfl, kept.jitterEnd h⟩
  | epochExpiry => exact ⟨_, rfl, kept.runExpiry h⟩
  | configFaultEpochExpiry => exact ⟨_, rfl, kept.configFaultExpiry h⟩
  | listenTimerExpiry => exact ⟨_, rfl, kept.listenExpiry h⟩
  | conversionComplete code => exact ⟨_, rfl, kept.conversionEnds h code⟩
  | rampTick => exact ⟨_, rfl, kept.rampTick h⟩
  | writeComplete => exact ⟨_, rfl, kept.writeEnds h⟩
  | silenceSuspectLimit position => exact ⟨_, rfl, kept.suspectLimit h position⟩
  | silenceLostLimit position => exact ⟨_, rfl, kept.lostLimit h position⟩
  | startUpLimit => exact ⟨_, rfl, kept.startUpLimit h⟩
  | idClashClear => exact ⟨_, rfl, kept.settleClash h⟩
  | trunkNoiseClear => exact ⟨_, rfl, kept.settleNoise h⟩
  | reCredit => exact ⟨_, rfl, kept.settleReCredit h⟩
  | vswrTripRelease => exact ⟨_, rfl, kept.releaseTrip h⟩
  | configReadEnd image => exact ⟨_, rfl, kept.configReadEnd h image.toList⟩
  | crashReadEnd => exact ⟨_, rfl, kept.crashReadEnd h⟩
  | i2cTransferFail later => exact ⟨_, rfl, kept.transferFails h later⟩
  | writeCycleEnd => exact ⟨_, rfl, kept.cycleEnd h⟩
  | faultAck source destination rest => exact ⟨_, rfl, directive source destination _⟩
  | carrierMask source destination rest => exact ⟨_, rfl, directive source destination _⟩
  | spreadMode source destination rest => exact ⟨_, rfl, directive source destination _⟩
  | quiet source destination rest => exact ⟨_, rfl, directive source destination _⟩
  | speak source destination rest => exact ⟨_, rfl, directive source destination _⟩
  | restart source destination rest => exact ⟨_, rfl, directive source destination _⟩
  | statusQuery source destination rest => exact ⟨_, rfl, directive source destination _⟩
  | snapshotQuery source destination rest => exact ⟨_, rfl, directive source destination _⟩
  | tableRead wait source destination rest => exact ⟨_, rfl, kept.deliverDirective (kept.advance h _) source destination _⟩
  | unknownDirective source destination payload =>
    refine ⟨_, rfl, ?_⟩
    split
    exacts [h, directive source destination payload]
  | receiverFirstIdle => exact ⟨_, rfl, kept.firstIdle h⟩

/-- A property that does not read the queue survives every step. -/
theorem step_keeps (h : P s) (queue : ∀ rest, P (s.setPending rest)) {t : State} (stepped : step s = .next t) : P t := by
  unfold step at stepped
  split at stepped
  · cases stepped; exact kept.advance h 1
  next c rest _ =>
    obtain ⟨u, next, held⟩ := kept.exec_next (queue rest) c
    cases next.symm.trans stepped
    exact held

end KeptByCommands

end Sys2Proof.Machine
end

section
/-! PROOFS. The invariants of the queue of commands, the store, the transmit queue and the port: what they read lies outside the carriers
and the fault table. -/

namespace Sys2Proof.Machine

/-- What a property that reads nothing of the carriers and the fault table must survive to survive every command. -/
structure KeptOutside (P : State → Prop) : Prop where
  core : ∀ {s t : State}, P s → s.SameCore t → P t
  trunk : ∀ {s t : State}, P s → s.TrunkStep t → P t
  carriers : ∀ {s t : State}, P s → s.CarrierStep t → P t
  requested : ∀ {s : State} (r : BeaconRequest), P s → s.ownId ≠ none → s.ctl.node ≠ .listen →
    P (s.setComposer { s.composer with request := some r })
  answered : ∀ {s : State} (bytes : List Byte), P s → s.ownId ≠ none → s.ctl.node ≠ .listen → s.port.answers.length < 3 →
    P (s.setPort { s.port with answers := s.port.answers ++ [⟨bytes, 1⟩] })
  entries : ∀ {s : State} (table : Vector (Option Neighbour) 16), P s → P (s.setView { s.view with table := table })
  start : ∀ {s : State} (kind : StartKind), P s → P (s.enterLoad kind)
  writeBytes : ∀ {s : State} (address : Nat) (bytes : List Byte), P s → P (s.setStore (s.store.writeBytes address bytes))
  takeImage : ∀ {s : State} (held : HeldImage), P s → s.ctl.Reads → P (s.setCtl { s.ctl with image := held })
  leaveLoad : ∀ {s t : State}, P s → s.ctl.Reads → P t → t.ctl.node = s.ctl.node → t.ctl.operation = none → P t.leaveLoad
  setUpRun : ∀ {s : State}, P s → s.ctl.node = .listen → P s.setUpRun

theorem State.CarrierStep.of_same {s t : State} 
    (rest : t = (((s.setAlloc t.alloc).setWriter t.writer).setSpread t.spread).setSupervisor t.supervisor) : s.CarrierStep t := by
  rw [rest]; exact ⟨rfl, rfl, rfl, rfl, rfl, rfl, rfl, id⟩

theorem State.CarrierStep.clearOnly (s : State) (code : FaultCode) (subject : Nat) : s.CarrierStep (s.clearOnly code subject) :=
  (State.CarrierStep.changes s).clearOnly _ _ (.refl s)

theorem State.CarrierStep.rampTick (s : State) : s.CarrierStep s.rampTick := by
  unfold State.rampTick
  split
  exacts [.refl s, ⟨rfl, rfl, rfl, rfl, rfl, rfl, rfl, id⟩]

theorem KeptOutside.commands {P : State → Prop} (kept : KeptOutside P) : KeptByCommands P P where
  core := kept.core
  trunk := kept.trunk
  requested := kept.requested
  answered := kept.answered
  raise {s} _ _ h := kept.carriers h ((State.CarrierStep.changes s).raise (.refl s) _ _)
  clear {s} _ _ h := kept.carriers h ((State.CarrierStep.changes s).clear (.refl s) _ _)
  ackOne {s} _ _ h := kept.carriers h ((State.CarrierStep.changes s).settle ((State.CarrierStep.changes s).ackOneOnly _ _ (.refl s)))
  ackAll {s} h := kept.carriers h ((State.CarrierStep.changes s).settle ((State.CarrierStep.changes s).ackAllOnly (.refl s)))
  credits _ h _ _ := kept.carriers h (.of_same rfl)
  spreadClose {s} occupancy h := kept.carriers h (.spreadClose s occupancy)
  pendingMode _ h := kept.carriers h (.of_same rfl)
  maskCarriers {s} form named h := kept.carriers h (.maskCarriers s form named)
  rampTick {s} h := kept.carriers h (.rampTick s)
  writeEnds h := kept.carriers h (.of_same rfl)
  entries table h _ := kept.entries table h
  losses table h _ := kept.entries table h
  raiseLosing {s} _ _ h := kept.carriers h ((State.CarrierStep.changes s).raise (.refl s) _ _)
  clearLosing {s} _ _ h := kept.carriers h ((State.CarrierStep.changes s).clear (.refl s) _ _)
  handLostCount {s} h := kept.carriers h (.handLostCount s)
  start kind h _ := kept.start kind h
  restart h := kept.carriers (kept.carriers (kept.start .restart h) (.clearOnly _ _ _)) (.clearOnly _ _ _)
  writeBytes := kept.writeBytes
  takeImage held h reads _ := kept.takeImage held h reads
  leaveLoad := kept.leaveLoad
  enterRun {s} h listen := kept.carriers (kept.setUpRun h listen) (State.CarrierStep.recomputeNow (.refl s.setUpRun))

/-! ### The queue of waiting commands -/

theorem pending_kept (queue : List Instr) : KeptOutside fun s => s.pending = queue where
  core h k := k.pending.trans h
  trunk h k := by rw [k.rest]; exact h
  carriers h k := k.pending.trans h
  requested _ h _ _ := h
  answered _ h _ _ _ := h
  entries _ h := h
  start _ h := h
  writeBytes _ _ h := h
  takeImage _ h _ := h
  leaveLoad {s t} _ _ h _ _ := by unfold State.leaveLoad; split <;> exact h
  setUpRun h _ := h

/-- Settles O2: no command's meaning ends but in a next state, and none of the moves that commands are made of touches the queue. -/
theorem everyCommandCompletesAndKeepsQueue : Obligations.EveryCommandCompletesAndKeepsQueue := by
  unfold Obligations.EveryCommandCompletesAndKeepsQueue
  exact fun c s => (pending_kept s.pending).commands.exec_next rfl c

/-! ### The store (R196) -/

theorem storeWf_kept : KeptOutside fun s => s.store.wf where
  core h k := k.store ▸ h
  trunk h k := by rw [k.rest]; exact h
  carriers h k := k.store ▸ h
  requested _ h _ _ := h
  answered _ h _ _ _ := h
  entries _ h := h
  start _ h := h
  writeBytes address bytes h := Memory.writeBytes_wf h address bytes
  takeImage _ h _ := h
  leaveLoad _ _ h _ _ := by unfold State.leaveLoad; split <;> exact h
  setUpRun h _ := h

/-- Settles O52: the store is written by `Memory.writeBytes` alone, which keeps the form. -/
theorem everyStepKeepsTheStoreCanonical : Obligations.EveryStepKeepsTheStoreCanonical := by
  unfold Obligations.EveryStepKeepsTheStoreCanonical
  exact fun s t h stepped => storeWf_kept.commands.step_keeps h (fun _ => h) stepped

/-! ### The transmit queue (R4, R9, R16) -/

theorem queueInBounds_kept : KeptOutside fun s => s.port.QueueInBounds where
  core h k := k.port ▸ h
  trunk h k := k.bounds h
  carriers h k := k.port ▸ h
  requested _ h _ _ := h
  answered bytes h _ _ room := by
    refine ⟨by simp; omega, fun a ha => ?_, h.beacon⟩
    obtain ha | ha := List.mem_append.mp ha
    · exact h.answers a ha
    · obtain rfl := List.mem_singleton.mp ha
      dsimp only; omega
  entries _ h := h
  start _ _ := ⟨Nat.zero_le _, nofun, nofun⟩
  writeBytes _ _ h := h
  takeImage _ h _ := h
  leaveLoad _ _ h _ _ := by unfold State.leaveLoad; split <;> exact h.of_same rfl rfl
  setUpRun h _ := h.of_same rfl rfl

/-- Settles O58: an answer enters only where fewer than three wait, and a retry past the eighth attempt leaves the queue. -/
theorem everyStepKeepsTheQueueInBounds : Obligations.EveryStepKeepsTheQueueInBounds := by
  unfold Obligations.EveryStepKeepsTheQueueInBounds
  exact fun s t h stepped => queueInBounds_kept.commands.step_keeps h (fun _ => h) stepped

/-! ### The receiver and the transmitter (R3, R6) -/

theorem State.readsInLoad_of_reads {s t : State} (h : s.ReadsInLoad) (node : t.ctl.node = s.ctl.node)
    (reads : t.ctl.Reads → s.ctl.Reads) : t.ReadsInLoad := by
  rw [State.readsInLoad_iff] at h ⊢
  exact fun r => node.trans (h (reads r))

theorem State.ownId_of_image {s t : State} (node : t.ctl.node = s.ctl.node) (image : t.ctl.image = s.ctl.image) : t.ownId = s.ownId := by
  simp [State.ownId, State.cfg, node, image]

/-- The silence that the node state asks for is that of the trunk. -/
theorem State.PortByNodeState.trunkSilent {s : State} (h : s.PortByNodeState) (asked : s.ctl.node = .listen ∨ s.ownId = none) :
    s.TrunkSilent := by
  obtain ⟨tx, answers, beacon, waiting, request⟩ := h.silent asked
  exact ⟨tx, answers, beacon, waiting, request⟩

/-- The invariant rests on the node state, the image, the reads, the receiver, and whether the trunk is silent or the transmitter off. -/
theorem State.PortByNodeState.of_trunk {s t : State} (h : s.PortByNodeState) (node : t.ctl.node = s.ctl.node)
    (image : t.ctl.image = s.ctl.image) (reads : t.ctl.Reads → s.ctl.Reads) (receiver : t.port.receiver = s.port.receiver)
    (off : t.port.tx = .silent ↔ s.port.tx = .silent) (silent : s.TrunkSilent → t.TrunkSilent) : t.PortByNodeState where
  reads := State.readsInLoad_of_reads h.reads node reads
  receiver := by rw [receiver, h.receiver, node]
  silent asked := by
    rw [node, State.ownId_of_image node image] at asked
    obtain ⟨tx, answers, beacon, waiting, request⟩ := silent (h.trunkSilent asked)
    exact ⟨tx, answers, beacon, waiting, request⟩
  sends on id := by
    rw [node] at on
    rw [State.ownId_of_image node image] at id
    exact fun e => h.sends on id (off.mp e)

theorem portByNodeState_kept : KeptOutside State.PortByNodeState where
  core h k := h.of_trunk k.node k.image k.reads (by rw [k.port]) (by rw [k.port]) fun silent =>
    ⟨k.port ▸ silent.tx, k.port ▸ silent.answers, k.port ▸ silent.beacon, k.port ▸ silent.waiting, k.request.trans silent.request⟩
  trunk h k := by
    have ctl : _ = _ := congrArg State.ctl k.rest
    exact h.of_trunk (by rw [ctl]; rfl) (by rw [ctl]; rfl) (by rw [ctl]; exact id) k.receiver k.off k.silent
  carriers h k := h.of_trunk k.node k.image k.reads (by rw [k.port]) (by rw [k.port]) fun silent =>
    ⟨k.port ▸ silent.tx, k.port ▸ silent.answers, k.port ▸ silent.beacon, k.port ▸ silent.waiting, k.request.trans silent.request⟩
  requested r h id node := ⟨h.reads, h.receiver, fun asked => (asked.elim node id).elim, h.sends⟩
  answered bytes h id node _ := ⟨h.reads, h.receiver, fun asked => (asked.elim node id).elim, h.sends⟩
  entries _ h := ⟨h.reads, h.receiver, h.silent, h.sends⟩
  start kind h := ⟨rfl, rfl, fun _ => ⟨rfl, rfl, rfl, rfl, rfl⟩, fun on => by obtain on | on := on <;> cases on⟩
  writeBytes _ _ h := ⟨h.reads, h.receiver, h.silent, h.sends⟩
  takeImage {s} held h reads := by
    have load := (State.readsInLoad_iff s).mp h.reads reads
    have silent := h.silent (.inr (by simp [State.ownId, load]))
    refine ⟨h.reads, h.receiver, fun _ => silent, fun on => ?_⟩
    obtain on | on := on <;> cases load.symm.trans on
  leaveLoad {s t} h reads k node idle := by
    have load := node.trans ((State.readsInLoad_iff s).mp h.reads reads)
    have silent := k.silent (.inr (by simp [State.ownId, load]))
    have reading (u : State) (same : u.ctl.operation = t.ctl.operation) : u.ReadsInLoad := by
      simp [State.ReadsInLoad, same, idle]
    unfold State.leaveLoad
    split
    · refine ⟨reading _ rfl, rfl, fun _ => silent, fun on => ?_⟩
      obtain on | on := on <;> cases on
    next id image =>
      obtain ⟨-, answers, beacon, waiting, request⟩ := silent
      have own : (t.enterConfigFault id).ownId = id := by
        show (match t.ctl.image with
          | .none => none
          | .usable image => some image.nodeId
          | .unusable nodeId => nodeId) = id
        rw [image]
      refine ⟨reading _ rfl, rfl, fun asked => ⟨?_, answers, beacon, waiting, request⟩, fun _ id_ => ?_⟩
      · obtain asked | asked := asked
        · cases asked
        · rw [own] at asked; subst asked; rfl
      · rw [own] at id_
        obtain ⟨n, rfl⟩ := Option.ne_none_iff_exists'.mp id_
        exact nofun
    next image =>
      obtain ⟨-, answers, beacon, waiting, request⟩ := silent
      refine ⟨reading _ rfl, rfl, fun _ => ⟨rfl, answers, beacon, waiting, request⟩, fun _ id_ => ?_⟩
      refine absurd ?_ id_
      show (match t.ctl.image with
          | .none => none
          | .usable image => some image.nodeId
          | .unusable nodeId => nodeId) = none
      rw [image]
  setUpRun {s} h listen := by
    refine ⟨?_, ?_, fun asked => ?_, fun _ _ => nofun⟩
    · rw [State.readsInLoad_iff]
      intro reads
      cases listen.symm.trans ((State.readsInLoad_iff s).mp h.reads reads)
    · show s.port.receiver = true
      rw [h.receiver, listen]; rfl
    · obtain asked | asked := asked
      · cases asked
      · cases asked

/-- Settles O59: the moves of the port keep a silent trunk silent and the transmitter on where it is on; LOAD, LISTEN, CONFIG_FAULT and
RUN are entered with the port as they ask. -/
theorem everyStepKeepsThePortByNodeState : Obligations.EveryStepKeepsThePortByNodeState := by
  unfold Obligations.EveryStepKeepsThePortByNodeState
  exact fun s t h stepped => portByNodeState_kept.commands.step_keeps h (fun _ => ⟨h.reads, h.receiver, h.silent, h.sends⟩) stepped

end Sys2Proof.Machine
end

section
/-! PROOFS. The fault table: what finding, raising, clearing and acknowledging make of it, position by position (R114, R118 to R124). -/

namespace Sys2Proof.Machine

/-! ### Positions -/

/-- The first index that passes a test, among all in order. -/
theorem find?_finRange_eq_some {n : Nat} (test : Fin n → Bool) (i : Fin n) :
    (List.finRange n).find? test = some i ↔ test i = true ∧ ∀ j < i, test j = false := by
  rw [List.find?_eq_some_iff_getElem]
  constructor
  · rintro ⟨passes, k, hk, rfl, before⟩
    refine ⟨passes, fun j hj => ?_⟩
    have := before j.val (by simpa [Fin.lt_def] using hj)
    simpa using this
  · rintro ⟨passes, before⟩
    refine ⟨passes, i.val, by simp, by simp, fun j hj => ?_⟩
    have := before ⟨j, by omega⟩ (by simpa [Fin.lt_def] using hj)
    simpa using this

theorem find?_finRange_eq_none {n : Nat} (test : Fin n → Bool) : (List.finRange n).find? test = none ↔ ∀ i, test i = false := by
  simp [List.find?_eq_none]

theorem Vector.getElem_set_fin {α : Type} {n : Nat} (v : Vector α n) (i j : Fin n) (x : α) :
    (v.set i x)[j] = if i = j then x else v[j] := by
  simp [Vector.getElem_set, Fin.ext_iff]

theorem Vector.ext_fin {α : Type} {n : Nat} {v w : Vector α n} (h : ∀ i : Fin n, v[i] = w[i]) : v = w :=
  Vector.ext fun i hi => h ⟨i, hi⟩

theorem Vector.set_same {α : Type} {n : Nat} (v : Vector α n) (i : Fin n) : v.set i v[i] = v := by
  refine Vector.ext_fin fun j => ?_
  rw [Vector.getElem_set_fin]
  split
  next h => rw [h]
  next => rfl

/-- The entry of a code and subject at a position. -/
def FaultEntry.Is (e : FaultEntry) (code : FaultCode) (subject : Nat) : Prop := e.code = code ∧ e.subject = subject

theorem FaultEntry.is_iff_key (e : FaultEntry) (code : FaultCode) (subject : Nat) : e.Is code subject ↔ e.key = (code, subject) := by
  simp [FaultEntry.Is, FaultEntry.key]

theorem findEntry_eq_some_iff {t : FaultTable} {code : FaultCode} {subject : Nat} {p : Fin 24} {e : FaultEntry} :
    findEntry t code subject = some (p, e) ↔
      t[p] = some e ∧ e.Is code subject ∧ ∀ q < p, ∀ f, t[q] = some f → ¬ f.Is code subject := by
  rw [findEntry, positioned, List.find?_filterMap, Option.bind_eq_some_iff]
  simp only [find?_finRange_eq_some]
  constructor
  · rintro ⟨i, ⟨passes, before⟩, h⟩
    obtain ⟨f, held, ⟨⟩⟩ := Option.map_eq_some_iff.mp h
    refine ⟨held, by simpa [held, FaultEntry.Is] using passes, fun q hq f hf is => ?_⟩
    have := before q hq
    rw [hf] at this
    exact absurd is (by simpa [FaultEntry.Is] using this)
  · rintro ⟨held, is, before⟩
    refine ⟨p, ⟨by simpa [held, FaultEntry.Is] using is, fun q hq => ?_⟩, by simp [held]⟩
    cases hf : t[q] with
    | none => rfl
    | some f => simpa [FaultEntry.Is] using before q hq f hf

theorem findEntry_eq_none_iff {t : FaultTable} {code : FaultCode} {subject : Nat} :
    findEntry t code subject = none ↔ ∀ (p : Fin 24) (e : FaultEntry), t[p] = some e → ¬ e.Is code subject := by
  rw [findEntry, List.find?_eq_none]
  constructor
  · intro h p e held is
    exact h (p, e) (List.mem_filterMap.mpr ⟨p, List.mem_finRange p, by simp [held]⟩) (by simpa [FaultEntry.Is] using is)
  · rintro h ⟨p, e⟩ member
    obtain ⟨i, -, eq⟩ := List.mem_filterMap.mp member
    obtain ⟨f, held, ⟨⟩⟩ := Option.map_eq_some_iff.mp eq
    simpa [FaultEntry.Is] using h p e held

theorem firstEmpty_eq_some_iff {t : FaultTable} {p : Fin 24} : firstEmpty t = some p ↔ t[p] = none ∧ ∀ q < p, t[q] ≠ none := by
  rw [firstEmpty, find?_finRange_eq_some]
  simp only [Option.isNone_iff_eq_none, ne_eq]
  exact and_congr_right fun _ => forall₂_congr fun q _ => by cases t[q] <;> simp

theorem firstEmpty_eq_none_iff {t : FaultTable} : firstEmpty t = none ↔ ∀ p : Fin 24, t[p] ≠ none := by
  rw [firstEmpty, find?_finRange_eq_none]
  exact forall_congr' fun p => by cases t[p] <;> simp

/-- What one position holds decides what is found of a code and subject that neither entry there is of. -/
theorem findEntry_set_of_other {t : FaultTable} {i : Fin 24} {x : Option FaultEntry} {code : FaultCode} {subject : Nat}
    (before : ∀ e, t[i] = some e → ¬ e.Is code subject) (after : ∀ e, x = some e → ¬ e.Is code subject) :
    findEntry (t.set i x) code subject = findEntry t code subject := by
  have others (p : Fin 24) (e : FaultEntry) : (t.set i x)[p] = some e ∧ e.Is code subject ↔ t[p] = some e ∧ e.Is code subject := by
    rw [Vector.getElem_set_fin]
    split
    next h =>
      subst h
      exact ⟨fun ⟨h, is⟩ => (after e h is).elim, fun ⟨h, is⟩ => (before e h is).elim⟩
    next => rfl
  have misses (p : Fin 24) : (∀ f, (t.set i x)[p] = some f → ¬ f.Is code subject) ↔ ∀ f, t[p] = some f → ¬ f.Is code subject :=
    forall_congr' fun f => by simpa [not_and] using not_congr (others p f)
  refine Option.ext fun ⟨p, e⟩ => ?_
  show findEntry _ _ _ = some (p, e) ↔ findEntry _ _ _ = some (p, e)
  rw [findEntry_eq_some_iff, findEntry_eq_some_iff, ← and_assoc, ← and_assoc, others]
  simp only [misses]

/-- An entry put where an entry of its code and subject is found, or where none is held and none is found, is found there. -/
theorem findEntry_set_self {t : FaultTable} {i : Fin 24} {e : FaultEntry} {code : FaultCode} {subject : Nat} (is : e.Is code subject)
    (below : ∀ q < i, ∀ f, t[q] = some f → ¬ f.Is code subject) : findEntry (t.set i (some e)) code subject = some (i, e) := by
  refine findEntry_eq_some_iff.mpr ⟨by simp, is, fun q hq f hf => ?_⟩
  have : i ≠ q := (ne_of_lt hq).symm
  rw [Vector.getElem_set_fin, if_neg this] at hf
  exact below q hq f hf

/-! ### Distinct entries (R114) -/

/-- No two positions hold entries with one code and subject. -/
theorem distinct_iff (t : FaultTable) : ((entries t).map FaultEntry.key).Nodup ↔
    ∀ (p q : Fin 24) (e f : FaultEntry), t[p] = some e → t[q] = some f → e.key = f.key → p = q := by
  have keys : (entries t).map FaultEntry.key = (List.finRange 24).filterMap fun p => t[p].map FaultEntry.key := by
    rw [entries, Vector.toList_eq_finRange, List.filterMap_map, List.map_filterMap]; rfl
  rw [keys, List.Nodup, List.pairwise_filterMap, List.pairwise_iff_getElem]
  simp only [Option.map_eq_some_iff, List.length_finRange, List.getElem_finRange]
  constructor
  · intro h p q e f he hf same
    by_contra differ
    obtain lt | lt := lt_or_gt_of_ne differ
    · exact h p q (by simp) (by simp) lt e.key ⟨e, he, rfl⟩ f.key ⟨f, hf, rfl⟩ same
    · exact h q p (by simp) (by simp) lt f.key ⟨f, hf, rfl⟩ e.key ⟨e, he, rfl⟩ same.symm
  · rintro h i j hi hj lt _ ⟨e, he, rfl⟩ _ ⟨f, hf, rfl⟩ same
    have := h _ _ e f he hf same
    simp [Fin.ext_iff] at this
    omega

/-- Every entry stands where one of its code and subject stood. -/
def KeysFrom (t u : FaultTable) : Prop := ∀ (p : Fin 24) (e : FaultEntry), u[p] = some e → ∃ f, t[p] = some f ∧ e.key = f.key

theorem KeysFrom.distinct {t u : FaultTable} (h : KeysFrom t u) (distinct : ((entries t).map FaultEntry.key).Nodup) :
    ((entries u).map FaultEntry.key).Nodup := by
  rw [distinct_iff] at distinct ⊢
  intro p q e f he hf same
  obtain ⟨e', he', ke⟩ := h p e he
  obtain ⟨f', hf', kf⟩ := h q f hf
  exact distinct p q e' f' he' hf' (ke.symm.trans (same.trans kf))

theorem KeysFrom.set {t : FaultTable} {i : Fin 24} {x : Option FaultEntry} {f : FaultEntry} (held : t[i] = some f)
    (key : ∀ e, x = some e → e.key = f.key) : KeysFrom t (t.set i x) := by
  intro p e he
  rw [Vector.getElem_set_fin] at he
  split at he
  next h => subst h; exact ⟨f, held, key e he⟩
  next => exact ⟨e, he, rfl⟩

theorem KeysFrom.mapEntries {t : FaultTable} {f : FaultEntry → FaultEntry} (key : ∀ e, (f e).key = e.key) :
    KeysFrom t (mapEntries f t) := by
  intro p e he
  rw [Machine.mapEntries, tab_getElem] at he
  obtain ⟨g, held, rfl⟩ := Option.map_eq_some_iff.mp he
  exact ⟨g, held, key g⟩

/-- A new entry of a code and subject that no position holds keeps the entries distinct. -/
theorem distinct_set_new {t : FaultTable} (distinct : ((entries t).map FaultEntry.key).Nodup) (i : Fin 24) {e : FaultEntry}
    (absent : findEntry t e.code e.subject = none) : ((entries (t.set i (some e))).map FaultEntry.key).Nodup := by
  rw [findEntry_eq_none_iff] at absent
  have other (p : Fin 24) (f : FaultEntry) (hf : t[p] = some f) : f.key ≠ e.key := fun same =>
    absent p f hf ((f.is_iff_key _ _).mpr same)
  rw [distinct_iff] at distinct ⊢
  intro p q f g hf hg same
  rw [Vector.getElem_set_fin] at hf hg
  split at hf <;> split at hg
  next hp hq => exact hp.symm.trans hq
  next => cases hf; exact absurd same.symm (other q g hg)
  next => cases hg; exact absurd same (other p f hf)
  next => exact distinct p q f g hf hg same

/-! ### Raise (R118, R123, R124) -/

theorem evictee_mem {epoch : FaultEntry → EpochCount} {l : List (Fin 24 × FaultEntry)} {x : Fin 24 × FaultEntry}
    (h : evictee epoch l = some x) : x ∈ l := by
  induction l generalizing x with
  | nil => cases h
  | cons y rest ih =>
    unfold evictee at h
    split at h
    · cases h; exact List.mem_cons_self ..
    next found =>
      split at h
      · cases h; exact List.mem_cons_of_mem _ (ih found)
      · cases h; exact List.mem_cons_self ..

/-- What a raise can do to the table: an entry that stands is left; a CLEARED-UNACKED one returns; a new one takes the lowest empty
position; in a full table it takes that of another entry, or is dropped. -/
theorem tableRaise_cases (t : FaultTable) (code : FaultCode) (subject : Nat) (stamp : EpochCount) :
    (∃ p e, findEntry t code subject = some (p, e) ∧ e.state ≠ .clearedUnacked ∧
        tableRaise t code subject stamp = ⟨t, false, false⟩) ∨
      (∃ p e, findEntry t code subject = some (p, e) ∧ e.state = .clearedUnacked ∧
        tableRaise t code subject stamp = ⟨t.set p (some (e.returned stamp)), false, true⟩) ∨
      (∃ p, findEntry t code subject = none ∧ firstEmpty t = some p ∧
        tableRaise t code subject stamp = ⟨t.set p (some (newEntry code subject stamp)), false, true⟩) ∨
      (findEntry t code subject = none ∧ firstEmpty t = none ∧
        tableRaise t code subject stamp = raiseFull t (newEntry code subject stamp)) := by
  unfold tableRaise
  cases found : findEntry t code subject with
  | some x =>
    obtain ⟨p, e⟩ := x
    cases state : e.state with
    | clearedUnacked => exact .inr (.inl ⟨p, e, rfl, state, by simp [state]⟩)
    | activeUnacked => exact .inl ⟨p, e, rfl, by simp [state], by simp [state]⟩
    | activeAcked => exact .inl ⟨p, e, rfl, by simp [state], by simp [state]⟩
  | none =>
    cases empty : firstEmpty t with
    | some p => exact .inr (.inr (.inl ⟨p, rfl, rfl, rfl⟩))
    | none => exact .inr (.inr (.inr ⟨rfl, rfl, rfl⟩))

/-- A raise into a full table takes one position or none. -/
theorem raiseFull_table (t : FaultTable) (e : FaultEntry) :
    (raiseFull t e).table = t ∨ ∃ p : Fin 24, (raiseFull t e).table = t.set p (some e) := by
  unfold raiseFull
  split
  next i _ _ => exact .inr ⟨i, rfl⟩
  next =>
    split
    next i _ _ => exact .inr ⟨i, rfl⟩
    next => exact .inl rfl

theorem tableRaise_distinct {t : FaultTable} (distinct : ((entries t).map FaultEntry.key).Nodup) (code : FaultCode) (subject : Nat)
    (stamp : EpochCount) : ((entries (tableRaise t code subject stamp).table).map FaultEntry.key).Nodup := by
  obtain ⟨p, e, -, -, h⟩ | ⟨p, e, found, -, h⟩ | ⟨p, absent, -, h⟩ | ⟨absent, -, h⟩ := tableRaise_cases t code subject stamp <;> rw [h]
  · exact distinct
  · exact (KeysFrom.set (findEntry_eq_some_iff.mp found).1 (by rintro _ ⟨⟩; rfl)).distinct distinct
  · exact distinct_set_new distinct p absent
  · obtain h | ⟨p, h⟩ := raiseFull_table t (newEntry code subject stamp) <;> rw [h]
    · exact distinct
    · exact distinct_set_new distinct p absent

/-! ### Clear (R119) and acknowledgement (R120, R121) -/

theorem tableClear_of_found {t : FaultTable} {code : FaultCode} {subject : Nat} {p : Fin 24} {e : FaultEntry}
    (found : findEntry t code subject = some (p, e)) : tableClear t code subject = t.set p e.cleared := by
  unfold tableClear; rw [found]

theorem tableClear_of_absent {t : FaultTable} {code : FaultCode} {subject : Nat} (absent : findEntry t code subject = none) :
    tableClear t code subject = t := by
  unfold tableClear; rw [absent]

theorem FaultEntry.cleared_key {e f : FaultEntry} (h : e.cleared = some f) : f.key = e.key := by
  unfold FaultEntry.cleared at h
  split at h <;> cases h <;> rfl

theorem FaultEntry.acknowledged_key {e f : FaultEntry} (h : e.acknowledged = some f) : f.key = e.key := by
  unfold FaultEntry.acknowledged at h
  split at h
  · split at h <;> cases h; rfl
  all_goals cases h
  rfl

theorem tableClear_keys (t : FaultTable) (code : FaultCode) (subject : Nat) : KeysFrom t (tableClear t code subject) := by
  unfold tableClear
  split
  next found => exact .set (findEntry_eq_some_iff.mp found).1 fun _ => FaultEntry.cleared_key
  next => exact fun p e h => ⟨e, h, rfl⟩

theorem tableAck_keys (t : FaultTable) (code : FaultCode) (subject : Nat) : KeysFrom t (tableAck t code subject) := by
  unfold tableAck
  split
  next found => exact .set (findEntry_eq_some_iff.mp found).1 fun _ => FaultEntry.acknowledged_key
  next => exact fun p e h => ⟨e, h, rfl⟩

theorem tableAckAll_getElem (t : FaultTable) (p : Fin 24) : (tableAckAll t)[p] = t[p].bind FaultEntry.acknowledged :=
  tab_getElem (fun p : Fin 24 => t[p].bind FaultEntry.acknowledged) p

theorem tableAckAll_keys (t : FaultTable) : KeysFrom t (tableAckAll t) := by
  intro p e h
  rw [tableAckAll_getElem] at h
  obtain ⟨f, held, ack⟩ := Option.bind_eq_some_iff.mp h
  exact ⟨f, held, FaultEntry.acknowledged_key ack⟩

/-! ### The table after each change -/

@[simp] theorem State.handOutputs_table (s : State) : s.handOutputs.supervisor.table = s.supervisor.table := s.handOutputs_follow.1

@[simp] theorem State.serious_table (s : State) (code : FaultCode) (subject : Nat) (stamp : EpochCount) :
    (s.serious code subject stamp).supervisor.table = s.supervisor.table := by
  unfold State.serious
  repeat' split
  all_goals rfl

@[simp] theorem State.tripped_supervisor (s : State) (code : FaultCode) (subject : Nat) (stamp : EpochCount) :
    (s.tripped code subject stamp).supervisor = s.supervisor := by
  unfold State.tripped
  split <;> rfl

@[simp] theorem State.raiseOnly_table (s : State) (code : FaultCode) (subject : Nat) :
    (s.raiseOnly code subject).supervisor.table = (tableRaise s.supervisor.table code subject s.stamp).table := by
  simp only [State.raiseOnly, State.handOutputs_table]
  split <;> simp [State.setTable]

@[simp] theorem State.clearOnly_table (s : State) (code : FaultCode) (subject : Nat) :
    (s.clearOnly code subject).supervisor.table = tableClear s.supervisor.table code subject := by
  simp [State.clearOnly, State.setTable]

@[simp] theorem State.ackAllOnly_table (s : State) : s.ackAllOnly.supervisor.table = tableAckAll s.supervisor.table := by
  simp [State.ackAllOnly, State.setTable, State.erasesFor]

theorem State.ackOneOnly_table (s : State) (number subject : Nat) : (s.ackOneOnly number subject).supervisor.table =
    match FaultCode.ofNumber number with
    | none => s.supervisor.table
    | some code => tableAck s.supervisor.table code subject := by
  unfold State.ackOneOnly
  split <;> simp [State.setTable, State.erasesFor, *]

/-! ### Every step -/

theorem entriesDistinct_changes : KeptByChanges State.EntriesDistinct where
  raiseOnly code subject h := by
    rw [State.EntriesDistinct, State.raiseOnly_table]; exact tableRaise_distinct h _ _ _
  clearOnly code subject h := by
    rw [State.EntriesDistinct, State.clearOnly_table]; exact (tableClear_keys _ _ _).distinct h
  ackOneOnly code subject h := by
    rw [State.EntriesDistinct, State.ackOneOnly_table]
    split
    exacts [h, (tableAck_keys _ _ _).distinct h]
  ackAllOnly h := by
    rw [State.EntriesDistinct, State.ackAllOnly_table]; exact (tableAckAll_keys _).distinct h
  marks _ h := h
  reallocate _ h := h

theorem State.EntriesDistinct.setAlloc {s : State} (h : s.EntriesDistinct) (x : Alloc) : (s.setAlloc x).EntriesDistinct := h

theorem State.EntriesDistinct.setSpread {s : State} (h : s.EntriesDistinct) (x : Spread) : (s.setSpread x).EntriesDistinct := h

theorem State.EntriesDistinct.recomputeNow {s : State} (h : s.EntriesDistinct) : s.recomputeNow.EntriesDistinct :=
  entriesDistinct_changes.settle (h.setAlloc _)

theorem State.EntriesDistinct.handOffsets {s : State} (h : s.EntriesDistinct) (set : List (Nat × Int)) :
    (s.handOffsets set).EntriesDistinct := (h.setAlloc _).recomputeNow

theorem State.EntriesDistinct.enterLoad {s : State} (h : s.EntriesDistinct) (kind : StartKind) : (s.enterLoad kind).EntriesDistinct := by
  have emptied : State.reset.EntriesDistinct := by rw [State.EntriesDistinct]; decide
  cases kind with
  | restart => exact h
  | powerOn => exact emptied
  | pinReset => exact emptied

theorem entriesDistinct_kept : KeptByCommands State.EntriesDistinct State.EntriesDistinct where
  core h k := by rw [State.EntriesDistinct, k.faults]; exact h
  trunk h k := by rw [k.rest]; exact h
  requested _ h _ _ := h
  answered _ h _ _ _ := h
  raise code subject h := entriesDistinct_changes.raise h code subject
  clear code subject h := entriesDistinct_changes.clear h code subject
  ackOne code subject h := entriesDistinct_changes.settle (entriesDistinct_changes.ackOneOnly code subject h)
  ackAll h := entriesDistinct_changes.settle (entriesDistinct_changes.ackAllOnly h)
  credits u h key table := by
    show ((entries u.table).map FaultEntry.key).Nodup
    rw [table]; exact (KeysFrom.mapEntries key).distinct h
  spreadClose occupancy h := by
    unfold State.spreadClose
    split
    exacts [h, (State.EntriesDistinct.setSpread h _).handOffsets _]
  pendingMode _ h := h
  maskCarriers {s} form named h := (State.EntriesDistinct.setAlloc h _).recomputeNow
  rampTick h := by
    unfold State.rampTick
    split <;> exact h
  writeEnds h := h
  entries _ h _ := h
  losses _ h _ := h
  raiseLosing code subject h := entriesDistinct_changes.raise h code subject
  clearLosing code subject h := entriesDistinct_changes.clear h code subject
  handLostCount h := by
    unfold State.handLostCount
    dsimp only
    split
    · exact h
    · split
      exacts [(State.EntriesDistinct.setSpread h _).handOffsets _, h]
  start kind h _ := h.enterLoad kind
  restart h := entriesDistinct_changes.clearOnly _ _ (entriesDistinct_changes.clearOnly _ _ (h.enterLoad .restart))
  writeBytes _ _ h := h
  takeImage _ h _ _ := h
  leaveLoad _ _ h _ _ := by unfold State.leaveLoad; split <;> exact h
  enterRun {s} h _ := State.EntriesDistinct.recomputeNow (s := s.setUpRun) h

/-- Settles O54: a raise puts a new entry in the table only where none of its code and subject is found, and every other change leaves
an entry where one of its code and subject stood. -/
theorem everyStepKeepsEntriesDistinct : Obligations.EveryStepKeepsEntriesDistinct := by
  unfold Obligations.EveryStepKeepsEntriesDistinct
  exact fun s t h stepped => entriesDistinct_kept.step_keeps h (fun _ => h) stepped

end Sys2Proof.Machine
end

section
/-! PROOFS. The offsets stay within their limits, and the limit at what the LOST adjacent entries give (R36, R71 to R73). -/

namespace Sys2Proof.Machine

/-! ### The count of adjacent entries (R36) -/

theorem View.countAdjacent_eq (v : View) (state : Presence) : v.countAdjacent state =
    ((List.finRange 16).take 8).countP fun p => v.table[p].map Neighbour.state == some state := by
  rw [View.countAdjacent, View.adjacent, Vector.toList_eq_finRange, ← List.map_take, List.countP_map]
  refine List.countP_congr fun p _ => ?_
  change (match v.table[p] with | none => false | some n => n.state == state) = true ↔ _
  cases v.table[p] <;> simp

theorem mem_take_finRange {p : Fin 16} : p ∈ (List.finRange 16).take 8 ↔ p.val < 8 := by
  revert p; decide

/-- The count rests on which adjacent entries are in the state counted. -/
theorem View.countAdjacent_congr {v w : View} {state : Presence} (h : ∀ p : Fin 16, p.val < 8 →
    (w.table[p].map Neighbour.state = some state ↔ v.table[p].map Neighbour.state = some state)) :
    w.countAdjacent state = v.countAdjacent state := by
  rw [View.countAdjacent_eq, View.countAdjacent_eq]
  exact List.countP_congr fun p hp => by simpa using h p (mem_take_finRange.mp hp)

theorem View.countAdjacent_eq_zero {v : View} {state : Presence} (h : ∀ p : Fin 16, p.val < 8 →
    v.table[p].map Neighbour.state ≠ some state) : v.countAdjacent state = 0 := by
  rw [View.countAdjacent_eq, List.countP_eq_zero]
  exact fun p hp => by simpa using h p (mem_take_finRange.mp hp)

/-! ### The limits but for the count -/

/-- The offsets and the limit as `State.OffsetsInLimits` has them, but for the count of LOST adjacent entries, which may still have to
be handed. -/
structure State.OffsetsBounded (s : State) : Prop where
  reads : s.ReadsInLoad
  image : s.ImageInRange
  run : s.spread.records.isSome → s.inRun
  cleared : s.ctl.node = .load → ∀ p : Fin 16, p.val < 8 → s.view.table[p] = none
  limit : ∀ r, s.spread.records = some r → r.smaxEff = smaxEffOf s.cfg r.current s.spread.lostCount
  inLimits : ∀ r, s.spread.records = some r → ∀ o ∈ r.operators, s.cfg.smin ≤ o.offset ∧ o.offset ≤ r.smaxEff

theorem State.offsetsInLimits_iff (s : State) :
    s.OffsetsInLimits ↔ s.OffsetsBounded ∧ s.spread.lostCount = s.view.countAdjacent .lost :=
  ⟨fun h => ⟨⟨h.reads, h.image, h.run, h.cleared, h.limit, h.inLimits⟩, h.handed⟩,
    fun ⟨h, handed⟩ => ⟨h.reads, h.image, h.run, h.cleared, handed, h.limit, h.inLimits⟩⟩

theorem State.OffsetsInLimits.bounded {s : State} (h : s.OffsetsInLimits) : s.OffsetsBounded := (s.offsetsInLimits_iff.mp h).1

theorem SpreadRun.unflagged_reads {r r' : SpreadRun} (same : r'.unflagged = r.unflagged) : r'.smaxEff = r.smaxEff ∧
    r'.current = r.current ∧ r'.operators.map OperatorRecord.offset = r.operators.map OperatorRecord.offset :=
  ⟨(congrArg SpreadRun.smaxEff same : r'.unflagged.smaxEff = r.unflagged.smaxEff),
    (congrArg SpreadRun.current same : r'.unflagged.current = r.unflagged.current),
    SpreadRun.operators_map_eq_of_unflagged_eq same _ fun _ => rfl⟩

theorem Spread.unflagged_lostCount {p q : Spread} (same : p.unflagged = q.unflagged) : p.lostCount = q.lostCount :=
  (congrArg Spread.lostCount same : p.unflagged.lostCount = q.unflagged.lostCount)

theorem Spread.unflagged_isSome {p q : Spread} (same : p.unflagged = q.unflagged) : p.records.isSome = q.records.isSome := by
  have records : p.records.map SpreadRun.unflagged = q.records.map SpreadRun.unflagged := congrArg Spread.records same
  simpa using congrArg Option.isSome records

namespace State.OffsetsBounded

variable {s t : State}

/-- It rests on the node state, the image, the reads, the table, and the records without their flags. -/
theorem of_same (h : s.OffsetsBounded) (node : t.ctl.node = s.ctl.node) (image : t.ctl.image = s.ctl.image)
    (reads : t.ctl.Reads → s.ctl.Reads) (table : t.view.table = s.view.table)
    (records : t.spread.unflagged = s.spread.unflagged) : t.OffsetsBounded := by
  have cfg : t.cfg = s.cfg := by simp [State.cfg, image]
  have lost := Spread.unflagged_lostCount records
  refine ⟨State.readsInLoad_of_reads h.reads node reads, fun im held => h.image im (image ▸ held), fun some_ => ?_,
    fun load p below => ?_, fun r' held' => ?_, fun r' held' o ho => ?_⟩
  · rw [Spread.unflagged_isSome records] at some_
    simpa [State.inRun, node] using h.run some_
  · rw [table]; exact h.cleared (node.symm.trans load) p below
  · obtain ⟨r, held, same⟩ := Spread.records_of_unflagged_eq records.symm held'
    obtain ⟨limit, current, -⟩ := SpreadRun.unflagged_reads same
    rw [cfg, lost, ← limit, ← current]
    exact h.limit r held
  · obtain ⟨r, held, same⟩ := Spread.records_of_unflagged_eq records.symm held'
    obtain ⟨limit, -, offsets⟩ := SpreadRun.unflagged_reads same
    have member : o.offset ∈ r.operators.map OperatorRecord.offset := offsets ▸ List.mem_map_of_mem ho
    obtain ⟨o', ho', eq⟩ := List.mem_map.mp member
    rw [cfg, ← limit, ← eq]
    exact h.inLimits r held o' ho'

theorem of_carriers (h : s.OffsetsBounded) (k : s.CarrierStep t) (records : t.spread.unflagged = s.spread.unflagged) :
    t.OffsetsBounded := h.of_same k.node k.image k.reads (by rw [k.view]) records

/-- Records handed in RUN: their limit is that of the count held, and their offsets lie within it. -/
theorem setSpread (h : s.OffsetsBounded) (run : s.inRun = true) {r : SpreadRun} {count : Nat}
    (limit : r.smaxEff = smaxEffOf s.cfg r.current count)
    (inLimits : ∀ o ∈ r.operators, s.cfg.smin ≤ o.offset ∧ o.offset ≤ r.smaxEff) :
    (s.setSpread ⟨some r, count⟩).OffsetsBounded :=
  ⟨h.reads, h.image, fun _ => run, h.cleared, by rintro _ ⟨⟩; exact limit, by rintro _ ⟨⟩; exact inLimits⟩

end State.OffsetsBounded

theorem State.cfg_inRange {s : State} (h : s.ImageInRange) : s.cfg.InRange := by
  have absent : Image.absent.InRange :=
    ⟨fun i c held => by simp [Image.absent] at held, le_rfl⟩
  unfold State.cfg
  split
  next image held => exact h image held
  all_goals exact absent

/-- Smin is never above the limit (R71, R187). -/
theorem smin_le_smaxEffOf {image : Image} (h : image.InRange) (mode : SpreadMode) (count : Nat) :
    image.smin ≤ 0 ∧ 0 ≤ smaxEffOf image mode count := by
  refine ⟨h.smin, ?_⟩
  unfold smaxEffOf
  split <;> omega

theorem clampInt_mem {lo hi : Int} (h : lo ≤ hi) (v : Int) : lo ≤ clampInt lo hi v ∧ clampInt lo hi v ≤ hi := by
  unfold clampInt; omega

/-! ### The moves -/

theorem State.ackOneOnly_spread (s : State) (number subject : Nat) : (s.ackOneOnly number subject).spread = s.spread := by
  unfold State.ackOneOnly
  split
  · rfl
  · rw [State.handOutputs_spread]; rfl

theorem State.ackAllOnly_spread (s : State) : s.ackAllOnly.spread = s.spread := by
  unfold State.ackAllOnly
  rw [State.handOutputs_spread]; rfl

theorem State.recomputeNow_unflagged (s : State) : s.recomputeNow.spread.unflagged = s.spread.unflagged := by
  rw [State.recomputeNow, State.settle_unflagged]; rfl

namespace State.OffsetsInLimits

variable {s t : State}

theorem of_same (h : s.OffsetsInLimits) (node : t.ctl.node = s.ctl.node) (image : t.ctl.image = s.ctl.image)
    (reads : t.ctl.Reads → s.ctl.Reads) (table : t.view.table = s.view.table)
    (records : t.spread.unflagged = s.spread.unflagged) : t.OffsetsInLimits := by
  refine t.offsetsInLimits_iff.mpr ⟨h.bounded.of_same node image reads table records, ?_⟩
  rw [Spread.unflagged_lostCount records, h.handed]
  exact View.countAdjacent_congr fun p _ => by rw [table]

theorem of_carriers (h : s.OffsetsInLimits) (k : s.CarrierStep t) (records : t.spread.unflagged = s.spread.unflagged) :
    t.OffsetsInLimits := h.of_same k.node k.image k.reads (by rw [k.view]) records

theorem spreadClose (h : s.OffsetsInLimits) (occupancy : Fin 8 → Option Nat) : (s.spreadClose occupancy).OffsetsInLimits := by
  unfold State.spreadClose
  split
  · exact h
  next r held =>
    have run := h.run (by simp [held])
    obtain ⟨low, high⟩ := smin_le_smaxEffOf (State.cfg_inRange h.image) r.pendingMode s.spread.lostCount
    have closed : (s.setSpread { s.spread with
        records := some (closeRecords s.cfg s.view s.spread.lostCount s.ctl.epoch occupancy r) }).OffsetsInLimits := by
      refine (State.offsetsInLimits_iff _).mpr ⟨h.bounded.setSpread run rfl fun o ho => ?_, h.handed⟩
      obtain ⟨o', -, rfl⟩ := List.mem_map.mp ho
      exact clampInt_mem (low.trans high) _
    exact closed.of_carriers ((State.CarrierStep.refl _).handOffsets _) (State.handOffsets_unflagged _ _)

end State.OffsetsInLimits

/-- The hand-over of the count takes the limit with it, and every offset with the limit (R36, R71, R73). -/
theorem State.OffsetsBounded.handLostCount {s : State} (h : s.OffsetsBounded) : s.handLostCount.OffsetsInLimits := by
  unfold State.handLostCount
  dsimp only
  split
  next none_ =>
    exact (State.offsetsInLimits_iff _).mpr ⟨⟨h.reads, h.image, by simp [none_], h.cleared, by simp [none_], by simp [none_]⟩, rfl⟩
  next r held =>
    have run := h.run (by simp [held])
    obtain ⟨low, high⟩ := smin_le_smaxEffOf (State.cfg_inRange h.image) r.current (s.view.countAdjacent .lost)
    have lowered : (s.setSpread ⟨some { r with
        smaxEff := smaxEffOf s.cfg r.current (s.view.countAdjacent .lost)
        operators := r.operators.map (lowerTo (smaxEffOf s.cfg r.current (s.view.countAdjacent .lost))) },
        s.view.countAdjacent .lost⟩).OffsetsInLimits := by
      refine (State.offsetsInLimits_iff _).mpr ⟨h.setSpread run rfl fun o ho => ?_, rfl⟩
      obtain ⟨o', ho', rfl⟩ := List.mem_map.mp ho
      have := (h.inLimits r held o' ho').1
      exact ⟨le_min this (low.trans high), min_le_right _ _⟩
    split
    · exact lowered.of_carriers ((State.CarrierStep.refl _).handOffsets _) (State.handOffsets_unflagged _ _)
    · exact lowered

theorem builtTable_absent (image : Image) (p : Fin 16) : (builtTable image)[p].map Neighbour.state ≠ some .lost := by
  rw [builtTable, tab_getElem]
  cases configuredId image p <;> simp

namespace State.OffsetsInLimits

variable {s t : State}

theorem enterLoad (s : State) (kind : StartKind) : (s.enterLoad kind).OffsetsInLimits := by
  have empty (p : Fin 16) : (s.enterLoad kind).view.table[p] = none := by simp [State.enterLoad, View.atLoad, View.reset]
  refine ⟨rfl, nofun, nofun, fun _ p _ => empty p, ?_, nofun, nofun⟩
  exact (View.countAdjacent_eq_zero fun p _ => by simp [empty]).symm

theorem leaveLoad (h : s.OffsetsInLimits) (load : s.ctl.node = .load) (idle : s.ctl.operation = none) : s.leaveLoad.OffsetsInLimits := by
  have none_ : s.spread.records = none := by
    by_contra some_
    have := h.run (Option.isSome_iff_ne_none.mpr some_)
    simp [State.inRun, load] at this
  have count : s.spread.lostCount = 0 :=
    h.handed.trans (View.countAdjacent_eq_zero fun p below => by simp [h.cleared load p below])
  have reading (u : State) (same : u.ctl.operation = s.ctl.operation) : u.ReadsInLoad := by simp [State.ReadsInLoad, same, idle]
  have range (u : State) (same : u.ctl.image = s.ctl.image) : u.ImageInRange := fun im held => h.image im (same ▸ held)
  have run (u : State) (same : u.spread = s.spread) : u.spread.records.isSome → u.inRun := by simp [same, none_]
  unfold State.leaveLoad
  split
  · refine ⟨reading _ rfl, range _ rfl, run _ rfl, nofun, ?_, by simp [State.enterListen, none_], by simp [State.enterListen, none_]⟩
    exact count.trans (View.countAdjacent_eq_zero fun p _ => builtTable_absent _ p).symm
  all_goals
    exact ⟨reading _ rfl, range _ rfl, run _ rfl, nofun, h.handed, by simp [State.enterConfigFault, none_],
      by simp [State.enterConfigFault, none_]⟩

theorem enterRun (h : s.OffsetsInLimits) (listen : s.ctl.node = .listen) : s.enterRun.OffsetsInLimits := by
  have idle : ¬ s.ctl.Reads := fun reads => by cases listen.symm.trans ((State.readsInLoad_iff s).mp h.reads reads)
  obtain ⟨low, high⟩ := smin_le_smaxEffOf (State.cfg_inRange h.image) s.cfg.startMode s.spread.lostCount
  have setUp : s.setUpRun.OffsetsInLimits := by
    refine ⟨(State.readsInLoad_iff _).mpr (absurd · idle), h.image, fun _ => rfl, nofun, h.handed, ?_, ?_⟩
    · rintro _ ⟨⟩; rfl
    · rintro _ ⟨⟩ o ho
      obtain ⟨k, -, rfl⟩ := List.mem_map.mp ho
      exact ⟨low, high⟩
  exact setUp.of_carriers (State.CarrierStep.recomputeNow (.refl _)) (State.recomputeNow_unflagged _)

end State.OffsetsInLimits

theorem offsetsInLimits_kept : KeptByCommands State.OffsetsInLimits State.OffsetsBounded where
  core h k := h.of_same k.node k.image k.reads k.table (by rw [k.spread])
  trunk h k := by rw [k.rest]; exact h.of_same rfl rfl id rfl rfl
  requested _ h _ _ := h.of_same rfl rfl id rfl rfl
  answered _ h _ _ _ := h.of_same rfl rfl id rfl rfl
  raise {s} code subject h := h.of_carriers ((State.CarrierStep.changes s).raise (.refl s) _ _) (s.raise_unflagged _ _)
  clear {s} code subject h := h.of_carriers ((State.CarrierStep.changes s).clear (.refl s) _ _) (s.clear_unflagged _ _)
  ackOne {s} code subject h := h.of_carriers
    ((State.CarrierStep.changes s).settle ((State.CarrierStep.changes s).ackOneOnly _ _ (.refl s)))
    (by rw [State.settle_unflagged, State.ackOneOnly_spread])
  ackAll {s} h := h.of_carriers ((State.CarrierStep.changes s).settle ((State.CarrierStep.changes s).ackAllOnly (.refl s)))
    (by rw [State.settle_unflagged, State.ackAllOnly_spread])
  credits _ h _ _ := h.of_same rfl rfl id rfl rfl
  spreadClose occupancy h := h.spreadClose occupancy
  pendingMode {s} mode h := by
    refine ⟨h.reads, h.image, ?_, h.cleared, h.handed, fun r' held' => ?_, fun r' held' => ?_⟩
    · simpa [State.setPendingMode] using h.run
    all_goals obtain ⟨r, held, rfl⟩ := Option.map_eq_some_iff.mp held'
    · exact h.limit r held
    · exact h.inLimits r held
  maskCarriers {s} form named h := h.of_carriers (.maskCarriers s form named)
    (by rw [State.maskCarriers, State.recomputeNow_unflagged]; rfl)
  rampTick {s} h := h.of_carriers (.rampTick s) (by unfold State.rampTick; split <;> rfl)
  writeEnds h := h.of_same rfl rfl id rfl rfl
  entries {s} table h same := by
    refine ⟨h.reads, h.image, h.run, fun load p below => ?_, ?_, h.limit, h.inLimits⟩
    · exact (same p below).2 (h.cleared load p below)
    · exact h.handed.trans (View.countAdjacent_congr fun p below => (same p below).1).symm
  losses {s} table h kept :=
    ⟨h.reads, h.image, h.run, fun load p below => kept p below (h.cleared load p below), h.limit, h.inLimits⟩
  raiseLosing {s} code subject h := h.of_carriers ((State.CarrierStep.changes s).raise (.refl s) _ _) (s.raise_unflagged _ _)
  clearLosing {s} code subject h := h.of_carriers ((State.CarrierStep.changes s).clear (.refl s) _ _) (s.clear_unflagged _ _)
  handLostCount h := h.handLostCount
  start {s} kind _ _ := .enterLoad s kind
  restart {s} _ := by
    refine (State.OffsetsInLimits.enterLoad s .restart).of_carriers
      ((State.CarrierStep.clearOnly _ _ _).trans (.clearOnly _ _ _)) ?_
    rw [State.clearOnly_spread, State.clearOnly_spread]
  writeBytes _ _ h := h.of_same rfl rfl id rfl rfl
  takeImage {s} held h reads inRange := by
    have load := (State.readsInLoad_iff s).mp h.reads reads
    have none_ : s.spread.records = none := by
      by_contra some_
      have := h.run (Option.isSome_iff_ne_none.mpr some_)
      simp [State.inRun, load] at this
    exact ⟨h.reads, inRange, h.run, h.cleared, h.handed, by simp [none_], by simp [none_]⟩
  leaveLoad {s t} h reads k node idle := k.leaveLoad (node.trans ((State.readsInLoad_iff s).mp h.reads reads)) idle
  enterRun h listen := h.enterRun listen

/-- Settles O57: the close clamps the offsets to the limit that it sets, a hand-over of the LOST count lowers them to the limit that
follows it, and every recompute writes the flags of the records alone. -/
theorem everyStepKeepsOffsetsInLimits : Obligations.EveryStepKeepsOffsetsInLimits := by
  unfold Obligations.EveryStepKeepsOffsetsInLimits
  exact fun s t h stepped => offsetsInLimits_kept.step_keeps h (fun _ => h.of_same rfl rfl id rfl rfl) stepped

end Sys2Proof.Machine
end

section
/-! PROOFS. What the carriers and the writer's outputs keep through every command: the amplifier is off without carriers, and each output is on
its way (R97, R101 to R107, R113). -/

namespace Sys2Proof.Machine

/-! ### The allocation unit through one change of the fault table -/

/-- What a change of the fault table leaves of the allocation unit: it hands a derating level and the DOWN condition alone, and asks for a
recompute in RUN alone (R85, R86). -/
structure State.AllocStep (s t : State) : Prop where
  beside : s.Beside t
  slots : t.alloc.slots = s.alloc.slots
  mute : t.alloc.mute = s.alloc.mute
  offsets : t.alloc.offsets = s.alloc.offsets
  flags : t.alloc.flags = s.alloc.flags
  ramp : t.alloc.ramp = s.alloc.ramp
  marks : t.alloc.shedMarks = s.alloc.shedMarks
  writer : t.writer = s.writer
  spread : t.spread = s.spread
  beff : s.inRun = false → t.alloc.beff = s.alloc.beff
  due : t.alloc.recomputeDue = true → s.alloc.recomputeDue = true ∨ s.inRun = true

namespace State.AllocStep

variable {s t u : State}

theorem of_sameAlloc (beside : s.Beside t) (alloc : t.alloc = s.alloc) (writer : t.writer = s.writer) (spread : t.spread = s.spread) :
    s.AllocStep t :=
  ⟨beside, by rw [alloc], by rw [alloc], by rw [alloc], by rw [alloc], by rw [alloc], by rw [alloc], writer, spread,
    fun _ => by rw [alloc], fun due => .inl (alloc ▸ due)⟩

theorem trans (h : s.AllocStep t) (k : t.AllocStep u) : s.AllocStep u where
  beside := h.beside.trans k.beside
  slots := k.slots.trans h.slots
  mute := k.mute.trans h.mute
  offsets := k.offsets.trans h.offsets
  flags := k.flags.trans h.flags
  ramp := k.ramp.trans h.ramp
  marks := k.marks.trans h.marks
  writer := k.writer.trans h.writer
  spread := k.spread.trans h.spread
  beff out := (k.beff (h.beside.inRun.trans out)).trans (h.beff out)
  due asked := (k.due asked).elim h.due fun run => .inr (h.beside.inRun ▸ run)

theorem handDerating (s : State) (level : Nat) : s.AllocStep (s.handDerating level) := by
  have beside := s.handDerating_beside level
  revert beside
  unfold State.handDerating
  split
  · exact fun beside => of_sameAlloc beside rfl rfl rfl
  · split
    next run => exact fun beside => ⟨beside, rfl, rfl, rfl, rfl, rfl, rfl, rfl, rfl, fun out => by simp [run] at out, fun _ => .inr run⟩
    next => exact fun beside => ⟨beside, rfl, rfl, rfl, rfl, rfl, rfl, rfl, rfl, fun _ => rfl, .inl⟩

theorem handDown (s : State) (down : Bool) : s.AllocStep (s.handDown down) := by
  have beside := s.handDown_beside down
  revert beside
  unfold State.handDown
  split
  · exact fun beside => of_sameAlloc beside rfl rfl rfl
  · exact fun beside => ⟨beside, rfl, rfl, rfl, rfl, rfl, rfl, rfl, rfl, fun _ => rfl, fun due => by simpa using due⟩

theorem setSupervisor (h : s.AllocStep t) (u : Supervisor) : s.AllocStep (t.setSupervisor u) :=
  h.trans (of_sameAlloc (t.setSupervisor_beside u) rfl rfl rfl)

theorem handOutputs (h : s.AllocStep t) : s.AllocStep t.handOutputs := by
  have alarmed := h.setSupervisor { t.supervisor with alarm := alarmLevel t.supervisor.table }
  exact (alarmed.trans (handDerating _ _)).trans (handDown _ _)

theorem setTable (s : State) (t : FaultTable) : s.AllocStep (s.setTable t) := of_sameAlloc (s.setTable_beside t) rfl rfl rfl

theorem raiseOnly (s : State) (code : FaultCode) (subject : Nat) : s.AllocStep (s.raiseOnly code subject) := by
  have taken (u : Supervisor) : s.AllocStep ((s.setTable (tableRaise s.supervisor.table code subject s.stamp).table).setSupervisor u) :=
    (setTable s _).setSupervisor u
  have entered (v : State) (stamp : EpochCount) : v.AllocStep ((v.serious code subject stamp).tripped code subject stamp) := by
    refine of_sameAlloc ((v.serious_beside _ _ _).trans (State.tripped_beside _ _ _ _)) ?_ ?_ ?_
    · rw [State.tripped_alloc, State.serious_alloc]
    all_goals unfold State.tripped State.serious
    all_goals repeat' split
    all_goals rfl
  unfold State.raiseOnly
  dsimp only
  refine handOutputs ?_
  split
  exacts [(taken _).trans (entered _ _), taken _]

theorem clearOnly (s : State) (code : FaultCode) (subject : Nat) : s.AllocStep (s.clearOnly code subject) := (setTable s _).handOutputs

theorem erasesFor (s : State) (before : FaultTable) : s.AllocStep (s.erasesFor before) :=
  of_sameAlloc (s.erasesFor_beside before) rfl rfl rfl

theorem ackOneOnly (s : State) (number subject : Nat) : s.AllocStep (s.ackOneOnly number subject) := by
  unfold State.ackOneOnly
  split
  · exact of_sameAlloc (.refl s) rfl rfl rfl
  · exact ((setTable s _).trans (erasesFor _ _)).handOutputs

theorem ackAllOnly (s : State) : s.AllocStep s.ackAllOnly := by
  have erased := (setTable s (tableAckAll s.supervisor.table)).trans (erasesFor _ s.supervisor.table)
  exact (erased.setSupervisor _).handOutputs

/-- Outside RUN a change asks for no recompute. -/
theorem not_due (h : s.AllocStep t) (out : s.inRun = false) (idle : s.alloc.recomputeDue = false) : t.alloc.recomputeDue = false := by
  refine Bool.eq_false_iff.mpr fun due => ?_
  obtain due | run := h.due due
  · simp [idle] at due
  · simp [out] at run

end State.AllocStep

/-! ### What survives the moves of the carriers -/

/-- What a property of the carriers and the writer must survive to survive every command. `R` is what it leaves of itself while a recompute
is asked for. -/
structure KeptByCarriers (P R : State → Prop) : Prop where
  same : ∀ {s t : State}, P s → t.ctl.node = s.ctl.node → t.ctl.image = s.ctl.image → (t.ctl.Reads → s.ctl.Reads) →
    t.alloc = s.alloc → t.writer = s.writer → P t
  weaken : ∀ {s : State}, P s → R s
  settled : ∀ {s : State}, R s → s.alloc.recomputeDue = false → P s
  changes : KeptByChanges R
  offsets : ∀ {s : State} (offsets : List (Nat × Int)), P s →
    R (s.setAlloc { s.alloc with offsets := offsets, recomputeDue := s.inRun })
  mutes : ∀ {s : State} (mute : Vector Bool 8), P s → R (s.setAlloc { s.alloc with mute := mute, recomputeDue := s.inRun })
  rampTick : ∀ {s : State}, P s → P s.rampTick
  writeEnds : ∀ {s : State}, P s → P s.writeEnds
  start : ∀ {s : State} (kind : StartKind), P s → P (s.enterLoad kind)
  takeImage : ∀ {s : State} (held : HeldImage), P s → s.ctl.Reads → (∀ image, held = .usable image → image.InRange) →
    P (s.setCtl { s.ctl with image := held })
  leaveLoad : ∀ {s t : State}, P s → s.ctl.Reads → P t → t.ctl.node = s.ctl.node → t.ctl.operation = none → P t.leaveLoad
  setUpRun : ∀ {s : State}, P s → s.ctl.node = .listen →
    R (s.setUpRun.setAlloc { s.setUpRun.alloc with recomputeDue := s.setUpRun.inRun })

namespace KeptByCarriers

variable {P R : State → Prop} (kept : KeptByCarriers P R) {s : State}
include kept

theorem settle (h : R s) : P s.settle := kept.settled (kept.changes.settle h) s.settle_settled

theorem handOffsets (h : P s) (set : List (Nat × Int)) : P (s.handOffsets set) := by
  have settled := kept.settle (kept.offsets (replaceOffsets s.alloc.offsets set) h)
  exact settled

theorem setSpread (h : P s) (x : Spread) : P (s.setSpread x) := kept.same h rfl rfl id rfl rfl

theorem commands : KeptByCommands P P where
  core h k := kept.same h k.node k.image k.reads k.alloc k.writer
  trunk h k := by rw [k.rest]; exact kept.same h rfl rfl id rfl rfl
  requested _ h _ _ := kept.same h rfl rfl id rfl rfl
  answered _ h _ _ _ := kept.same h rfl rfl id rfl rfl
  raise code subject h := kept.settle (kept.changes.raiseOnly code subject (kept.weaken h))
  clear code subject h := kept.settle (kept.changes.clearOnly code subject (kept.weaken h))
  ackOne code subject h := kept.settle (kept.changes.ackOneOnly code subject (kept.weaken h))
  ackAll h := kept.settle (kept.changes.ackAllOnly (kept.weaken h))
  credits _ h _ _ := kept.same h rfl rfl id rfl rfl
  spreadClose occupancy h := by
    unfold State.spreadClose
    split
    exacts [h, kept.handOffsets (kept.setSpread h _) _]
  pendingMode _ h := kept.same h rfl rfl id rfl rfl
  maskCarriers {s} form named h := by
    have settled := kept.settle (kept.mutes (maskFlags s.cfg form named s.alloc.mute) h)
    exact settled
  rampTick := kept.rampTick
  writeEnds := kept.writeEnds
  entries _ h _ := kept.same h rfl rfl id rfl rfl
  losses _ h _ := kept.same h rfl rfl id rfl rfl
  raiseLosing code subject h := kept.settle (kept.changes.raiseOnly code subject (kept.weaken h))
  clearLosing code subject h := kept.settle (kept.changes.clearOnly code subject (kept.weaken h))
  handLostCount h := by
    unfold State.handLostCount
    dsimp only
    split
    · exact kept.setSpread h _
    · split
      exacts [kept.handOffsets (kept.setSpread h _) _, kept.setSpread h _]
  start kind h _ := kept.start kind h
  restart {s} h := by
    have loaded := kept.weaken (kept.start .restart h)
    have cleared := kept.changes.clearOnly .trunkNoise 0 (kept.changes.clearOnly .trunkBusy 0 loaded)
    have out : (s.enterLoad .restart).inRun = false := rfl
    have idle : (s.enterLoad .restart).alloc.recomputeDue = false := rfl
    have step := State.AllocStep.clearOnly (s.enterLoad .restart) .trunkBusy 0
    have next := State.AllocStep.clearOnly ((s.enterLoad .restart).clearOnly .trunkBusy 0) .trunkNoise 0
    exact kept.settled cleared (next.not_due (step.beside.inRun.trans out) (step.not_due out idle))
  writeBytes _ _ h := kept.same h rfl rfl id rfl rfl
  takeImage held h reads inRange := kept.takeImage held h reads inRange
  leaveLoad := kept.leaveLoad
  enterRun h listen := by
    have settled := kept.settle (kept.setUpRun h listen)
    exact settled

end KeptByCarriers

/-! ### The amplifier (R97, R107) -/

theorem anyActive_iff {slots : Vector SlotState 8} : anyActive slots = true ↔ ∃ i : Fin 8, slots[i].isActive = true := by
  simp [anyActive, Vector.toList_eq_finRange, List.any_map]

theorem anyActive_eq_false_iff {slots : Vector SlotState 8} : anyActive slots = false ↔ ∀ i : Fin 8, slots[i].isActive = false := by
  rw [← Bool.not_eq_true, anyActive_iff]; simp

theorem SlotState.isActive_eq (x : SlotState) : x.isActive = x.applied.isSome := by cases x <;> rfl

/-- Without an ACTIVE slot every output is the mute word. -/
theorem applied_eq_none {slots : Vector SlotState 8} (h : anyActive slots = false) (i : Fin 8) : slots[i].applied = none := by
  simpa [SlotState.isActive_eq] using anyActive_eq_false_iff.mp h i

/-- With no output changed as many slots are ACTIVE as before. -/
theorem anyActive_of_no_changes {before after : Vector SlotState 8} (none_ : changedOutputs before after = []) :
    anyActive after = anyActive before := by
  have same (i : Fin 8) : before[i].applied = after[i].applied := by
    by_contra differ
    have := (mem_changedOutputs before after i after[i].applied).mpr ⟨differ, rfl⟩
    simp [none_] at this
  rw [Bool.eq_iff_iff, anyActive_iff, anyActive_iff]
  simp only [SlotState.isActive_eq, same]

@[simp] theorem Writer.acceptAll_indicator (w : Writer) (image : Image) (changes : List (Fin 8 × Option Nat)) :
    (w.acceptAll image changes).indicator = w.indicator := by
  induction changes generalizing w with
  | nil => rfl
  | cons c rest ih => rw [Writer.acceptAll, ih]; unfold Writer.accept; split <;> rfl

@[simp] theorem Writer.acceptAll_paEnable (w : Writer) (image : Image) (changes : List (Fin 8 × Option Nat)) :
    (w.acceptAll image changes).paEnable = w.paEnable := by
  induction changes generalizing w with
  | nil => rfl
  | cons c rest ih => rw [Writer.acceptAll, ih]; unfold Writer.accept; split <;> rfl

/-- The start of a write leaves the indicator and the line. -/
theorem Writer.startNext_lines (w : Writer) : w.startNext.indicator = w.indicator ∧ w.startNext.paEnable = w.paEnable ∧
    w.startNext.transceiver = w.transceiver := by
  unfold Writer.startNext Writer.start
  repeat' split
  all_goals exact ⟨rfl, rfl, rfl⟩

@[simp] theorem Writer.startNext_indicator (w : Writer) : w.startNext.indicator = w.indicator := w.startNext_lines.1

@[simp] theorem Writer.startNext_paEnable (w : Writer) : w.startNext.paEnable = w.paEnable := w.startNext_lines.2.1

@[simp] theorem Writer.startNext_transceiver (w : Writer) : w.startNext.transceiver = w.transceiver := w.startNext_lines.2.2

theorem Writer.assertPa_off {w : Writer} (off : w.paEnable = false) (none_ : w.indicator = false) : w.assertPa.paEnable = false := by
  simp [Writer.assertPa, off, none_]

/-- A hand-over leaves the line dropped where it says that no slot is ACTIVE (R107). -/
theorem Writer.handOver_off {w : Writer} (image : Image) {changes : List (Fin 8 × Option Nat)} (some_ : changes ≠ [])
    (someActive : Bool) : (w.handOver image changes someActive).indicator = someActive ∧
      (someActive = false → (w.handOver image changes someActive).paEnable = false) := by
  cases changes with
  | nil => exact absurd rfl some_
  | cons c rest =>
    simp only [Writer.handOver, Writer.startNext_indicator, Writer.startNext_paEnable]
    refine ⟨by simp [Writer.assertPa, Writer.indicate], fun none_ => Writer.assertPa_off ?_ ?_⟩
    all_goals simp [Writer.indicate, none_]

theorem Writer.forceMutes_off (w : Writer) (keepFlight : Bool) :
    (w.forceMutes keepFlight).indicator = false ∧ (w.forceMutes keepFlight).paEnable = false := by
  simp [Writer.forceMutes]

theorem Writer.atLoad_off (w : Writer) (kind : StartKind) : (w.atLoad kind).indicator = false ∧ (w.atLoad kind).paEnable = false := by
  cases kind <;> exact w.forceMutes_off _

theorem State.AmplifierSafe.handOutputChanges {s t : State} (h : s.AmplifierSafe) (writer : t.writer = s.writer) :
    (t.handOutputChanges s.alloc.slots).AmplifierSafe := by
  by_cases none_ : changedOutputs s.alloc.slots t.alloc.slots = []
  · refine ⟨?_, ?_⟩ <;> simp only [State.handOutputChanges, State.setWriter_writer, none_, Writer.handOver, writer]
    · exact h.known.trans (anyActive_of_no_changes none_).symm
    · exact h.off
  · obtain ⟨indicator, off⟩ := Writer.handOver_off (w := t.writer) t.cfg none_ (anyActive t.alloc.slots)
    exact ⟨indicator, fun dropped => off (indicator.symm.trans dropped)⟩

theorem State.AmplifierSafe.of_same {s t : State} (h : s.AmplifierSafe) (slots : t.alloc.slots = s.alloc.slots)
    (writer : t.writer = s.writer) : t.AmplifierSafe := ⟨by rw [slots, writer]; exact h.known, by rw [writer]; exact h.off⟩

theorem State.AmplifierSafe.change {s t : State} (h : s.AmplifierSafe) (k : s.AllocStep t) : t.AmplifierSafe := h.of_same k.slots k.writer

theorem anyActive_reset : anyActive Alloc.reset.slots = false := by decide

theorem amplifierSafe_carriers : KeptByCarriers State.AmplifierSafe State.AmplifierSafe where
  same h _ _ _ alloc writer := h.of_same (by rw [alloc]) writer
  weaken := id
  settled h _ := h
  changes := {
    raiseOnly := fun _ _ h => h.change (.raiseOnly _ _ _)
    clearOnly := fun _ _ h => h.change (.clearOnly _ _ _)
    ackOneOnly := fun _ _ h => h.change (.ackOneOnly _ _ _)
    ackAllOnly := fun h => h.change (.ackAllOnly _)
    marks := fun _ h => h.of_same rfl rfl
    reallocate := fun _ h => h.handOutputChanges rfl }
  offsets _ h := h.of_same rfl rfl
  mutes _ h := h.of_same rfl rfl
  rampTick {s} h := by
    unfold State.rampTick
    split
    · exact h
    · exact State.AmplifierSafe.handOutputChanges (s := s.advanceTo _ _) (h.of_same rfl rfl) rfl
  writeEnds {s} h := by
    unfold State.writeEnds Writer.complete
    split
    · exact h
    · refine ⟨(Writer.startNext_indicator _).trans h.known, fun off => ?_⟩
      simp only [State.setWriter_writer, Writer.startNext_indicator, Writer.startNext_paEnable] at off ⊢
      exact Writer.assertPa_off (h.off off) off
  start {s} kind _ := ⟨(s.writer.atLoad_off kind).1.trans anyActive_reset.symm, fun _ => (s.writer.atLoad_off kind).2⟩
  takeImage _ h _ _ := h.of_same rfl rfl
  leaveLoad _ _ h _ _ := by unfold State.leaveLoad; split <;> exact h.of_same rfl rfl
  setUpRun h _ := h.of_same rfl rfl

/-! ### The outputs on their way (R101 to R106, R113) -/

/-- The write in flight carries the held value of its slot, and any other held value is what the transceiver took last. -/
structure Writer.Tracked (w : Writer) : Prop where
  flight : ∀ f, w.inFlight = some f → w.held[f.slot] = some f.value
  settings : ∀ (i : Fin 8) (value : Drive), w.held[i] = some value → (∀ f, w.inFlight = some f → f.slot ≠ i) →
    w.transceiver[i] = some (driveWord i value)

/-- What the transceiver holds has no part in the start of a write. -/
theorem Writer.startNext_of_transceiver (w : Writer) (words : Vector (Option (BitVec 16)) 8) :
    Writer.startNext { w with transceiver := words } = { w.startNext with transceiver := words } := by
  have choice : Writer.choice { w with transceiver := words } = w.choice := rfl
  unfold Writer.startNext
  rw [choice]
  dsimp only
  split
  · rfl
  · cases w.choice with
    | none => rfl
    | some slot =>
      show Writer.start { w with transceiver := words } slot = { w.start slot with transceiver := words }
      unfold Writer.start
      dsimp only
      split <;> rfl

namespace Writer.Tracked

variable {w : Writer}

theorem of_same {v : Writer} (h : w.Tracked) (flight : v.inFlight = w.inFlight) (held : v.held = w.held)
    (transceiver : v.transceiver = w.transceiver) : v.Tracked := by
  obtain ⟨held', dirty, inFlight', indicator, pa, transceiver'⟩ := v
  cases flight; cases held; cases transceiver
  exact ⟨h.flight, h.settings⟩

theorem accept (h : w.Tracked) (slot : Fin 8) (value : Drive) : (w.accept slot value).Tracked := by
  unfold Writer.accept
  split <;> exact h.of_same rfl rfl rfl

theorem acceptAll (h : w.Tracked) (image : Image) (changes : List (Fin 8 × Option Nat)) : (w.acceptAll image changes).Tracked := by
  induction changes generalizing w with
  | nil => exact h
  | cons c rest ih => exact ih (h.accept _ _)

theorem start (h : w.Tracked) (idle : w.inFlight = none) (slot : Fin 8) : (w.start slot).Tracked := by
  unfold Writer.start
  split
  · exact h
  next p waits =>
    refine ⟨?_, fun i value held other => ?_⟩
    · rintro _ ⟨⟩; simp
    · have differs : slot ≠ i := other _ rfl
      have held : w.held[i] = some value := by rwa [Vector.getElem_set_fin, if_neg differs] at held
      exact h.settings i value held (by simp [idle])

theorem startNext (h : w.Tracked) : w.startNext.Tracked := by
  unfold Writer.startNext
  split
  · exact h
  next idle =>
    split
    exacts [h, h.start idle _]

theorem handOver (h : w.Tracked) (image : Image) (changes : List (Fin 8 × Option Nat)) (someActive : Bool) :
    (w.handOver image changes someActive).Tracked := by
  cases changes with
  | nil => exact h
  | cons c rest =>
    have indicated : (w.indicate someActive).Tracked := h.of_same rfl rfl rfl
    exact startNext ((indicated.acceptAll image _).of_same rfl rfl rfl)

theorem complete (h : w.Tracked) : w.complete.Tracked := by
  unfold Writer.complete
  split
  · exact h
  next f flight =>
    refine startNext ⟨nofun, fun i value held _ => ?_⟩
    change (w.transceiver.set f.slot _)[i] = _
    rw [Vector.getElem_set_fin]
    split
    next same =>
      subst same
      rw [Option.some.inj ((h.flight f flight).symm.trans held)]
    next other =>
      exact h.settings i value held fun g flight' => by cases flight.symm.trans flight'; exact other

theorem forceMutes (h : w.Tracked) (keepFlight : Bool) : (w.forceMutes keepFlight).Tracked := by
  unfold Writer.forceMutes
  refine startNext ?_
  cases keepFlight
  · exact ⟨nofun, fun i value held _ => by simp at held⟩
  · exact h.of_same rfl rfl rfl

theorem atLoad (h : w.Tracked) (kind : StartKind) : (w.atLoad kind).Tracked := by
  cases kind with
  | restart => exact h.forceMutes _
  | pinReset => exact h.forceMutes _
  | powerOn =>
    have unknown : Writer.Tracked { w with transceiver := Vector.replicate 8 none, held := Vector.replicate 8 none, inFlight := none } :=
      ⟨nofun, fun i value held _ => by simp at held⟩
    have forced := unknown.forceMutes false
    have same : w.atLoad .powerOn =
        Writer.forceMutes { w with transceiver := Vector.replicate 8 none, held := Vector.replicate 8 none, inFlight := none } false :=
      (Writer.startNext_of_transceiver _ _).symm
    rw [same]; exact forced

end Writer.Tracked

/-- After LOAD entry the writer carries the mute word of every slot (R110). -/
theorem Writer.forceMutes_carries (w : Writer) (keepFlight : Bool) (i : Fin 8) : (w.forceMutes keepFlight).CarriesAt i .mute :=
  Writer.startNext_carries (.inl ⟨⟨.mute, true⟩, by simp, rfl⟩)

theorem Writer.atLoad_carries (w : Writer) (kind : StartKind) (i : Fin 8) : (w.atLoad kind).CarriesAt i .mute := by
  cases kind <;> exact w.forceMutes_carries _ i

/-- `State.OutputsReachWriter` while a recompute is asked for. -/
structure State.OutputsOnTheirWay (s : State) : Prop where
  reads : s.ReadsInLoad
  due : s.alloc.recomputeDue = true → s.inRun = true
  idle : s.inRun = false → anyActive s.alloc.slots = false
  outputs : s.writer.Carries s.cfg s.alloc.slots
  tracked : s.writer.Tracked

theorem State.OutputsReachWriter.onTheirWay {s : State} (h : s.OutputsReachWriter) : s.OutputsOnTheirWay :=
  ⟨h.reads, by simp [h.taken], h.idle, h.outputs, ⟨h.flight, h.settings⟩⟩

theorem State.OutputsOnTheirWay.settled {s : State} (h : s.OutputsOnTheirWay) (taken : s.alloc.recomputeDue = false) :
    s.OutputsReachWriter := ⟨h.reads, taken, h.idle, h.outputs, h.tracked.flight, h.tracked.settings⟩

theorem State.cfg_of_image {s t : State} (image : t.ctl.image = s.ctl.image) : t.cfg = s.cfg := by simp [State.cfg, image]

theorem State.inRun_of_node {s t : State} (node : t.ctl.node = s.ctl.node) : t.inRun = s.inRun := by simp [State.inRun, node]

/-- With no slot ACTIVE what the writer carries rests on no image. -/
theorem Writer.carries_of_idle {w : Writer} {image image' : Image} {slots slots' : Vector SlotState 8} (h : w.Carries image slots)
    (idle : anyActive slots = false) (idle' : anyActive slots' = false) : w.Carries image' slots' := by
  intro i
  have := h i
  rw [applied_eq_none idle] at this
  rw [applied_eq_none idle']
  exact this

namespace State.OutputsOnTheirWay

variable {s t : State}

theorem change (h : s.OutputsOnTheirWay) (k : s.AllocStep t) (reads : t.ctl.Reads → s.ctl.Reads) : t.OutputsOnTheirWay where
  reads := State.readsInLoad_of_reads h.reads k.beside.node reads
  due asked := k.beside.inRun.trans ((k.due asked).elim h.due id)
  idle out := by rw [k.slots]; exact h.idle (k.beside.inRun ▸ out)
  outputs := by rw [k.beside.cfg, k.slots, k.writer]; exact h.outputs
  tracked := by rw [k.writer]; exact h.tracked

/-- The changed outputs are handed on, in RUN. -/
theorem handOutputChanges (h : s.OutputsOnTheirWay) (node : t.ctl.node = s.ctl.node) (image : t.ctl.image = s.ctl.image)
    (reads : t.ctl.Reads → s.ctl.Reads) (writer : t.writer = s.writer) (run : s.inRun = true) :
    (t.handOutputChanges s.alloc.slots).OutputsOnTheirWay where
  reads := State.readsInLoad_of_reads h.reads node reads
  due _ := (State.inRun_of_node node).trans run
  idle out := by simp [State.inRun_of_node (s := s) (t := t.handOutputChanges s.alloc.slots) node, run] at out
  outputs := by
    change (t.writer.handOver t.cfg _ _).Carries t.cfg t.alloc.slots
    rw [writer, State.cfg_of_image image]
    exact Writer.handOver_carries _ _ h.outputs
  tracked := by
    change (t.writer.handOver t.cfg _ _).Tracked
    rw [writer]; exact h.tracked.handOver _ _ _

end State.OutputsOnTheirWay

theorem riseAll_isActive (slots : Vector SlotState 8) (i : Fin 8) : (riseAll slots)[i].isActive = slots[i].isActive := by
  rw [riseAll, tab_getElem]
  cases slots[i] <;> rfl

/-- Without an ACTIVE slot nothing rises. -/
theorem riseAll_of_idle {slots : Vector SlotState 8} (idle : anyActive slots = false) : anyActive (riseAll slots) = false := by
  rw [anyActive_eq_false_iff] at idle ⊢
  exact fun i => (riseAll_isActive slots i).trans (idle i)

theorem changedOutputs_of_idle {before after : Vector SlotState 8} (idle : anyActive before = false) (idle' : anyActive after = false) :
    changedOutputs before after = [] := by
  refine List.eq_nil_iff_forall_not_mem.mpr fun ⟨i, output⟩ h => ?_
  have differ := ((mem_changedOutputs before after i output).mp h).1
  rw [applied_eq_none idle, applied_eq_none idle'] at differ
  exact differ rfl

theorem State.OutputsReachWriter.rampTick {s : State} (h : s.OutputsReachWriter) : s.rampTick.OutputsReachWriter := by
  unfold State.rampTick
  split
  · exact h
  next since _ =>
    cases run : s.inRun with
    | true =>
      have rises := h.onTheirWay.handOutputChanges (t := (s.advanceTo since s.rampPeriod).setAlloc { s.alloc with
        slots := riseAll s.alloc.slots, ramp := some (since + BitVec.ofNat 32 s.rampPeriod) }) rfl rfl id rfl run
      exact rises.settled h.taken
    | false =>
      have rises := riseAll_of_idle (h.idle run)
      have writer : (s.writer.handOver s.cfg (changedOutputs s.alloc.slots (riseAll s.alloc.slots))
          (anyActive (riseAll s.alloc.slots))) = s.writer := by rw [changedOutputs_of_idle (h.idle run) rises]; rfl
      have outputs := Writer.carries_of_idle (image' := s.cfg) h.outputs (h.idle run) rises
      obtain ⟨flight, settings⟩ := h.onTheirWay.tracked
      rw [← writer] at outputs flight settings
      exact ⟨h.reads, h.taken, fun _ => rises, outputs, flight, settings⟩

theorem outputsReachWriter_carriers : KeptByCarriers State.OutputsReachWriter State.OutputsOnTheirWay where
  same {s t} h node image reads alloc writer := by
    refine ⟨State.readsInLoad_of_reads h.reads node reads, ?_, fun out => ?_, ?_, ?_, ?_⟩
    · rw [alloc]; exact h.taken
    · rw [alloc]; exact h.idle (State.inRun_of_node node ▸ out)
    · rw [State.cfg_of_image image, alloc, writer]; exact h.outputs
    · rw [writer]; exact h.flight
    · rw [writer]; exact h.settings
  weaken h := h.onTheirWay
  settled h taken := h.settled taken
  changes := {
    raiseOnly := fun _ _ h => h.change (.raiseOnly _ _ _) (State.raiseOnly_reads _ _ _)
    clearOnly := fun _ _ h => h.change (.clearOnly _ _ _) (by simp)
    ackOneOnly := fun {s} _ _ h => h.change (.ackOneOnly _ _ _) ((State.CarrierStep.changes s).ackOneOnly _ _ (.refl s)).reads
    ackAllOnly := fun {s} h => h.change (.ackAllOnly _) ((State.CarrierStep.changes s).ackAllOnly (.refl s)).reads
    marks := fun _ h => ⟨h.reads, h.due, h.idle, h.outputs, h.tracked⟩
    reallocate := fun due h => h.handOutputChanges rfl rfl id rfl (h.due due) }
  offsets _ h := ⟨h.reads, id, h.idle, h.outputs, h.onTheirWay.tracked⟩
  mutes _ h := ⟨h.reads, id, h.idle, h.outputs, h.onTheirWay.tracked⟩
  rampTick h := h.rampTick
  writeEnds h := ⟨h.reads, h.taken, h.idle, fun i => Writer.complete_carries (h.outputs i), h.onTheirWay.tracked.complete.flight,
    h.onTheirWay.tracked.complete.settings⟩
  start {s} kind h := by
    refine State.OutputsOnTheirWay.settled ⟨rfl, nofun, fun _ => anyActive_reset, fun i => ?_, h.onTheirWay.tracked.atLoad kind⟩ rfl
    have mute : (s.enterLoad kind).alloc.slots[i].applied = none := applied_eq_none anyActive_reset i
    rw [mute]
    exact s.writer.atLoad_carries kind i
  takeImage {s} held h reads _ := by
    have out : s.inRun = false := by simp [State.inRun, (State.readsInLoad_iff s).mp h.reads reads]
    exact ⟨h.reads, h.taken, h.idle, Writer.carries_of_idle h.outputs (h.idle out) (h.idle out), h.flight, h.settings⟩
  leaveLoad {s t} h reads k node idle := by
    have out : t.inRun = false := by simp [State.inRun, node, (State.readsInLoad_iff s).mp h.reads reads]
    have none_ := k.idle out
    unfold State.leaveLoad
    split
    all_goals
      refine ⟨(State.readsInLoad_iff _).mpr fun reads => absurd reads (StoreCtl.not_reads_of_idle idle), k.taken, fun _ => none_,
        Writer.carries_of_idle k.outputs none_ none_, k.flight, k.settings⟩
  setUpRun {s} h listen := by
    have out : s.inRun = false := by simp [State.inRun, listen]
    have noRead : ¬ s.ctl.Reads := fun reads => by cases listen.symm.trans ((State.readsInLoad_iff s).mp h.reads reads)
    exact ⟨(State.readsInLoad_iff _).mpr fun reads => absurd reads noRead, fun _ => rfl, nofun, h.outputs, h.onTheirWay.tracked⟩

/-- Settles O56: every hand-over tells the writer whether a slot is ACTIVE, which drops PA enable where none is, and moves each changed
output into the dirty set, the held values or the write in flight. -/
theorem everyStepKeepsTheAmplifierOffWithoutCarriers : Obligations.EveryStepKeepsTheAmplifierOffWithoutCarriers := by
  unfold Obligations.EveryStepKeepsTheAmplifierOffWithoutCarriers
  exact ⟨fun s t h stepped => amplifierSafe_carriers.commands.step_keeps h (fun _ => h.of_same rfl rfl) stepped,
    fun s t h stepped => outputsReachWriter_carriers.commands.step_keeps h
      (fun _ => outputsReachWriter_carriers.same h rfl rfl id rfl rfl) stepped⟩

end Sys2Proof.Machine
end

section
/-! PROOFS. The carriers stay within the budget, and in RUN as a recompute of the inputs leaves them (R81 to R96). -/

namespace Sys2Proof.Machine

/-! ### What a recompute and a rise make of one slot -/

/-- A slot that a recompute leaves ACTIVE is configured, with the fitted target and the applied code of R93. -/
theorem recomputed_active {image : Image} {a : Alloc} {i : Fin 8} {target applied : Nat}
    (h : (recomputed image a).slots[i] = .active target applied) : ∃ c, image.slots[i] = some c ∧
      target = fittedTarget image a c ∧ applied = appliedCode a.slots[i] c.floor target := by
  have active := (recomputed_isActive image a i).mp (by rw [h]; rfl)
  obtain ⟨c, hc⟩ := verdictAt_some image a i active
  rw [recomputed_slots, active, hc] at h
  obtain ⟨rfl, rfl⟩ := SlotState.active.inj h
  exact ⟨c, hc, rfl, rfl⟩

/-- The codes of the slots in order: floor, applied code, target, ceiling (R93). -/
def CodesInOrderOf (image : Image) (slots : Vector SlotState 8) : Prop :=
  ∀ (i : Fin 8) (target applied : Nat), slots[i] = .active target applied →
    ∃ c, image.slots[i] = some c ∧ c.floor ≤ applied ∧ applied ≤ target ∧ target ≤ c.ceiling

theorem CodesInOrderOf.of_idle {image : Image} {slots : Vector SlotState 8} (idle : anyActive slots = false) :
    CodesInOrderOf image slots := by
  intro i target applied slot
  have := anyActive_eq_false_iff.mp idle i
  simp [slot, SlotState.isActive] at this

theorem CodesInOrderOf.recomputed {image : Image} {a : Alloc} (inRange : image.InRange) (h : CodesInOrderOf image a.slots) :
    CodesInOrderOf image (recomputed image a).slots := by
  intro i target applied slot
  obtain ⟨c, hc, rfl, rfl⟩ := recomputed_active slot
  have ordered := (inRange.slots i c hc).1
  have floor : c.floor ≤ fittedTarget image a c := le_max_left _ _
  have ceiling : fittedTarget image a c ≤ c.ceiling := by
    simp only [fittedTarget, SlotConfig.rawUnder]; omega
  refine ⟨c, hc, ?_, ?_, ceiling⟩
  · cases before : a.slots[i] with
    | active t code =>
      obtain ⟨c', hc', low, -, -⟩ := h i t code before
      cases hc.symm.trans hc'
      exact le_min low floor
    | _ => exact le_rfl
  · cases before : a.slots[i] with
    | active t code => exact min_le_right _ _
    | _ => exact floor

theorem SlotState.rise_active {x : SlotState} {target applied : Nat} (h : x.rise = .active target applied) :
    ∃ code, x = .active target code ∧ code ≤ applied ∧ (code ≤ target → applied ≤ target) := by
  cases x with
  | active t code =>
    obtain ⟨rfl, rfl⟩ := SlotState.active.inj h
    exact ⟨code, rfl, by split <;> omega, by split <;> omega⟩
  | _ => cases h

theorem CodesInOrderOf.riseAll {image : Image} {slots : Vector SlotState 8} (h : CodesInOrderOf image slots) :
    CodesInOrderOf image (riseAll slots) := by
  intro i target applied slot
  rw [Sys2Proof.Machine.riseAll, tab_getElem] at slot
  obtain ⟨code, before, low, high⟩ := SlotState.rise_active slot
  obtain ⟨c, hc, floor, below, ceiling⟩ := h i target code before
  exact ⟨c, hc, floor.trans low, high below, ceiling⟩

theorem SlotState.rise_of_not_active {x : SlotState} (h : x.isActive = false) : x.rise = x := by
  cases x with
  | active => cases h
  | _ => rfl

@[simp] theorem SlotState.rise_isActive (x : SlotState) : x.rise.isActive = x.isActive := by cases x <;> rfl

@[simp] theorem SlotState.rise_target (x : SlotState) : x.rise.target = x.target := by cases x <;> rfl

theorem riseAll_getElem (slots : Vector SlotState 8) (i : Fin 8) : (riseAll slots)[i] = slots[i].rise := by
  rw [riseAll, tab_getElem]

/-- A rise changes no state and no target, so that the carriers stay as the recompute left them (R94). -/
theorem Allocated.riseAll {image : Image} {beff : Nat} {a : Alloc} (h : Allocated image beff a) :
    Allocated image beff { a with slots := riseAll a.slots } := by
  have floors (i : Fin 8) : floorsBelow image (Sys2Proof.Machine.riseAll a.slots) i = floorsBelow image a.slots i := by
    simp only [floorsBelow, riseAll_getElem, SlotState.rise_isActive]
  have terms (r : Nat) : termsUnder image { a with slots := Sys2Proof.Machine.riseAll a.slots } r = termsUnder image a r := by
    simp only [termsUnder, riseAll_getElem, SlotState.rise_isActive]
  have still {i : Fin 8} {x : SlotState} (slot : a.slots[i] = x) (off : x.isActive = false) :
      (Sys2Proof.Machine.riseAll a.slots)[i] = x := by
    rw [riseAll_getElem, slot, SlotState.rise_of_not_active off]
  refine ⟨fun i absent => still (h.absent i absent) rfl, fun d i c hc => still (h.down d i c hc) rfl,
    fun d i c hc m => still (h.muted d i c hc m) rfl, fun d i c hc m => ?_, ?_, fun k flag hk => ?_⟩
  · have candidate := h.candidates d i c hc m
    dsimp only
    rw [floors]
    split at candidate
    next fits => rw [if_pos fits, riseAll_getElem, SlotState.rise_isActive]; exact candidate
    next full => rw [if_neg full]; exact still candidate rfl
  · obtain ⟨r, fits, least, targets⟩ := h.targets
    refine ⟨r, by rwa [terms], fun q below => by rw [terms]; exact least q below, fun i c target applied hc slot => ?_⟩
    obtain ⟨code, before, -, -⟩ := SlotState.rise_active ((riseAll_getElem a.slots i).symm.trans slot)
    exact targets i c target code hc before
  · have same (i : Fin 8) (c : SlotConfig) :
        c.Constrains a.offsets (Sys2Proof.Machine.riseAll a.slots)[i] ↔ c.Constrains a.offsets a.slots[i] := by
      simp only [SlotConfig.Constrains, riseAll_getElem, SlotState.rise_isActive, SlotState.rise_target]
    simpa only [same] using h.flags k flag hk

/-! ### Targets and applied codes fit -/

theorem linSum_filterMap_le {α : Type} {f g : α → Option Nat} {l : List α}
    (h : ∀ x ∈ l, (f x = none ∧ g x = none) ∨ ∃ p q, f x = some p ∧ g x = some q ∧ p ≤ q) :
    linSum (l.filterMap f) ≤ linSum (l.filterMap g) := by
  induction l with
  | nil => exact le_rfl
  | cons x rest ih =>
    have rest_le := ih fun y member => h y (List.mem_cons_of_mem x member)
    obtain ⟨hf, hg⟩ | ⟨p, q, hf, hg, le⟩ := h x List.mem_cons_self
    · simpa [hf, hg] using rest_le
    · simp only [List.filterMap_cons, hf, hg, linSum, List.map_cons, List.sum_cons]
      exact add_le_add (lin_mono le) rest_le

theorem codes_eq_filterMap (f : SlotState → Option Nat) (slots : Vector SlotState 8) :
    slots.toList.filterMap f = (List.finRange 8).filterMap fun i => f slots[i] := by
  rw [Vector.toList_eq_finRange, List.filterMap_map]; rfl

/-- The applied codes are never above the targets in sum (R95). -/
theorem CodesInOrderOf.applied_le {image : Image} {slots : Vector SlotState 8} (h : CodesInOrderOf image slots) :
    linSum (appliedCodes slots) ≤ linSum (targetCodes slots) := by
  rw [appliedCodes, targetCodes, codes_eq_filterMap, codes_eq_filterMap]
  refine linSum_filterMap_le fun i _ => ?_
  cases slot : slots[i] with
  | active target applied =>
    obtain ⟨c, -, -, below, -⟩ := h i target applied slot
    exact .inr ⟨applied, target, rfl, rfl, below⟩
  | _ => exact .inl ⟨rfl, rfl⟩

/-- The targets of a recompute are the terms of the reduction, which fit (R92). -/
theorem Allocated.fits {image : Image} {beff : Nat} {a : Alloc} (h : Allocated image beff a) (order : CodesInOrderOf image a.slots) :
    linSum (targetCodes a.slots) ≤ lin beff := by
  obtain ⟨r, fits, -, targets⟩ := h.targets
  rw [targetCodes, codes_eq_filterMap]
  refine le_trans (linSum_filterMap_le fun i _ => ?_) fits
  cases slot : a.slots[i] with
  | active target applied =>
    obtain ⟨c, hc, -⟩ := order i target applied slot
    refine .inr ⟨target, target, rfl, ?_, le_rfl⟩
    simp [SlotState.isActive, hc, targets i c target applied hc slot]
  | _ => exact .inl ⟨rfl, rfl⟩

/-! ### The invariant while a recompute is asked for -/

/-- `State.WithinBudget` while a recompute is asked for. -/
structure State.BudgetUnlessDue (s : State) : Prop where
  reads : s.ReadsInLoad
  image : s.ImageInRange
  due : s.alloc.recomputeDue = true → s.inRun = true
  beff : s.inRun = false → s.alloc.beff = none
  off : s.inRun = false → anyActive s.alloc.slots = false
  order : CodesInOrderOf s.cfg s.alloc.slots
  run : s.inRun = true → s.AllocatedUnlessDue

theorem State.WithinBudget.unlessDue {s : State} (h : s.WithinBudget) : s.BudgetUnlessDue where
  reads := h.reads
  image := h.image
  due asked := by simp [h.taken] at asked
  beff out := by simpa [out] using h.beff
  off := h.off
  order := h.order
  run inRun := ⟨inRun, State.cfg_inRange h.image, by simpa [inRun] using h.beff, fun _ => h.allocated inRun⟩

theorem State.BudgetUnlessDue.settled {s : State} (h : s.BudgetUnlessDue) (taken : s.alloc.recomputeDue = false) : s.WithinBudget where
  reads := h.reads
  image := h.image
  taken := taken
  beff := by
    split
    next run => exact (h.run run).beff
    next out => exact h.beff (by simpa using out)
  off := h.off
  order := h.order
  fits run := ((h.run run).allocated taken).fits h.order
  allocated run := (h.run run).allocated taken

namespace State.AllocatedUnlessDue

theorem ackOneOnly {s : State} (h : s.AllocatedUnlessDue) (number subject : Nat) : (s.ackOneOnly number subject).AllocatedUnlessDue := by
  unfold State.ackOneOnly
  split
  · exact h
  · exact handOutputs (h.of_beside ((s.setTable_beside _).trans (State.erasesFor_beside _ _)) rfl)

theorem ackAllOnly {s : State} (h : s.AllocatedUnlessDue) : s.ackAllOnly.AllocatedUnlessDue := by
  have erased := h.of_beside ((s.setTable_beside (tableAckAll s.supervisor.table)).trans
    (State.erasesFor_beside _ s.supervisor.table)) rfl
  exact handOutputs (erased.of_beside (State.setSupervisor_beside _ _) rfl)

end State.AllocatedUnlessDue

namespace State.BudgetUnlessDue

variable {s t : State}

theorem change (h : s.BudgetUnlessDue) (k : s.AllocStep t) (reads : t.ctl.Reads → s.ctl.Reads)
    (run : s.AllocatedUnlessDue → t.AllocatedUnlessDue) : t.BudgetUnlessDue where
  reads := State.readsInLoad_of_reads h.reads k.beside.node reads
  image im held := h.image im (k.beside.image ▸ held)
  due asked := k.beside.inRun.trans ((k.due asked).elim h.due id)
  beff out := (k.beff (k.beside.inRun ▸ out)).trans (h.beff (k.beside.inRun ▸ out))
  off out := by rw [k.slots]; exact h.off (k.beside.inRun ▸ out)
  order := by rw [k.beside.cfg, k.slots]; exact h.order
  run inRun := run (h.run (k.beside.inRun ▸ inRun))

theorem marks (h : s.BudgetUnlessDue) (marks : Vector Bool 8) : (s.setAlloc { s.alloc with shedMarks := marks }).BudgetUnlessDue := by
  have beside : s.Beside (s.setAlloc { s.alloc with shedMarks := marks }) :=
    ⟨rfl, rfl, rfl, rfl, rfl, rfl, rfl, rfl, rfl, rfl, rfl, rfl, rfl⟩
  exact ⟨h.reads, h.image, h.due, h.beff, h.off, h.order, fun run => (h.run run).of_beside beside rfl⟩

theorem reallocate (h : s.BudgetUnlessDue) (due : s.alloc.recomputeDue = true) : s.reallocate.BudgetUnlessDue := by
  have run := h.due due
  refine ⟨h.reads, h.image, nofun, fun out => ?_, fun out => ?_, h.order.recomputed (State.cfg_inRange h.image),
    fun _ => (h.run run).reallocate⟩
  all_goals exact absurd (run.symm.trans out) (by decide)

/-- A trigger of a recompute: what the carriers were before does not count. -/
theorem asked (h : s.BudgetUnlessDue) {a : Alloc} (slots : a.slots = s.alloc.slots) (beff : a.beff = s.alloc.beff)
    (derating : a.derating = s.alloc.derating) (due : a.recomputeDue = s.inRun) : (s.setAlloc a).BudgetUnlessDue where
  reads := h.reads
  image := h.image
  due asked := due.symm.trans asked
  beff out := beff.trans (h.beff out)
  off out := slots ▸ h.off out
  order := slots ▸ h.order
  run run := ⟨run, (h.run run).inRange, by
    rw [State.setAlloc_cfg, State.setAlloc_alloc, beff, derating]; exact (h.run run).beff,
    fun idle => absurd ((idle.symm.trans due).trans run) (by decide)⟩

end State.BudgetUnlessDue

theorem State.WithinBudget.rampTick {s : State} (h : s.WithinBudget) : s.rampTick.WithinBudget := by
  unfold State.rampTick
  split
  · exact h
  · refine ⟨h.reads, h.image, h.taken, h.beff, fun out => riseAll_of_idle (h.off out), CodesInOrderOf.riseAll h.order, fun run => ?_,
      fun run => ?_⟩
    · exact ((h.allocated run).riseAll.of_same (b := { s.alloc with slots := riseAll s.alloc.slots }) rfl rfl rfl rfl rfl).fits
        (CodesInOrderOf.riseAll h.order)
    · exact (h.allocated run).riseAll.of_same rfl rfl rfl rfl rfl

/-- Outside RUN the carriers are within the budget where none is ACTIVE and no B_eff is held. -/
theorem State.WithinBudget.of_out {s : State} (out : s.inRun = false) (reads : s.ReadsInLoad) (image : s.ImageInRange)
    (taken : s.alloc.recomputeDue = false) (beff : s.alloc.beff = none) (off : anyActive s.alloc.slots = false) : s.WithinBudget where
  reads := reads
  image := image
  taken := taken
  beff := by rw [out]; exact beff
  off _ := off
  order := CodesInOrderOf.of_idle off
  fits run := absurd (run.symm.trans out) (by decide)
  allocated run := absurd (run.symm.trans out) (by decide)

theorem withinBudget_carriers : KeptByCarriers State.WithinBudget State.BudgetUnlessDue where
  same {s t} h node image reads alloc _ := by
    have run := State.inRun_of_node node
    have cfg := State.cfg_of_image image
    refine ⟨State.readsInLoad_of_reads h.reads node reads, fun im held => h.image im (image ▸ held), ?_, ?_, ?_, ?_, ?_, ?_⟩
    · rw [alloc]; exact h.taken
    · rw [alloc, run, cfg]; exact h.beff
    · rw [alloc, run]; exact h.off
    · rw [State.CodesInOrder, alloc, cfg]; exact h.order
    · rw [alloc, run, cfg]; exact h.fits
    · rw [alloc, run, cfg]; exact h.allocated
  weaken h := h.unlessDue
  settled h taken := h.settled taken
  changes := {
    raiseOnly := fun _ _ h => h.change (.raiseOnly _ _ _) (State.raiseOnly_reads _ _ _) fun a => a.raiseOnly _ _
    clearOnly := fun _ _ h => h.change (.clearOnly _ _ _) (by simp) fun a => a.clearOnly _ _
    ackOneOnly := fun {s} _ _ h => h.change (.ackOneOnly _ _ _) ((State.CarrierStep.changes s).ackOneOnly _ _ (.refl s)).reads
      fun a => a.ackOneOnly _ _
    ackAllOnly := fun {s} h => h.change (.ackAllOnly _) ((State.CarrierStep.changes s).ackAllOnly (.refl s)).reads
      fun a => a.ackAllOnly
    marks := fun marks h => h.marks marks
    reallocate := fun due h => h.reallocate due }
  offsets _ h := h.unlessDue.asked rfl rfl rfl rfl
  mutes _ h := h.unlessDue.asked rfl rfl rfl rfl
  rampTick h := h.rampTick
  writeEnds h := ⟨h.reads, h.image, h.taken, h.beff, h.off, h.order, h.fits, h.allocated⟩
  start kind _ := .of_out rfl rfl nofun rfl rfl anyActive_reset
  takeImage {s} held h reads inRange := by
    have out : s.inRun = false := by simp [State.inRun, (State.readsInLoad_iff s).mp h.reads reads]
    exact .of_out out h.reads inRange h.taken (h.unlessDue.beff out) (h.off out)
  leaveLoad {s t} h reads k node idle := by
    have out : t.inRun = false := by simp [State.inRun, node, (State.readsInLoad_iff s).mp h.reads reads]
    have beff := k.unlessDue.beff out
    have noRead : ¬ t.ctl.Reads := StoreCtl.not_reads_of_idle idle
    unfold State.leaveLoad
    split
    all_goals exact .of_out rfl ((State.readsInLoad_iff _).mpr (absurd · noRead)) k.image k.taken beff (k.off out)
  setUpRun {s} h listen := by
    have noRead : ¬ s.ctl.Reads := fun reads => by cases listen.symm.trans ((State.readsInLoad_iff s).mp h.reads reads)
    have inRange := State.cfg_inRange h.image
    exact ⟨(State.readsInLoad_iff _).mpr (absurd · noRead), h.image, fun _ => rfl, nofun, nofun, h.order,
      fun _ => ⟨rfl, inRange, rfl, nofun⟩⟩

/-- Settles O55: a recompute leaves the carriers as `Allocated` says, every change that alters its inputs asks for one, a ramp tick stops at the
target, and no other move touches the unit. -/
theorem everyStepKeepsCarriersWithinBudget : Obligations.EveryStepKeepsCarriersWithinBudget := by
  unfold Obligations.EveryStepKeepsCarriersWithinBudget
  intro s t h stepped
  have kept : t.WithinBudget := withinBudget_carriers.commands.step_keeps h
    (fun _ => withinBudget_carriers.same h rfl rfl id rfl rfl) stepped
  exact ⟨kept, CodesInOrderOf.applied_le kept.order⟩

end Sys2Proof.Machine
end

section
/-! PROOFS. The step, the starts and the values of power-on (chapter 10). -/

namespace Sys2Proof.Machine

/-- Settles O1: the definition of the step, with a command waiting. -/
theorem stepRunsFrontCommand : Obligations.StepRunsFrontCommand := by
  intro s c rest waiting
  unfold step
  rw [waiting]

/-- Settles O3: each block's values of power-on, read off. -/
theorem resetHoldsPowerOnValues : Obligations.ResetHoldsPowerOnValues := by
  unfold Obligations.ResetHoldsPowerOnValues
  refine ⟨?ctl, ?port, ?view, ?scanner, ?spread, ?alloc, ?writer, ?supervisor, ?rest⟩
  case ctl => exact ⟨rfl, rfl, rfl, rfl, rfl, rfl, rfl, rfl, rfl, rfl, rfl⟩
  case port => exact ⟨rfl, rfl, rfl, rfl, rfl, rfl, rfl, rfl, rfl, rfl⟩
  case view => exact ⟨by decide, rfl, rfl, rfl, rfl, rfl, rfl⟩
  case scanner => exact ⟨rfl, rfl, rfl, rfl, by decide, rfl, rfl, rfl, rfl, rfl, rfl⟩
  case spread => exact ⟨rfl, rfl⟩
  case alloc => exact ⟨by decide, by decide, rfl, rfl, rfl, rfl, by decide⟩
  case writer => exact ⟨by decide, rfl, rfl, rfl⟩
  case supervisor => exact ⟨by decide, rfl, rfl, rfl, rfl, rfl⟩
  case rest => exact ⟨rfl, rfl, rfl, rfl⟩

/-! ### Power-on and pin reset (R180, R196) -/

/-- The forced mutes of a writer of which nothing is known: those of power-on, and what the transceiver holds is left. -/
theorem Writer.forceMutes_unknown (w : Writer) : w.forceMutes false = { Writer.reset with transceiver := w.transceiver } := by
  have fresh : Writer.startNext { Writer.reset with
      held := Vector.replicate 8 none, inFlight := none, dirty := Vector.replicate 8 (some ⟨.mute, true⟩) } = Writer.reset := by decide
  have split := Writer.startNext_of_transceiver { Writer.reset with
      held := Vector.replicate 8 none, inFlight := none, dirty := Vector.replicate 8 (some ⟨.mute, true⟩) } w.transceiver
  rw [fresh] at split
  exact split

theorem Writer.atLoad_powerOn (w : Writer) : w.atLoad .powerOn = Writer.reset :=
  congrArg (fun v : Writer => { v with transceiver := Vector.replicate 8 none }) w.forceMutes_unknown

theorem Writer.atLoad_pinReset (w : Writer) : w.atLoad .pinReset = { Writer.reset with transceiver := w.transceiver } :=
  w.forceMutes_unknown

theorem Port.lineAfterCut_eq (p : Port) : p.lineAfterCut = if p.isSending then .idle else p.line := by
  unfold Port.lineAfterCut Port.isSending
  cases p.tx <;> rfl

theorem Scanner.atLoad_fresh (c : Scanner) {kind : StartKind} (fresh : kind ≠ .restart) : c.atLoad kind = Scanner.reset := by
  have stuck : (tab 11 fun i => (c.stuck[i]).atLoad kind) = Vector.replicate 11 ⟨0, 0, false⟩ :=
    Vector.ext_fin fun i => by
      rw [tab_getElem]
      cases kind with
      | restart => exact absurd rfl fresh
      | _ => simp [StuckWatch.atLoad, atStart]
  cases kind with
  | restart => exact absurd rfl fresh
  | _ => unfold Scanner.atLoad; rw [stuck]; rfl

theorem State.enterLoad_powerOn (s : State) : s.enterLoad .powerOn = { State.reset with
    pending := s.pending, draws := s.draws, store := s.store
    port := { Port.reset with line := if s.port.isSending then .idle else s.port.line } } := by
  unfold State.enterLoad Port.atLoad
  rw [s.port.lineAfterCut_eq, s.writer.atLoad_powerOn, s.scanner.atLoad_fresh (by decide)]
  rfl

theorem State.enterLoad_pinReset (s : State) : s.enterLoad .pinReset = { State.reset with
    pending := s.pending, draws := s.draws, store := s.store
    port := { Port.reset with line := if s.port.isSending then .idle else s.port.line }
    ctl := { StoreCtl.reset with storeWait := true }
    writer := { Writer.reset with transceiver := s.writer.transceiver } } := by
  unfold State.enterLoad Port.atLoad
  rw [s.port.lineAfterCut_eq, s.writer.atLoad_pinReset, s.scanner.atLoad_fresh (by decide)]
  rfl

/-- A write cycle changes the store alone. -/
theorem State.applyCycle_eq (s : State) : s.applyCycle = s.setStore s.applyCycle.store := by
  unfold State.applyCycle
  repeat' split
  all_goals rfl

theorem State.applyCycle_of_written {s : State} {op : InFlight} {address : Nat} {bytes : List Byte}
    (flight : s.ctl.operation = some op) (written : op.operation.written s.ctl.region s.marker = some (address, bytes)) :
    s.applyCycle = s.setStore (s.store.writeBytes address bytes) := by
  simp [State.applyCycle, flight, written]

theorem State.applyCycle_of_reads {s : State}
    (none_ : ∀ op, s.ctl.operation = some op → op.operation.written s.ctl.region s.marker = none) : s.applyCycle = s := by
  unfold State.applyCycle
  split
  · rfl
  next op flight => rw [none_ op flight]

/-- A byte read after bytes were written: theirs within them, and as it was outside. -/
theorem Memory.read_writeBytes_byteAt {m : Memory} (wf : m.wf) (address : Nat) (bytes : List Byte) (a : Nat) :
    (m.writeBytes address bytes).read a =
      if address ≤ a ∧ a < address + bytes.length then byteAt bytes (a - address) else m.read a := by
  rw [Memory.read_writeBytes wf]
  split
  next inside =>
    have below : a - address < bytes.length := by omega
    rw [byteAt, List.getD_eq_getElem _ _ below, List.getD_eq_getElem _ _ below]
  next => rfl

theorem State.cutOperation_eq (s : State) (cycleApplied : Bool) :
    s.cutOperation cycleApplied = s.setStore (if cycleApplied then s.applyCycle.store else s.store) := by
  unfold State.cutOperation
  split
  · exact s.applyCycle_eq
  · rfl

/-- Settles O4: LOAD entry by power-on or pin reset is the state of reset but for what the start does not touch. -/
theorem powerOnAndPinResetTakeResetValues : Obligations.PowerOnAndPinResetTakeResetValues := by
  intro cycleApplied s
  refine ⟨⟨_, rfl, ?_⟩, ⟨_, rfl, ?_⟩, fun op address bytes wf flight written a => ?_, fun none_ => ?_⟩
  · rw [State.powerOn, State.enterLoad_powerOn, State.cutOperation_eq]; rfl
  · rw [State.pinReset, State.enterLoad_pinReset, State.cutOperation_eq]; rfl
  · rw [State.applyCycle_of_written flight written]
    exact Memory.read_writeBytes_byteAt wf address bytes a
  · rw [State.applyCycle_of_reads none_]

/-! ### The clock brought to a moment -/

/-- After a wait for a moment at least its time has gone by. -/
theorem State.elapsed_advanceTo (s : State) (moment : Ms) {ms : Nat} (short : ms < 2 ^ 32) :
    (s.advanceTo moment ms).elapsed moment = max ms (s.elapsed moment) := by
  have clock : (s.advanceTo moment ms).ctl.clock - moment =
      (s.ctl.clock - moment) + BitVec.ofNat 32 (ms - s.elapsed moment) := by
    rw [State.advanceTo, State.advance_ctl_clock, BitVec.sub_eq_add_neg, BitVec.sub_eq_add_neg]
    ac_rfl
  have bound := (s.ctl.clock - moment).isLt
  rw [State.elapsed, clock, BitVec.toNat_add, BitVec.toNat_ofNat]
  simp only [State.elapsed]
  omega

theorem State.le_elapsed_advanceTo (s : State) (moment : Ms) {ms : Nat} (short : ms < 2 ^ 32) :
    ms ≤ (s.advanceTo moment ms).elapsed moment := by
  rw [s.elapsed_advanceTo moment short]; exact le_max_left _ _

/-- Settles O5: the wait is counted from the clock's 0 at LOAD entry. -/
theorem storeWaitEndsAfterFiveMilliseconds : Obligations.StoreWaitEndsAfterFiveMilliseconds := by
  intro s wait
  have clock : (s.advanceTo 0#32 5).ctl.clock = if s.ctl.clock.toNat < 5 then 5#32 else s.ctl.clock := by
    apply BitVec.eq_of_toNat_eq
    have gone := s.elapsed_advanceTo 0#32 (ms := 5) (by norm_num)
    simp only [State.elapsed, BitVec.sub_zero] at gone
    rw [gone]
    split <;> simp <;> omega
  refine ⟨s.storeWaitEnd, rfl, ?_⟩
  rw [State.storeWaitEnd, if_pos wait]
  exact ⟨rfl, clock⟩

/-! ### The state right after power-on -/

theorem reset_tracked : Writer.reset.Tracked := by
  refine ⟨by decide, fun i value held other => ?_⟩
  have elsewhere : (0 : Fin 8) ≠ i := other _ rfl
  have unknown : ∀ j : Fin 8, 0 ≠ j → Writer.reset.held[j] = none := by decide
  cases (unknown i elsewhere).symm.trans held

theorem reset_outputsReachWriter : State.reset.OutputsReachWriter := by
  have carries (i : Fin 8) : Writer.reset.CarriesAt i .mute := Writer.reset.atLoad_powerOn ▸ Writer.reset.atLoad_carries .powerOn i
  refine State.OutputsOnTheirWay.settled ⟨rfl, nofun, fun _ => anyActive_reset, fun i => ?_, reset_tracked⟩ rfl
  have mute : State.reset.alloc.slots[i].applied = none := applied_eq_none anyActive_reset i
  rw [mute]
  exact carries i

/-- Settles O60: the table is empty, no slot is ACTIVE, nothing is queued, and the node is in LOAD. -/
theorem resetMeetsEveryInvariant : Obligations.ResetMeetsEveryInvariant := by
  have distinct : State.reset.EntriesDistinct := by rw [State.EntriesDistinct]; decide
  refine ⟨reset_store_wf, distinct, ⟨by decide, by decide, by decide⟩, .of_out rfl rfl nofun rfl rfl anyActive_reset,
    ⟨by decide, fun _ => rfl⟩, reset_outputsReachWriter, ?offsets, ⟨by decide, nofun, nofun⟩, ?port⟩
  case offsets =>
    have empty (p : Fin 16) : State.reset.view.table[p] = none := by revert p; decide
    refine ⟨rfl, nofun, nofun, fun _ p _ => empty p, ?_, nofun, nofun⟩
    exact (View.countAdjacent_eq_zero fun p _ => by rw [empty p]; nofun).symm
  case port => exact ⟨rfl, rfl, fun _ => ⟨rfl, rfl, rfl, rfl, rfl⟩, nofun⟩

end Sys2Proof.Machine
end

section
/-! PROOFS. The trunk port: receptions, contention, attempts and the quiet flag (chapter 1). -/

namespace Sys2Proof.Machine

/-! ### The end of a reception (R2, R3, R11) -/

/-- A receiver that is on, with its footing, takes a reception while the port does not drive the line. -/
theorem State.frameEnds_eq {s : State} (receiver : s.port.receiver = true) (footing : s.port.footing = true)
    (listening : s.port.isSending = false) (wait : Ms) (wholeBytes : Bool) (bytes : List Byte) :
    s.frameEnds wait wholeBytes bytes =
      ((s.advance wait.toNat).setPort s.port.endReception).takeReception s.port.overlap wholeBytes bytes := by
  simp [State.frameEnds, receiver, footing, listening]

/-- A good frame that overlaps no clean attempt of the port's own is delivered. -/
theorem State.frameEnds_of_good {s : State} (receiver : s.port.receiver = true) (footing : s.port.footing = true)
    (listening : s.port.isSending = false) (foreign : s.port.overlap = none ∨ s.port.overlap = some .collided) (wait : Ms)
    {bytes : List Byte} {f : Frame} (good : receivedFrame true bytes = some f) :
    s.frameEnds wait true bytes = ((s.advance wait.toNat).setPort s.port.endReception).deliverFrame f := by
  rw [State.frameEnds_eq receiver footing listening]
  obtain h | h := foreign <;> simp [State.takeReception, h, good]

/-- A reception after a clean attempt is the own echo, and is discarded. -/
theorem State.takeReception_of_clean (s : State) (wholeBytes : Bool) (bytes : List Byte) :
    s.takeReception (some .clean) wholeBytes bytes = s := rfl

theorem State.takeReception_of_collided (s : State) {wholeBytes : Bool} {bytes : List Byte}
    (bad : receivedFrame wholeBytes bytes = none) : s.takeReception (some .collided) wholeBytes bytes = s := by
  simp [State.takeReception, bad]

theorem State.takeReception_of_bad (s : State) {wholeBytes : Bool} {bytes : List Byte}
    (bad : receivedFrame wholeBytes bytes = none) : s.takeReception none wholeBytes bytes = s.countBadFrame := by
  simp [State.takeReception, bad]

theorem State.frameEnds_of_no_footing {s : State} (receiver : s.port.receiver = true) (footing : s.port.footing = false) (wait : Ms)
    (wholeBytes : Bool) (bytes : List Byte) : s.frameEnds wait wholeBytes bytes = s.advance wait.toNat := by
  simp [State.frameEnds, receiver, footing]

/-- Settles O17: a good directive frame is handed to the handler by the very call that its own command makes. -/
theorem receivedDirectiveActsAsItsCommand : Obligations.ReceivedDirectiveActsAsItsCommand := by
  intro s wait bytes rest f receiver footing listening foreign good directive s' whole
  have delivered : whole = .next (s'.deliverDirective f.source f.destination f.payload) := by
    show Host.Outcome.next (s.frameEnds wait true bytes) = _
    rw [State.frameEnds_of_good receiver footing listening foreign wait good, State.deliverFrame, directive]
  refine ⟨?_, ?_, ?_, ?_, ?_, ?_, ?_, ?_, ?_, fun unnamed => ?unknown⟩
  case unknown =>
    rw [delivered]
    show _ = Host.Outcome.next (if namesADirective f.payload then s' else s'.deliverDirective f.source f.destination f.payload)
    rw [unnamed]; rfl
  all_goals intro payload; rw [delivered, payload]
  case refine_7 => exact (exec_tableRead_now _ _ _ _).symm
  all_goals rfl

/-- Settles O25: without footing no reception is taken. -/
theorem firstIdleGivesFooting : Obligations.FirstIdleGivesFooting := by
  intro s receiver footing
  refine ⟨⟨_, rfl, ?_⟩, fun wait whole bytes => ?_⟩
  · simp [State.firstIdle, receiver, footing]
  · exact congrArg Host.Outcome.next (State.frameEnds_of_no_footing receiver footing wait whole bytes)

/-! ### Contention and backoff (R6, R7) -/

theorem Port.lostSlot_of_countdown {p : Port} {b : Nat} (h : p.tx = .countdown b) : p.lostSlot = .gap (some b) := by
  simp [Port.lostSlot, h]

theorem Port.lostSlot_of_other {p : Port} (h : ∀ b, p.tx ≠ .countdown b) : p.lostSlot = p.tx := by
  unfold Port.lostSlot
  split
  next b counting => exact absurd counting (h b)
  all_goals simp_all

/-- Settles O18: the slot under way is lost. -/
theorem activityFreezesTheCountdown : Obligations.ActivityFreezesTheCountdown :=
  fun s => ⟨s.lineActivity, rfl, rfl, fun _ => Port.lostSlot_of_countdown, Port.lostSlot_of_other⟩

/-- The head goes on the line. -/
theorem State.sendIf_true (s : State) (other : TxState) :
    (s.sendIf true other).port.tx = .sending s.headOnLine ∧ (s.sendIf true other).port.line = .busy := ⟨rfl, rfl⟩

theorem State.sendIf_false (s : State) (other : TxState) : s.sendIf false other = s.setPort { s.port with tx := other } := rfl

/-- What a backoff count that has been drawn or resumed brings: the head is sent at 0, and is counted down to from any other. -/
theorem State.sendIf_count (s : State) (b : Nat) :
    (b = 0 → (s.sendIf (b == 0) (.countdown b)).port.tx = .sending s.headOnLine ∧
      (s.sendIf (b == 0) (.countdown b)).port.line = .busy) ∧
    (b ≠ 0 → s.sendIf (b == 0) (.countdown b) = s.setPort { s.port with tx := .countdown b }) := by
  refine ⟨?_, fun counts => ?_⟩
  · rintro rfl; exact s.sendIf_true _
  · rw [beq_eq_false_iff_ne.mpr counts]; exact s.sendIf_false _

/-- Settles O19: the gap is seen, and the contention draws its count or takes the frozen one. -/
theorem gapDrawsOrResumesTheBackoff : Obligations.GapDrawsOrResumesTheBackoff := by
  intro s frozen gap
  have seen : s.gapComplete =
      (s.setPort { s.port with line := .gapSeen, footing := s.port.receiver, overlap := none }).gapDone := by
    simp [State.gapComplete, gap]
  generalize hu : s.setPort { s.port with line := .gapSeen, footing := s.port.receiver, overlap := none } = u at seen
  cases frozen with
  | none =>
    have drawn : u.gapDone = u.drawBackoff := by rw [← hu]; simp [State.gapDone, gap]
    obtain ⟨sends, counts⟩ := u.sendIf_count (u.nextDraw u.port.backoffTop)
    refine ⟨u.drawBackoff, u.nextDraw u.port.backoffTop, congrArg Host.Outcome.next (seen.trans drawn), ?_, ?_, ?_, nofun, ?_, ?_⟩
    · intro zero; subst hu; exact sends zero
    · intro nonzero
      have counted := congrArg State.port (counts nonzero)
      subst hu
      exact ⟨congrArg Port.tx counted, congrArg Port.line counted⟩
    · intro _; subst hu; exact ⟨State.nextDraw_le _ _, rfl⟩
    · subst hu; rfl
    · subst hu; rfl
  | some b =>
    have resumed : u.gapDone = u.sendIf (b == 0) (.countdown b) := by rw [← hu]; simp [State.gapDone, gap]
    obtain ⟨sends, counts⟩ := u.sendIf_count b
    refine ⟨_, b, congrArg Host.Outcome.next (seen.trans resumed), ?_, ?_, nofun, ?_, ?_, ?_⟩
    · intro zero; subst hu; exact sends zero
    · intro nonzero
      have counted := congrArg State.port (counts nonzero)
      subst hu
      exact ⟨congrArg Port.tx counted, congrArg Port.line counted⟩
    · rintro k ⟨⟩; subst hu; exact ⟨rfl, rfl⟩
    · subst hu; rfl
    · subst hu; rfl

/-- Settles O20: at a count of 1 the head of the moment is sent. -/
theorem backoffSlotCountsDownAndSends : Obligations.BackoffSlotCountsDownAndSends := by
  intro s b counting
  have ends : s.slotComplete = s.sendIf (b ≤ 1) (.countdown (b - 1)) := by simp [State.slotComplete, counting]
  refine ⟨_, congrArg Host.Outcome.next ends, rfl, fun two => ?_, fun one => ⟨?_, fun a rest answers => ?_, fun empty => ?_⟩⟩
  · have later : decide (b ≤ 1) = false := decide_eq_false (by omega)
    rw [later]; rfl
  all_goals subst one
  · rfl
  · have head : s.headOnLine = ⟨.answer, a.bytes, .kept⟩ := by simp [State.headOnLine, answers]
    refine ⟨congrArg TxState.sending head, ?_⟩
    simp [State.sendIf, answers]
  · have head : s.headOnLine = ⟨.beacon, s.beaconFrame, .kept⟩ := by simp [State.headOnLine, empty]
    refine ⟨congrArg TxState.sending head, ?_⟩
    simp [State.sendIf, empty, State.nowCarried]

/-! ### The end of an attempt (R9, R16) -/

theorem State.afterCollision_eq {s : State} (none_ : s.port.beaconWaiting = false) : s.afterCollision = s.setPort { s.port with
    tx := if s.port.queueEmpty then .idle else .gap none, line := .busy, overlap := some .collided } := by
  simp [State.afterCollision, Port.admitWaiting, none_]

theorem Port.queueEmpty_iff (p : Port) : p.queueEmpty = true ↔ p.answers = [] ∧ p.beacon = none := by
  simp [Port.queueEmpty]

/-- Settles O21: the answer's number rises, and from 8 it leaves the queue. -/
theorem collidedAnswerRetriesEightTimes : Obligations.CollidedAnswerRetriesEightTimes := by
  intro s bytes doom a rest sending answers none_
  have ends : s.collision = (s.setPort { s.port with answers := retryAnswers s.port.answers }).afterCollision := by
    simp [State.collision, sending]
  have after := State.afterCollision_eq (s := s.setPort { s.port with answers := retryAnswers s.port.answers }) none_
  refine ⟨_, congrArg Host.Outcome.next (ends.trans after), rfl, ?_⟩
  have queue : retryAnswers s.port.answers =
      if a.attempt = 8 then rest else { a with attempt := a.attempt + 1 } :: rest := by
    simp [answers, retryAnswers]
  simp only [State.setPort_port, queue, Port.queueEmpty_iff]
  by_cases last : a.attempt = 8 <;> simp [last]

/-! ### Requests and the quiet flag (R17, R19, R143, R169) -/

/-- A contention that finds something queued leaves IDLE. -/
theorem State.contend_not_idle {s : State} (queued : s.port.queueEmpty = false) : s.contend.port.tx ≠ .idle := by
  unfold State.contend
  split
  next idle =>
    rw [queued]
    simp only [Bool.false_eq_true, if_false]
    split
    · show (if _ then TxState.sending _ else .countdown _) ≠ TxState.idle
      split <;> simp
    all_goals simp
  all_goals simp_all

/-- Settles O24: the moment comes, and the beacon enters the slot unless a beacon attempt is on the line. -/
theorem jitterEndPutsTheBeaconInItsSlot : Obligations.JitterEndPutsTheBeaconInItsSlot := by
  intro s r requested short
  have gone := s.le_elapsed_advanceTo r.since (ms := r.jitter) (by omega)
  cases onLine : s.port.beaconOnLine with
  | true =>
    have waits : s.jitterEnd = ((s.advanceTo r.since r.jitter).setComposer { s.composer with request := none }).setPort
        { s.port with beaconWaiting := true } := by
      simp only [State.jitterEnd, requested]
      exact if_pos onLine
    exact ⟨_, congrArg Host.Outcome.next waits, rfl, gone, nofun, fun _ => rfl, rfl, rfl, rfl, rfl, rfl, rfl, rfl⟩
  | false =>
    have enters : s.jitterEnd = (((s.advanceTo r.since r.jitter).setComposer { s.composer with request := none }).setPort
        { s.port with beacon := some 1 }).contend := by
      simp only [State.jitterEnd, requested]
      exact if_neg (by rw [Bool.not_eq_true]; exact onLine)
    generalize hu : ((s.advanceTo r.since r.jitter).setComposer { s.composer with request := none }).setPort
        { s.port with beacon := some 1 } = u at enters
    have queued : u.port.queueEmpty = false := by subst hu; simp [Port.queueEmpty]
    have beside := u.contend_beside
    have port := beside.port
    refine ⟨_, congrArg Host.Outcome.next enters, ?_, ?_, fun _ => ⟨?_, State.contend_not_idle queued⟩, nofun, ?_, ?_, ?_, ?_, ?_, ?_, ?_⟩
    · rw [beside.composer]; subst hu; rfl
    · rw [beside.rest]; subst hu; exact gone
    · rw [port]; subst hu; rfl
    · rw [port]; subst hu; rfl
    · rw [port]; subst hu; rfl
    all_goals rw [beside.rest]; subst hu; rfl

theorem Port.beaconOnLine_of_beacon {p : Port} {bytes : List Byte} {doom : Doom} (h : p.tx = .sending ⟨.beacon, bytes, doom⟩) :
    p.beaconOnLine = true := by simp [Port.beaconOnLine, h]

theorem Port.beaconOnLine_iff (p : Port) : p.beaconOnLine = true ↔ ∃ bytes doom, p.tx = .sending ⟨.beacon, bytes, doom⟩ := by
  unfold Port.beaconOnLine
  split
  next a sending => obtain ⟨frame, bytes, doom⟩ := a; cases frame <;> simp [sending]
  all_goals simp_all

theorem Port.endContention_of_gap {p : Port} {frozen : Option Nat} (h : p.tx = .gap frozen) :
    p.endContention.tx = if p.queueEmpty then .idle else .gap frozen := by
  simp only [Port.endContention, h]; split <;> simp [h]

theorem Port.endContention_of_countdown {p : Port} {b : Nat} (h : p.tx = .countdown b) :
    p.endContention.tx = if p.queueEmpty then .idle else .countdown b := by
  simp only [Port.endContention, h]; split <;> simp [h]

theorem Port.endContention_of_sending {p : Port} {a : Attempt} (h : p.tx = .sending a) : p.endContention = p := by
  simp [Port.endContention, h]

/-- QUIET with a beacon on the line: that beacon is withdrawn and goes on. -/
theorem State.applyQuiet_on_line {s : State} (quiet : s.port.quiet = false) {bytes : List Byte} {doom : Doom}
    (sending : s.port.tx = .sending ⟨.beacon, bytes, doom⟩) : s.applyQuiet = (s.setPort { s.port with
      quiet := true, beaconWaiting := false, tx := .sending ⟨.beacon, bytes, .withdrawn⟩ }).setComposer
        { s.composer with request := none } := by
  simp [State.applyQuiet, quiet, Port.beaconOnLine, Port.markOnLine, sending, withdraw]

/-- QUIET with none on the line: the beacon held is removed, and the contention may end. -/
theorem State.applyQuiet_off_line {s : State} (quiet : s.port.quiet = false) (off : s.port.beaconOnLine = false) :
    s.applyQuiet = (s.setPort ({ s.port with quiet := true, beaconWaiting := false, beacon := none } : Port).endContention).setComposer
        { s.composer with request := none } := by
  have off' : ({ s.port with quiet := true, beaconWaiting := false } : Port).beaconOnLine = false := off
  simp [State.applyQuiet, quiet, off']

/-- What QUIET makes of the port with its flag clear (R19). -/
theorem State.applyQuiet_spec {s : State} (quiet : s.port.quiet = false) :
    s.applyQuiet = (s.setPort s.applyQuiet.port).setComposer { s.composer with request := none } ∧
      s.applyQuiet.port.quiet = true ∧ s.applyQuiet.port.beaconWaiting = false ∧
      s.applyQuiet.port.answers = s.port.answers ∧ s.applyQuiet.port.failures = s.port.failures ∧
      (∀ bytes doom, s.port.tx = .sending ⟨.beacon, bytes, doom⟩ →
        s.applyQuiet.port.tx = .sending ⟨.beacon, bytes, .withdrawn⟩ ∧ s.applyQuiet.port.beacon = s.port.beacon) ∧
      (∀ bytes doom, s.port.tx = .sending ⟨.answer, bytes, doom⟩ →
        s.applyQuiet.port.beacon = none ∧ s.applyQuiet.port.tx = s.port.tx) ∧
      (∀ frozen, s.port.tx = .gap frozen → s.applyQuiet.port.beacon = none ∧
        s.applyQuiet.port.tx = if s.port.answers = [] then .idle else .gap frozen) ∧
      (∀ b, s.port.tx = .countdown b → s.applyQuiet.port.beacon = none ∧
        s.applyQuiet.port.tx = if s.port.answers = [] then .idle else .countdown b) := by
  cases onLine : s.port.beaconOnLine with
  | true =>
    obtain ⟨bytes, doom, sending⟩ := s.port.beaconOnLine_iff.mp onLine
    rw [State.applyQuiet_on_line quiet sending]
    refine ⟨rfl, rfl, rfl, rfl, rfl, fun bytes' doom' same => ?_, fun bytes' doom' same => ?_, fun _ same => ?_, fun _ same => ?_⟩
    · cases sending.symm.trans same; exact ⟨rfl, rfl⟩
    all_goals cases sending.symm.trans same
  | false =>
    rw [State.applyQuiet_off_line quiet onLine]
    set p : Port := { s.port with quiet := true, beaconWaiting := false, beacon := none } with hp
    have eq := p.endContention_eq
    have queue : p.queueEmpty = true ↔ s.port.answers = [] := by rw [Port.queueEmpty_iff, hp]; simp
    refine ⟨rfl, ?_, ?_, ?_, ?_, fun bytes doom same => ?_, fun bytes doom same => ⟨?_, ?_⟩, fun frozen same => ⟨?_, ?_⟩,
      fun b same => ⟨?_, ?_⟩⟩
    all_goals simp only [State.setComposer_port, State.setPort_port]
    case refine_5 => cases onLine.symm.trans (Port.beaconOnLine_of_beacon same)
    case refine_7 => rw [Port.endContention_of_sending (p := p) same]
    case refine_9 => rw [Port.endContention_of_gap (p := p) same, if_congr queue rfl rfl]
    case refine_11 => rw [Port.endContention_of_countdown (p := p) same, if_congr queue rfl rfl]
    all_goals rw [eq]

/-- Settles O47: QUIET withdraws what is held of the beacon, and SPEAK clears the flag alone. -/
theorem quietWithdrawsAndSpeakAllowsBeacons : Obligations.QuietWithdrawsAndSpeakAllowsBeacons := by
  intro s source destination rest delivered
  refine ⟨fun accepted set_ => ⟨_, rfl, ?_⟩, fun accepted clear => ?_, fun accepted => ⟨_, rfl, ?_⟩⟩
  · exact (State.deliverDirective_of_accepted delivered accepted).trans (if_pos set_)
  · exact ⟨s.applyQuiet, congrArg Host.Outcome.next (State.deliverDirective_of_accepted delivered accepted),
      State.applyQuiet_spec clear⟩
  · exact State.deliverDirective_of_accepted delivered accepted

end Sys2Proof.Machine
end

section
/-! PROOFS. The directive handler: its checks, refusals, and the bodies that it answers with, byte by byte (chapter 9, R200). -/

namespace Sys2Proof.Machine

/-! ### The four checks (R159 to R163) -/

theorem State.sourcePasses_iff (s : State) (source : Byte) :
    s.sourcePasses source = true ↔ s.ctl.node = .configFault ∨ source.toNat ∈ s.cfg.supervisors := by
  unfold State.sourcePasses
  split <;> simp_all

theorem State.availabilityPasses_iff (s : State) (kind : DirectiveKind) (destination : Byte) :
    s.availabilityPasses kind destination = true ↔
      availableIn s.ctl.node s.ownId.isSome kind = true ∧ (kind.isQuery = true → destination ≠ 63#8) := by
  rw [State.availabilityPasses, Bool.and_eq_true]
  cases kind.isQuery <;> simp

theorem availableIn_iff (node : NodeState) (hasId : Bool) (kind : DirectiveKind) : availableIn node hasId kind = true ↔
    node = .run ∨ (node = .configFault ∧ hasId = true ∧ kind ≠ .carrierMask ∧ kind ≠ .spreadMode) ∨
      (node ≠ .load ∧ kind = .restart) := by
  cases node <;> cases hasId <;> simp [availableIn]
  grind

namespace State

variable {s : State} {source destination : Byte} {payload : List Byte}

theorem judge_of_foreign (foreign : s.sourcePasses source = false) : s.judge source destination payload = .refused .notSupervisor := by
  simp [State.judge, foreign]

theorem judge_of_unknown (passes : s.sourcePasses source = true) (unknown : DirectiveKind.ofNumber (kindByte payload).toNat = none) :
    s.judge source destination payload = .refused .badArgument := by
  simp [State.judge, passes, unknown]

variable {kind : DirectiveKind} (passes : s.sourcePasses source = true)
  (named : DirectiveKind.ofNumber (kindByte payload).toNat = some kind)
include passes named

theorem judge_of_unavailable (unavailable : s.availabilityPasses kind destination = false) :
    s.judge source destination payload = .refused .notAvailable := by
  simp [State.judge, passes, named, unavailable]

theorem judge_of_bad_arguments (available : s.availabilityPasses kind destination = true) (bad : judgeArguments kind payload = none) :
    s.judge source destination payload = .refused .badArgument := by
  simp [State.judge, passes, named, available, bad]

theorem judge_of_arguments (available : s.availabilityPasses kind destination = true) {d : Directive}
    (arguments : judgeArguments kind payload = some d) :
    s.judge source destination payload = if s.roomFor kind then .accepted d else .refused .busy := by
  simp [State.judge, passes, named, available, arguments]

end State

theorem judgeArguments_of_length {kind : DirectiveKind} {payload : List Byte} (h : payload.length ≠ kind.length) :
    judgeArguments kind payload = none := if_pos h

theorem DirectiveKind.ofNumber_of_ge {n : Nat} (h : 10 ≤ n) : DirectiveKind.ofNumber n = none :=
  match n, h with
  | _ + 10, _ => rfl

/-- A choice by the number of a byte is one by the byte. -/
theorem byte_toNat_eq_iff (x : Byte) {n : Nat} (small : n < 256) : x.toNat = n ↔ x = BitVec.ofNat 8 n := by
  rw [← BitVec.toNat_inj, BitVec.toNat_ofNat, Nat.mod_eq_of_lt small]

theorem judgeArguments_faultAck (kind tag x y z : Byte) : judgeArguments .faultAck [kind, tag, x, y, z] =
    (if x = 1#8 then some (.faultAck .all) else if x = 2#8 then some (.faultAck (.one y.toNat z.toNat)) else none) := by
  simp only [← byte_toNat_eq_iff x (show 1 < 256 by decide), ← byte_toNat_eq_iff x (show 2 < 256 by decide)]
  show (match x.toNat with
    | 1 => some (Directive.faultAck .all)
    | 2 => some (Directive.faultAck (.one y.toNat z.toNat))
    | _ => none) = _
  split <;> simp_all

theorem judgeArguments_tableRead (kind tag x y z : Byte) : judgeArguments .tableRead [kind, tag, x, y, z] =
    (if x = 1#8 then some (.tableRead .neighbour (if y = 255#8 then none else some y.toNat) z.toNat)
     else if x = 2#8 then some (.tableRead .fault (if y = 255#8 then none else some y.toNat) z.toNat) else none) := by
  simp only [← byte_toNat_eq_iff x (show 1 < 256 by decide), ← byte_toNat_eq_iff x (show 2 < 256 by decide)]
  show (match x.toNat with
    | 1 => some (Directive.tableRead .neighbour (if y = 255#8 then none else some y.toNat) z.toNat)
    | 2 => some (Directive.tableRead .fault (if y = 255#8 then none else some y.toNat) z.toNat)
    | _ => none) = _
  split <;> simp_all

theorem judgeArguments_carrierMask (kind tag x y : Byte) : judgeArguments .carrierMask [kind, tag, x, y] =
    (if x = 1#8 then some (.carrierMask .mute y) else if x = 2#8 then some (.carrierMask .unmute y)
     else if x = 3#8 then some (.carrierMask .flip y) else none) := by
  simp only [← byte_toNat_eq_iff x (show 1 < 256 by decide), ← byte_toNat_eq_iff x (show 2 < 256 by decide),
    ← byte_toNat_eq_iff x (show 3 < 256 by decide)]
  show (match x.toNat with
    | 1 => some (Directive.carrierMask .mute y)
    | 2 => some (Directive.carrierMask .unmute y)
    | 3 => some (Directive.carrierMask .flip y)
    | _ => none) = _
  split <;> simp_all

theorem judgeArguments_spreadMode (kind tag x : Byte) : judgeArguments .spreadMode [kind, tag, x] =
    (if x = 0#8 then some (.spreadMode .off) else if x = 1#8 then some (.spreadMode .gentle)
     else if x = 2#8 then some (.spreadMode .normal) else if x = 3#8 then some (.spreadMode .surge) else none) := by
  simp only [← byte_toNat_eq_iff x (show 0 < 256 by decide), ← byte_toNat_eq_iff x (show 1 < 256 by decide),
    ← byte_toNat_eq_iff x (show 2 < 256 by decide), ← byte_toNat_eq_iff x (show 3 < 256 by decide)]
  show (SpreadMode.ofNumber x.toNat).map Directive.spreadMode = _
  unfold SpreadMode.ofNumber
  split <;> simp_all

/-- Settles O41: the checks one after another, and the payload of each kind. -/
theorem directiveChecksInOrder : Obligations.DirectiveChecksInOrder := by
  refine ⟨fun s source destination payload => ⟨fun node foreign => ?_, fun passes => ?_⟩, ⟨rfl, fun n h => DirectiveKind.ofNumber_of_ge h⟩,
    fun kind tag x y z => ⟨rfl, rfl, rfl, rfl, rfl, ?_, ?_, ?_, ?_⟩⟩
  · refine State.judge_of_foreign (Bool.eq_false_iff.mpr fun passes => ?_)
    exact (s.sourcePasses_iff source).mp passes |>.elim node foreign
  · have passes := (s.sourcePasses_iff source).mpr passes
    refine ⟨State.judge_of_unknown passes, fun kind named => ?_⟩
    have unavailable (h : ¬ availableIn s.ctl.node s.ownId.isSome kind = true) :
        s.judge source destination payload = .refused .notAvailable :=
      State.judge_of_unavailable passes named
        (Bool.eq_false_iff.mpr fun available => h ((s.availabilityPasses_iff kind destination).mp available).1)
    refine ⟨fun listen other => unavailable ?_, fun node carriers => unavailable ?_, fun node none_ other => unavailable ?_,
      fun all query => ?_, fun available notAll => ?_⟩
    · rw [availableIn_iff]; simp [listen, other]
    · rw [availableIn_iff]; obtain rfl | rfl := carriers <;> simp [node]
    · rw [availableIn_iff]; simp [node, none_, other]
    · refine State.judge_of_unavailable passes named (Bool.eq_false_iff.mpr fun available => ?_)
      exact ((s.availabilityPasses_iff kind destination).mp available).2 query all
    · have available : s.availabilityPasses kind destination = true := by
        refine (s.availabilityPasses_iff kind destination).mpr ⟨(availableIn_iff _ _ _).mpr ?_, notAll⟩
        simpa [Option.isSome_iff_ne_none] using available
      refine ⟨fun length => ?_, State.judge_of_bad_arguments passes named available, fun d arguments => ?_⟩
      · exact State.judge_of_bad_arguments passes named available (judgeArguments_of_length length)
      · rw [State.judge_of_arguments passes named available arguments]
        exact ⟨fun query full => if_neg (by simp [State.roomFor, query]; omega), fun room => if_pos (by simpa [State.roomFor] using room)⟩
  · exact judgeArguments_faultAck kind tag x y z
  · exact judgeArguments_tableRead kind tag x y z
  · exact judgeArguments_carrierMask kind tag x y
  · exact judgeArguments_spreadMode kind tag x

/-! ### Refusals (R164) -/

theorem State.stamp_eq (s : State) : s.stamp = if s.ctl.node = .run then s.ctl.epoch else 0#32 := by
  unfold State.stamp State.inRun
  cases s.ctl.node <;> rfl

/-- A payload that names no directive has a kind byte of none. -/
theorem ofNumber_of_unnamed {payload : List Byte} (h : namesADirective payload = false) :
    DirectiveKind.ofNumber (kindByte payload).toNat = none := by
  cases payload with
  | nil => rfl
  | cons kind rest =>
    have range : ¬(1 ≤ kind.toNat ∧ kind.toNat ≤ 9) := by simpa [namesADirective] using h
    show DirectiveKind.ofNumber kind.toNat = none
    obtain zero | high : kind.toNat = 0 ∨ 10 ≤ kind.toNat := by omega
    · rw [zero]; rfl
    · exact DirectiveKind.ofNumber_of_ge high

theorem State.refuse_eq (s : State) (reason : RefusalReason) (source : Byte) (payload : List Byte) :
    s.refuse reason source payload = s.setHandler ⟨some ⟨reason, payload.getD 0 0#8, source,
      if s.ctl.node = .run then s.ctl.epoch else 0#32⟩⟩ := by
  rw [State.refuse, s.stamp_eq]; rfl

/-- Settles O42: a refusal is the record alone. -/
theorem refusedDirectiveIsOnlyRecorded : Obligations.RefusedDirectiveIsOnlyRecorded := by
  intro s source destination rest payload reason delivered recorded
  have refused {payload : List Byte} {reason : RefusalReason} (h : s.judge source destination payload = .refused reason) :
      s.deliverDirective source destination payload = s.setHandler ⟨some ⟨reason, payload.getD 0 0#8, source,
        if s.ctl.node = .run then s.ctl.epoch else 0#32⟩⟩ :=
    (State.deliverDirective_of_refused delivered h).trans (s.refuse_eq _ _ _)
  have unnamed_ (h : namesADirective payload = false) : exec (.unknownDirective source destination payload) s =
      .next (s.deliverDirective source destination payload) := by
    show Host.Outcome.next (if namesADirective payload then s else s.deliverDirective source destination payload) = _
    rw [h]; rfl
  refine ⟨fun h => ?_, fun h => ?_, fun h => ?_, fun h => ?_, fun h => ?_, fun h => ?_, fun h => ?_, fun h => ?_, fun h => ?_,
    fun unnamed h => ?_, fun unnamed passes => ?_⟩
  case refine_7 => rw [exec_tableRead_now]; exact congrArg Host.Outcome.next (refused h)
  case refine_10 => rw [unnamed_ unnamed]; exact congrArg Host.Outcome.next (refused h)
  case refine_11 =>
    have h := State.judge_of_unknown (destination := destination) passes (ofNumber_of_unnamed unnamed)
    exact ⟨_, (unnamed_ unnamed).trans (congrArg Host.Outcome.next (refused h)), rfl, rfl⟩
  all_goals exact congrArg Host.Outcome.next (refused h)

/-- Settles O46: the record held takes the mode as its pending one. -/
theorem spreadModeSetsThePendingMode : Obligations.SpreadModeSetsThePendingMode := by
  intro s source destination rest mode r delivered accepted held
  refine ⟨_, congrArg Host.Outcome.next (State.deliverDirective_of_accepted delivered accepted), ?_⟩
  simp [State.applyDirective, State.setPendingMode, held]

/-- Settles O30: the entries that alarm are the ACTIVE-UNACKED ones of MAJOR or above. -/
theorem reCreditRenewsStandingFaults : Obligations.ReCreditRenewsStandingFaults := by
  intro s due
  have eq : s.settleReCredit = s.setSupervisor { s.supervisor with table := renewCredits s.supervisor.table, reCreditDue := false } :=
    if_pos due
  refine ⟨_, congrArg Host.Outcome.next eq, rfl, fun p => ?_⟩
  rw [State.setSupervisor_supervisor, renewCredits, tab_getElem]
  congr 1
  funext e
  exact if_congr e.alarms_iff rfl rfl

/-! ### Bytes at their places -/

theorem byteAt_append_left {a : List Byte} {i : Nat} (h : i < a.length) (b : List Byte) : byteAt (a ++ b) i = byteAt a i := by
  simp [byteAt, List.getElem?_append_left h]

theorem byteAt_append_right {a : List Byte} {n : Nat} (length : a.length = n) (b : List Byte) (i : Nat) :
    byteAt (a ++ b) (n + i) = byteAt b i := by
  simp [byteAt, ← length, List.getElem?_append_right]

/-- Of pieces of one length the `k`-th stands at `k` times that length. -/
theorem byteAt_flatMap {α : Type} {f : α → List Byte} {n : Nat} (length : ∀ x, (f x).length = n) {l : List α} {k : Nat} {x : α}
    (h : l[k]? = some x) {j : Nat} (within : j < n) : byteAt (l.flatMap f) (n * k + j) = byteAt (f x) j := by
  induction l generalizing k with
  | nil => simp at h
  | cons y rest ih =>
    rw [List.flatMap_cons]
    cases k with
    | zero =>
      obtain rfl : y = x := by simpa using h
      rw [Nat.mul_zero, Nat.zero_add, byteAt_append_left (by rw [length]; exact within)]
    | succ k =>
      have place : n * (k + 1) + j = n + (n * k + j) := by ring
      rw [place, byteAt_append_right (length y), ih (by simpa using h)]

theorem flatMap_length {α : Type} {f : α → List Byte} {n : Nat} (length : ∀ x, (f x).length = n) (l : List α) :
    (l.flatMap f).length = n * l.length := by
  induction l with
  | nil => rfl
  | cons y rest ih => rw [List.flatMap_cons, List.length_append, length, ih, List.length_cons]; ring

theorem flagByte_bit {flags : List Bool} (h : flags.length ≤ 8) (i : Nat) : (flagByte flags).getLsbD i = flags.getD i false := by
  have bit (l : List Bool) (i : Nat) :
      (l.foldr (fun (flag : Bool) (rest : Nat) => (if flag then 1 else 0) + 2 * rest) 0).testBit i = l.getD i false := by
    induction l generalizing i with
    | nil => simp
    | cons flag rest ih =>
      rw [List.foldr_cons, Nat.add_comm]
      cases i with
      | zero => cases flag <;> simp [Nat.testBit_zero]
      | succ i =>
        rw [Nat.testBit_succ, List.getD_cons_succ, ← ih]
        congr 1
        split <;> omega
  rw [flagByte, byteOf, BitVec.getLsbD_ofNat, bit]
  by_cases within : i < 8
  · simp [within]
  · have beyond : flags.length ≤ i := by omega
    simp [within, beyond]

/-- The pieces of the eight slots, one after another. -/
theorem flatMap_slots (slots : Vector SlotState 8) (f : SlotState → List Byte) : slots.toList.flatMap f =
    f slots[0] ++ (f slots[1] ++ (f slots[2] ++ (f slots[3] ++ (f slots[4] ++ (f slots[5] ++ (f slots[6] ++ (f slots[7] ++ []))))))) := by
  rw [Vector.toList_eq_finRange]; rfl

/-! ### The bodies of STATUS and SNAPSHOT (R172, R173, R200) -/

/-- Settles O50: each field stands at its place. -/
theorem statusBodyLayout : Obligations.StatusBodyLayout := by
  intro s
  have flags (i : Nat) := flagByte_bit (flags := [s.port.quiet, s.supervisor.overflow, s.supervisor.snapshot.isSome, s.supervisor.alarm,
    s.ctl.pendingWrite.isSome, s.ctl.deferredRestart]) (by simp) i
  have byte34 : byteAt s.statusBody 34 = flagByte [s.port.quiet, s.supervisor.overflow, s.supervisor.snapshot.isSome, s.supervisor.alarm,
      s.ctl.pendingWrite.isSome, s.ctl.deferredRestart] := by
    rw [State.statusBody, flatMap_slots]; rfl
  rw [byte34]
  refine ⟨?length, ?_, ?_, ?_, ?budget, ?_, fun i => ?slot, fun none_ => ?noMode, fun r held => ?mode, flags 0, flags 1, flags 2, flags 3, flags 4,
    flags 5, ?_, fun idle => ?noOperation, fun op flight => ?operation, fun none_ i low high => ?noRefusal, fun r held => ?refusal⟩
  all_goals rw [State.statusBody, flatMap_slots]
  case length => cases s.handler.lastRefusal <;> rfl
  case budget =>
    show byteOrAbsent s.budget = _
    unfold State.budget State.inRun
    cases s.ctl.node <;> rfl
  case slot => fin_cases i <;> exact ⟨rfl, rfl, rfl⟩
  case noMode => rw [none_]; exact ⟨rfl, rfl⟩
  case mode => rw [held]; exact ⟨rfl, rfl⟩
  case noOperation =>
    show byteOf s.operationNumber = _
    rw [State.operationNumber, idle]; rfl
  case operation =>
    show byteOf s.operationNumber = _
    rw [State.operationNumber, flight]
  case noRefusal => rw [none_]; interval_cases i <;> rfl
  case refusal => rw [held]; exact ⟨rfl, rfl, rfl, rfl⟩
  all_goals rfl

/-- The bytes of a snapshot before those of its operators. -/
theorem snapshotBody_eq (p : Snapshot) : ∃ head : List Byte, head.length = 38 ∧
    snapshotBody (some p) = head ++ p.operators.flatMap snapshotOperator ∧
    byteAt head 0 = 1#8 ∧ byteAt head 1 = byteOf p.code.number ∧ byteAt head 2 = byteOf p.subject ∧
    [byteAt head 3, byteAt head 4, byteAt head 5, byteAt head 6] = bytes32 p.epoch ∧
    byteAt head 7 = byteOf p.node.number ∧ byteAt head 8 = byteOrAbsent p.beff ∧
    (∀ i : Fin 8, byteAt head (9 + 3 * i.val) = byteOf p.slots[i].number ∧
      byteAt head (10 + 3 * i.val) = byteOrAbsent p.slots[i].target ∧
      byteAt head (11 + 3 * i.val) = byteOrAbsent p.slots[i].applied) ∧
    byteAt head 33 = byteOf p.liveAdjacent ∧ byteAt head 34 = byteOf p.lostAdjacent ∧
    [byteAt head 35, byteAt head 36] = bytesTemp p.lastTemp ∧ byteAt head 37 = byteOf p.operators.length := by
  rw [snapshotBody, flatMap_slots]
  refine ⟨_, ?_, rfl, rfl, rfl, rfl, rfl, rfl, rfl, fun i => ?slot, rfl, rfl, ?_, ?_⟩
  case slot => fin_cases i <;> exact ⟨rfl, rfl, rfl⟩
  all_goals cases p.lastTemp <;> rfl

theorem snapshotOperator_length (x : Nat × Nat × Int) : (snapshotOperator x).length = 4 := rfl

/-- What an answer leaves of the port: a contention may have begun, so that it is not IDLE. -/
theorem State.answer_spec (s : State) (source kind tag : Byte) (body : List Byte) :
    (s.answer source kind tag body).port.answers =
        s.port.answers ++ [⟨frameBytes 3#8 s.ownIdByte source (kind :: tag :: body), 1⟩] ∧
      s.answer source kind tag body = ((s.setPort (s.answer source kind tag body).port).setComposer
        (s.answer source kind tag body).composer).setDraws (s.answer source kind tag body).draws ∧
      (s.answer source kind tag body).port = { s.port with
        answers := (s.answer source kind tag body).port.answers
        tx := (s.answer source kind tag body).port.tx
        line := (s.answer source kind tag body).port.line } ∧
      (s.answer source kind tag body).port.tx ≠ .idle := by
  have beside := s.answer_beside source kind tag body
  refine ⟨beside.answers, beside.rest, ?_, State.contend_not_idle ?_⟩
  · have port := beside.port
    rw [beside.answers]
    exact port
  · simp [Port.queueEmpty]

/-- Settles O49: the answer's frame is last in the FIFO, and the body of a snapshot has its fields at their places. -/
theorem queriesQueueTheirAnswers : Obligations.QueriesQueueTheirAnswers := by
  intro s source destination tag rest delivered
  refine ⟨fun accepted => ?_, fun accepted => ?_⟩
  · obtain ⟨answers, same, port, busy⟩ := s.answer_spec source 1#8 tag s.statusBody
    exact ⟨_, congrArg Host.Outcome.next (State.deliverDirective_of_accepted delivered accepted), answers, same, port, busy⟩
  · obtain ⟨answers, same, port, busy⟩ := s.answer_spec source 2#8 tag (snapshotBody s.supervisor.snapshot)
    refine ⟨_, _, congrArg Host.Outcome.next (State.deliverDirective_of_accepted delivered accepted), answers, same, port, busy,
      fun none_ => by rw [none_]; rfl, fun p held => ?_⟩
    obtain ⟨head, length, body, b0, b1, b2, epoch, b7, b8, slots, b33, b34, temp, b37⟩ := snapshotBody_eq p
    rw [held, body]
    have low {i : Nat} (h : i < 38) : byteAt (head ++ p.operators.flatMap snapshotOperator) i = byteAt head i :=
      byteAt_append_left (by omega) _
    have operator {k j : Nat} {x : Nat × Nat × Int} (at_ : p.operators[k]? = some x) (within : j < 4) :
        byteAt (head ++ p.operators.flatMap snapshotOperator) (38 + (4 * k + j)) = byteAt (snapshotOperator x) j := by
      rw [byteAt_append_right length, byteAt_flatMap snapshotOperator_length at_ within]
    refine ⟨?_, (low (by decide)).trans b0, (low (by decide)).trans b1, (low (by decide)).trans b2, ?_, (low (by decide)).trans b7,
      (low (by decide)).trans b8, fun i => ?_, (low (by decide)).trans b33, (low (by decide)).trans b34, ?_, (low (by decide)).trans b37,
      fun k op load offset at_ => ?_⟩
    · rw [List.length_append, length, flatMap_length snapshotOperator_length]
    · rw [low (by decide), low (by decide), low (by decide), low (by decide)]; exact epoch
    · rw [low (by omega), low (by omega), low (by omega)]; exact slots i
    · rw [low (by decide), low (by decide)]; exact temp
    · refine ⟨operator (j := 0) at_ (by decide), ?_, ?_, ?_⟩
      · rw [show 39 + 4 * k = 38 + (4 * k + 1) by ring]; exact operator at_ (by decide)
      · rw [show 40 + 4 * k = 38 + (4 * k + 2) by ring]; exact operator at_ (by decide)
      · rw [show 41 + 4 * k = 38 + (4 * k + 3) by ring]; exact operator at_ (by decide)

end Sys2Proof.Machine
end

section
/-! PROOFS. The crash region's steps and the front-end writer's order (chapters 6 and 10). -/

namespace Sys2Proof.Machine

/-! ### The steps of a crash write and a crash erase (R183, R192, R194, R202) -/

theorem Memory.read_writeByte {m : Memory} (wf : m.wf) (address : Nat) (byte : Byte) (a : Nat) :
    (m.writeBytes address [byte]).read a = if a = address then byte else m.read a := Memory.read_write wf address a byte

/-- The end of the write cycle of the step in flight: its moment has come, and its bytes stand in the store. -/
theorem State.cycle_applied {s : State} {op : InFlight} {address : Nat} {bytes : List Byte} (flight : s.ctl.operation = some op)
    (written : op.operation.written s.ctl.region s.marker = some (address, bytes)) :
    (s.advanceTo op.since 5).applyCycle = (s.advanceTo op.since 5).setStore (s.store.writeBytes address bytes) :=
  State.applyCycle_of_written (s := s.advanceTo op.since 5) flight written

theorem State.cycle_elapsed (s : State) (since : Ms) : 5 ≤ (s.advanceTo since 5).elapsed since :=
  s.le_elapsed_advanceTo since (by norm_num)

theorem State.restartIfDue_of_not_deferred {s : State} (h : s.ctl.deferredRestart = false) : s.restartIfDue = s := by
  simp [State.restartIfDue, h]

theorem State.writeDone_of_not_deferred {s : State} (h : s.ctl.deferredRestart = false) :
    s.writeDone = s.setCtl { s.ctl with operation := none, region := .written } :=
  State.restartIfDue_of_not_deferred (s := s.setCtl { s.ctl with operation := none, region := .written }) h

theorem State.eraseDone_of_not_deferred {s : State} (h : s.ctl.deferredRestart = false) (none_ : s.ctl.pendingWrite = none) :
    s.eraseDone = s.setCtl { s.ctl with operation := none, region := .empty } := by
  simp only [State.eraseDone, none_]
  exact State.restartIfDue_of_not_deferred (s := s.setCtl { s.ctl with operation := none, region := .empty, pendingWrite := none }) h

theorem State.eraseDone_of_pending {s : State} {record : CrashRecord} (waits : s.ctl.pendingWrite = some record) :
    s.eraseDone = s.setCtl { s.ctl with
      operation := some ⟨.crashWrite 0 record, 0, s.ctl.clock⟩, region := .empty, pendingWrite := none } := by
  simp only [State.eraseDone, waits]; rfl

theorem applied_toList (applied : Vector (Option Nat) 8) : applied.toList =
    [applied[0], applied[1], applied[2], applied[3], applied[4], applied[5], applied[6], applied[7]] := by
  rw [Vector.toList_eq_finRange]; rfl

/-- The body of a crash record, field by field (R202). -/
theorem bodyBytes_layout (r : CrashRecord) : (bodyBytes r).length = 31 ∧ byteAt (bodyBytes r) 0 = byteOf r.code.number ∧
    byteAt (bodyBytes r) 1 = byteOf r.subject ∧ byteAt (bodyBytes r) 2 = byteOf r.cause.number ∧
    [byteAt (bodyBytes r) 3, byteAt (bodyBytes r) 4, byteAt (bodyBytes r) 5, byteAt (bodyBytes r) 6] = bytes32 r.stamp ∧
    (∀ i : Fin 8, byteAt (bodyBytes r) (7 + i.val) = byteOrAbsent r.applied[i]) ∧
    byteAt (bodyBytes r) 15 = byteOrAbsent r.beff ∧
    [byteAt (bodyBytes r) 16, byteAt (bodyBytes r) 17] = bytesTemp r.lastTemp ∧
    ∀ k, 18 ≤ k → k ≤ 30 → byteAt (bodyBytes r) k = 0xFF#8 := by
  rw [bodyBytes, applied_toList]
  refine ⟨?length, rfl, rfl, rfl, rfl, fun i => ?applied, rfl, ?temp, fun k low high => ?fill⟩
  case applied => fin_cases i <;> rfl
  all_goals cases r.lastTemp
  case fill.none => interval_cases k <;> rfl
  case fill.some => interval_cases k <;> rfl
  all_goals rfl

/-- Settles O10: each step's bytes, and what follows it. -/
theorem crashWriteStepsReachTheStore : Obligations.CrashWriteStepsReachTheStore := by
  intro s op record flight undeferred wf
  have elapsed := s.cycle_elapsed op.since
  refine ⟨fun step => ?_, fun step => ?_, fun step => ?_, bodyBytes_layout record⟩
  · have written : op.operation.written s.ctl.region s.marker = some (128, [0xFE#8]) := by rw [step]; rfl
    have ends : s.cycleEnd = ((s.advanceTo op.since 5).applyCycle).nextStep (.crashWrite 1 record) := by
      simp [State.cycleEnd, flight, step]
    rw [State.cycle_applied flight written] at ends
    exact ⟨_, congrArg Host.Outcome.next ends, rfl, rfl, elapsed, Memory.read_writeByte wf 128 _⟩
  · have written : op.operation.written s.ctl.region s.marker = some (129, bodyBytes record) := by rw [step]; rfl
    have ends : s.cycleEnd = ((s.advanceTo op.since 5).applyCycle).nextStep (.crashWrite 2 record) := by
      simp [State.cycleEnd, flight, step]
    rw [State.cycle_applied flight written] at ends
    refine ⟨_, congrArg Host.Outcome.next ends, rfl, rfl, elapsed, fun a => ?_⟩
    have read := Memory.read_writeBytes_byteAt wf 129 (bodyBytes record) a
    rw [(bodyBytes_layout record).1] at read
    exact read
  · have written : op.operation.written s.ctl.region s.marker = some (128, [0xFD#8]) := by rw [step]; rfl
    have ends : s.cycleEnd = ((s.advanceTo op.since 5).applyCycle).writeDone := by
      simp [State.cycleEnd, flight, step]
    rw [State.cycle_applied flight written] at ends
    have done := State.writeDone_of_not_deferred (s := (s.advanceTo op.since 5).setStore (s.store.writeBytes 128 [0xFD#8])) undeferred
    exact ⟨_, congrArg Host.Outcome.next (ends.trans done), rfl, rfl, elapsed, Memory.read_writeByte wf 128 _⟩

/-- Settles O11: the marker byte after each step, with the valid marker as it is known. -/
theorem crashEraseStepsReachTheStore : Obligations.CrashEraseStepsReachTheStore := by
  intro s op marker flight undeferred wf
  have elapsed := s.cycle_elapsed op.since
  refine ⟨fun step => ?_, fun step => ?_, fun step => ?_⟩
  · have written : op.operation.written s.ctl.region s.marker =
        some (128, [if validKnown s.ctl.region s.marker then 0xFC#8 else 0xFE#8]) := by rw [step]; rfl
    have ends : s.cycleEnd = ((s.advanceTo op.since 5).applyCycle).nextStep (.crashErase 1 marker) := by
      simp [State.cycleEnd, flight, step]
    rw [State.cycle_applied flight written] at ends
    have read := Memory.read_writeByte wf 128 (if validKnown s.ctl.region s.marker then 0xFC#8 else 0xFE#8)
    have here := (read 128).trans (if_pos rfl)
    refine ⟨_, congrArg Host.Outcome.next ends, rfl, rfl, elapsed, fun region => here.trans ?_, fun region => here.trans ?_,
      fun region => here.trans ?_, fun region => here.trans ?_, fun a other => (read a).trans (if_neg other)⟩
    all_goals rw [region]
    case refine_4 =>
      show (if !(s.store.read 128).getLsbD 1 then 0xFC#8 else 0xFE#8) = _
      cases (s.store.read 128).getLsbD 1 <;> rfl
    all_goals rfl
  · have written : op.operation.written s.ctl.region s.marker = some (128, [0xFE#8]) := by rw [step]; rfl
    have ends : s.cycleEnd = ((s.advanceTo op.since 5).applyCycle).nextStep (.crashErase 2 marker) := by
      simp [State.cycleEnd, flight, step]
    rw [State.cycle_applied flight written] at ends
    exact ⟨_, congrArg Host.Outcome.next ends, rfl, rfl, elapsed, Memory.read_writeByte wf 128 _⟩
  · have written : op.operation.written s.ctl.region s.marker = some (128, [0xFF#8]) := by rw [step]; rfl
    have ends : s.cycleEnd = ((s.advanceTo op.since 5).applyCycle).eraseDone := by
      simp [State.cycleEnd, flight, step]
    rw [State.cycle_applied flight written] at ends
    cases pending : s.ctl.pendingWrite with
    | none =>
      have done := State.eraseDone_of_not_deferred (s := (s.advanceTo op.since 5).setStore (s.store.writeBytes 128 [0xFF#8]))
        undeferred pending
      exact ⟨_, congrArg Host.Outcome.next (ends.trans done), rfl, elapsed, fun _ => rfl, nofun, Memory.read_writeByte wf 128 _⟩
    | some record =>
      have begun := State.eraseDone_of_pending (s := (s.advanceTo op.since 5).setStore (s.store.writeBytes 128 [0xFF#8])) pending
      refine ⟨_, congrArg Host.Outcome.next (ends.trans begun), rfl, elapsed, nofun, ?_, Memory.read_writeByte wf 128 _⟩
      rintro _ ⟨⟩; rfl

/-! ### The order of writes (R102 to R105, R109, R203) -/

theorem Writer.decreasePending_eq_false_iff (w : Writer) : w.decreasePending = false ↔ ∀ i : Fin 8, w.waitsDecrease i = false := by
  simp [Writer.decreasePending]

theorem Writer.not_decreasePending (w : Writer) : (!w.decreasePending) = decide (∀ i : Fin 8, w.waitsDecrease i = false) := by
  rw [Bool.eq_iff_iff, Bool.not_eq_true', w.decreasePending_eq_false_iff, decide_eq_true_iff]

/-- A slot that waits with a decrease holds a value in the dirty set. -/
theorem Writer.dirty_of_waitsDecrease {w : Writer} {i : Fin 8} (h : w.waitsDecrease i = true) : ∃ p, w.dirty[i] = some p := by
  unfold Writer.waitsDecrease at h
  split at h
  · cases h
  next p waits => exact ⟨p, waits⟩

theorem Writer.choice_of_decrease {w : Writer} {i : Fin 8} (waits : w.waitsDecrease i = true)
    (lowest : ∀ j : Fin 8, j < i → w.waitsDecrease j = false) : w.choice = some i := by
  have found : (List.finRange 8).find? w.waitsDecrease = some i :=
    (find?_finRange_eq_some w.waitsDecrease i).mpr ⟨waits, lowest⟩
  simp [Writer.choice, found]

theorem Writer.choice_of_increase {w : Writer} {i : Fin 8} (none_ : ∀ j : Fin 8, w.waitsDecrease j = false)
    (waits : w.dirty[i].isSome = true) (lowest : ∀ j : Fin 8, j < i → w.dirty[j] = none) : w.choice = some i := by
  have decreases : (List.finRange 8).find? w.waitsDecrease = none := (find?_finRange_eq_none w.waitsDecrease).mpr none_
  rw [Writer.choice, decreases]
  exact (find?_finRange_eq_some (fun slot => w.dirty[slot].isSome) i).mpr ⟨waits, fun j below => by rw [lowest j below]; rfl⟩

theorem Writer.choice_of_clean {w : Writer} (clean : ∀ i : Fin 8, w.dirty[i] = none) : w.choice = none := by
  have decreases : (List.finRange 8).find? w.waitsDecrease = none :=
    (find?_finRange_eq_none w.waitsDecrease).mpr fun i => by simp only [Writer.waitsDecrease, clean i]
  rw [Writer.choice, decreases]
  exact (find?_finRange_eq_none fun slot => w.dirty[slot].isSome).mpr fun i => by rw [clean i]; rfl

/-- With no write in flight, the write of the slot chosen is started with its pending value. -/
theorem Writer.startNext_of_choice {w : Writer} {i : Fin 8} {p : PendingDrive} (idle : w.inFlight = none) (chosen : w.choice = some i)
    (waits : w.dirty[i] = some p) : w.startNext = { w with
      inFlight := some ⟨i, p.value, w.waitsDecrease i⟩, held := w.held.set i (some p.value), dirty := w.dirty.set i none } := by
  simp only [Writer.startNext, idle, chosen, Writer.start]
  rw [waits]

theorem Writer.startNext_of_none {w : Writer} (none_ : w.choice = none) : w.startNext = w := by
  simp only [Writer.startNext, none_]
  split <;> rfl

/-- Settles O38: the transceiver takes the word, the line follows, and the next write is of the slot that the order names. -/
theorem writeCompleteServesDecreasesFirst : Obligations.WriteCompleteServesDecreasesFirst := by
  intro s f flight
  have ends : s.writer.complete = (Writer.assertPa { s.writer with
      inFlight := none, transceiver := s.writer.transceiver.set f.slot (some (driveWord f.slot f.value)) }).startNext := by
    simp [Writer.complete, flight]
  generalize hw : Writer.assertPa { s.writer with
      inFlight := none, transceiver := s.writer.transceiver.set f.slot (some (driveWord f.slot f.value)) } = w at ends
  have idle : w.inFlight = none := by rw [← hw]; rfl
  have dirty : w.dirty = s.writer.dirty := by rw [← hw]; rfl
  have waits (i : Fin 8) : w.waitsDecrease i = s.writer.waitsDecrease i := by rw [← hw]; rfl
  have starts {i : Fin 8} (chosen : w.choice = some i) (queued : s.writer.dirty[i].isSome = true) :
      ∃ g, w.startNext.inFlight = some g ∧ g.slot = i ∧ s.writer.dirty[i].map PendingDrive.value = some g.value := by
    obtain ⟨p, pending⟩ := Option.isSome_iff_exists.mp queued
    refine ⟨⟨i, p.value, w.waitsDecrease i⟩, ?_, rfl, by rw [pending]; rfl⟩
    rw [Writer.startNext_of_choice idle chosen (by rw [dirty]; exact pending)]
  refine ⟨s.writeEnds, rfl, rfl, ?_⟩
  rw [State.writeEnds, State.setWriter_writer, ends]
  refine ⟨?_, ?_, fun clean => ?_, fun i decrease lowest => ?_, fun i none_ increase lowest => ?_⟩
  · rw [Writer.startNext_paEnable, ← hw, ← s.writer.not_decreasePending]
    exact congrArg (s.writer.paEnable || ·) (Bool.and_true _)
  · rw [Writer.startNext_transceiver, ← hw]
    show s.writer.transceiver.set f.slot (some (driveWord f.slot f.value)) = _
    cases f.value <;> rfl
  · rw [Writer.startNext_of_none (Writer.choice_of_clean (by rwa [dirty]))]
    exact ⟨idle, dirty⟩
  · refine starts (Writer.choice_of_decrease (by rw [waits]; exact decrease) fun j below => by rw [waits]; exact lowest j below) ?_
    obtain ⟨p, pending⟩ := Writer.dirty_of_waitsDecrease decrease
    rw [pending]; rfl
  · exact starts (Writer.choice_of_increase (fun j => by rw [waits]; exact none_ j) (by rw [dirty]; exact increase)
      fun j below => by rw [dirty]; exact lowest j below) increase

end Sys2Proof.Machine
end

section
/-! PROOFS. The ramp tick and its hand-over to the writer, slot by slot (R94, R97, R101 to R109). -/

namespace Sys2Proof.Machine

/-! ### What a hand-over makes of one slot (R104 to R106) -/

@[simp] theorem Writer.accept_held (w : Writer) (slot : Fin 8) (value : Drive) : (w.accept slot value).held = w.held := by
  unfold Writer.accept; split <;> rfl

@[simp] theorem Writer.accept_inFlight (w : Writer) (slot : Fin 8) (value : Drive) : (w.accept slot value).inFlight = w.inFlight := by
  unfold Writer.accept; split <;> rfl

theorem Writer.accept_dirty (w : Writer) (slot i : Fin 8) (value : Drive) : (w.accept slot value).dirty[i] =
    if slot = i then (if w.held[slot] = some value then none else some ⟨value, false⟩) else w.dirty[i] := by
  unfold Writer.accept
  split
  · exact (Vector.getElem_set_fin _ _ _ _)
  · exact (Vector.getElem_set_fin _ _ _ _)

@[simp] theorem Writer.acceptAll_held (w : Writer) (image : Image) (changes : List (Fin 8 × Option Nat)) :
    (w.acceptAll image changes).held = w.held := by
  induction changes generalizing w with
  | nil => rfl
  | cons c rest ih => rw [Writer.acceptAll, ih, Writer.accept_held]

@[simp] theorem Writer.acceptAll_inFlight (w : Writer) (image : Image) (changes : List (Fin 8 × Option Nat)) :
    (w.acceptAll image changes).inFlight = w.inFlight := by
  induction changes generalizing w with
  | nil => rfl
  | cons c rest ih => rw [Writer.acceptAll, ih, Writer.accept_inFlight]

theorem Writer.acceptAll_dirty_other (w : Writer) (image : Image) {changes : List (Fin 8 × Option Nat)} {i : Fin 8}
    (other : i ∉ changes.map Prod.fst) : (w.acceptAll image changes).dirty[i] = w.dirty[i] := by
  induction changes generalizing w with
  | nil => rfl
  | cons c rest ih =>
    rw [List.map_cons, List.mem_cons, not_or] at other
    rw [Writer.acceptAll, ih _ other.2, Writer.accept_dirty, if_neg (Ne.symm other.1)]

/-- A slot handed once waits with its value, unless it is the value held (R104, R106). -/
theorem Writer.acceptAll_dirty (w : Writer) (image : Image) {changes : List (Fin 8 × Option Nat)} {i : Fin 8} {output : Option Nat}
    (once : (changes.map Prod.fst).Nodup) (handed : (i, output) ∈ changes) : (w.acceptAll image changes).dirty[i] =
      if w.held[i] = some (driveOf image i output) then none else some ⟨driveOf image i output, false⟩ := by
  induction changes generalizing w with
  | nil => cases handed
  | cons c rest ih =>
    rw [List.map_cons, List.nodup_cons] at once
    rw [Writer.acceptAll]
    obtain rfl | handed := List.mem_cons.mp handed
    · rw [Writer.acceptAll_dirty_other _ _ once.1, Writer.accept_dirty, if_pos rfl]
    · rw [ih _ once.2 handed, Writer.accept_held]

/-- The start of the next write leaves a slot alone or takes its pending value onto the line. -/
theorem Writer.startNext_at (w : Writer) (i : Fin 8) :
    (w.startNext.dirty[i] = w.dirty[i] ∧ w.startNext.held[i] = w.held[i]) ∨
      (w.inFlight = none ∧ ∃ p, w.dirty[i] = some p ∧ w.startNext.dirty[i] = none ∧ w.startNext.held[i] = some p.value ∧
        ∃ g, w.startNext.inFlight = some g ∧ g.slot = i ∧ g.value = p.value) := by
  unfold Writer.startNext
  split
  · exact .inl ⟨rfl, rfl⟩
  next idle =>
    split
    · exact .inl ⟨rfl, rfl⟩
    next slot _ =>
      unfold Writer.start
      split
      · exact .inl ⟨rfl, rfl⟩
      next p waits =>
        dsimp only
        rw [Vector.getElem_set_fin, Vector.getElem_set_fin]
        by_cases same : slot = i
        · subst same
          exact .inr ⟨idle, p, waits, if_pos rfl, if_pos rfl, _, rfl, rfl, rfl⟩
        · exact .inl ⟨if_neg same, if_neg same⟩

theorem Writer.startNext_of_flight {w : Writer} {f : WriteInFlight} (flight : w.inFlight = some f) : w.startNext = w := by
  simp [Writer.startNext, flight]

/-- No decrease waits or is in flight after the start of a write just where none did before: a decrease that is started is in
flight (R105, R109). -/
theorem Writer.startNext_allows (w : Writer) :
    (decide (∀ i : Fin 8, w.startNext.waitsDecrease i = false) && w.startNext.flightAllows) =
      (decide (∀ i : Fin 8, w.waitsDecrease i = false) && w.flightAllows) := by
  cases idle : w.inFlight with
  | some f => rw [Writer.startNext_of_flight idle]
  | none =>
    cases chosen : w.choice with
    | none => rw [Writer.startNext_of_none chosen]
    | some slot =>
      have allows : w.flightAllows = true := by simp [Writer.flightAllows, idle]
      cases waits : w.dirty[slot] with
      | none => 
        have same : w.startNext = w := by
          simp only [Writer.startNext, idle, chosen, Writer.start]; rw [waits]
        rw [same]
      | some p =>
        have next := Writer.startNext_of_choice idle chosen waits
        have after (i : Fin 8) : w.startNext.waitsDecrease i = if slot = i then false else w.waitsDecrease i := by
          rw [next]
          unfold Writer.waitsDecrease
          dsimp only
          rw [Vector.getElem_set_fin, Vector.getElem_set_fin]
          by_cases same : slot = i <;> simp only [same, if_true, if_false]
        have flight : w.startNext.flightAllows = !w.waitsDecrease slot := by rw [next]; rfl
        rw [allows, flight, Bool.and_true, Bool.eq_iff_iff, Bool.and_eq_true, decide_eq_true_iff, decide_eq_true_iff, Bool.not_eq_true']
        refine ⟨fun ⟨others, here⟩ i => ?_, fun none_ => ⟨fun i => ?_, none_ slot⟩⟩
        · by_cases same : slot = i
          · subst same; exact here
          · simpa [after, same] using others i
        · rw [after]; split
          exacts [rfl, none_ i]

/-! ### The ramp tick (R94) -/

/-- A slot rises at a ramp tick from the code below `code` to `code`. -/
def RisesTo (slots : Vector SlotState 8) (i : Fin 8) (code : Nat) : Prop :=
  ∃ target, code ≤ target ∧ slots[i] = .active target (code - 1) ∧ 1 ≤ code

theorem mem_changedOutputs_riseAll (slots : Vector SlotState 8) (i : Fin 8) (output : Option Nat) :
    (i, output) ∈ changedOutputs slots (riseAll slots) ↔ ∃ code, output = some code ∧ RisesTo slots i code := by
  rw [mem_changedOutputs, riseAll_getElem]
  cases slot : slots[i] with
  | active target applied =>
    simp only [SlotState.rise, SlotState.applied, RisesTo, slot, SlotState.active.injEq]
    constructor
    · rintro ⟨differ, rfl⟩
      have below : applied < target := by
        by_contra above
        simp [above] at differ
      exact ⟨applied + 1, by rw [if_pos below], target, below, ⟨rfl, by omega⟩, by omega⟩
    · rintro ⟨code, rfl, top, le, ⟨target_eq, applied_eq⟩, positive⟩
      have below : applied < target := by omega
      have rises : applied + 1 = code := by omega
      rw [if_pos below, rises]
      exact ⟨fun same => by cases same; omega, rfl⟩
  | _ =>
    refine ⟨fun ⟨differ, _⟩ => absurd rfl differ, ?_⟩
    rintro ⟨code, -, _, -, active, -⟩
    cases slot.symm.trans active

/-- The drive value of a code, as R101 has it. -/
theorem driveOf_some (image : Image) (i : Fin 8) (code : Nat) : driveOf image i (some code) =
    .code (min 143 (max 0 ((code : Int) + match image.slots[i] with
      | some c => image.bandOffsets.toList.getD c.band 0
      | none => image.bandOffsets[0]))).toNat := by
  unfold driveOf Image.bandOffset clampInt
  cases image.slots[i] with
  | some c => rfl
  | none =>
    have first : image.bandOffsets.toList.getD 0 0 = image.bandOffsets[0] := toList_getD_fin image.bandOffsets 0 0
    simp only [first]

theorem State.rampTick_eq {s : State} {moment : Ms} (running : s.alloc.ramp = some moment) :
    s.rampTick = (((s.advanceTo moment s.rampPeriod).setAlloc { s.alloc with
      slots := riseAll s.alloc.slots, ramp := some (moment + BitVec.ofNat 32 s.rampPeriod) }).setWriter
        (s.writer.handOver s.cfg (changedOutputs s.alloc.slots (riseAll s.alloc.slots)) (anyActive (riseAll s.alloc.slots)))) := by
  simp only [State.rampTick, running]; rfl

/-- A hand-over of some changes, opened. -/
theorem Writer.handOver_of_changes (w : Writer) (image : Image) {changes : List (Fin 8 × Option Nat)} (some_ : changes ≠ [])
    (someActive : Bool) :
    w.handOver image changes someActive = (((w.indicate someActive).acceptAll image changes).assertPa).startNext := by
  cases changes with
  | nil => exact absurd rfl some_
  | cons => rfl

/-- A hand-over touches no write in flight. -/
theorem Writer.handOver_of_flight {w : Writer} {f : WriteInFlight} (flight : w.inFlight = some f) (image : Image)
    (changes : List (Fin 8 × Option Nat)) (someActive : Bool) :
    (w.handOver image changes someActive).inFlight = some f ∧ (w.handOver image changes someActive).held = w.held := by
  by_cases none_ : changes = []
  · subst none_; exact ⟨flight, rfl⟩
  · rw [Writer.handOver_of_changes w image none_]
    have before : (((w.indicate someActive).acceptAll image changes).assertPa).inFlight = some f :=
      (Writer.acceptAll_inFlight _ image changes).trans flight
    rw [Writer.startNext_of_flight before]
    exact ⟨before, Writer.acceptAll_held _ image changes⟩

/-- A slot that no change names waits as before, unless its write is the one just started. -/
theorem Writer.handOver_other (w : Writer) (image : Image) {changes : List (Fin 8 × Option Nat)} (someActive : Bool) {i : Fin 8}
    (other : i ∉ changes.map Prod.fst) :
    ((w.handOver image changes someActive).dirty[i] = w.dirty[i] ∧ (w.handOver image changes someActive).held[i] = w.held[i]) ∨
      (w.inFlight = none ∧ (w.handOver image changes someActive).dirty[i] = none ∧
        ∃ g, (w.handOver image changes someActive).inFlight = some g ∧ g.slot = i ∧
          (w.handOver image changes someActive).held[i] = some g.value ∧ w.dirty[i].map PendingDrive.value = some g.value) := by
  by_cases none_ : changes = []
  · subst none_; exact .inl ⟨rfl, rfl⟩
  · rw [Writer.handOver_of_changes w image none_]
    have dirty : (((w.indicate someActive).acceptAll image changes).assertPa).dirty[i] = w.dirty[i] :=
      Writer.acceptAll_dirty_other _ image other
    have held : (((w.indicate someActive).acceptAll image changes).assertPa).held = w.held := Writer.acceptAll_held _ image changes
    have flight : (((w.indicate someActive).acceptAll image changes).assertPa).inFlight = w.inFlight :=
      Writer.acceptAll_inFlight _ image changes
    obtain ⟨waits, stays⟩ | ⟨idle, p, waits, emptied, taken, g, started, slot, value⟩ :=
      Writer.startNext_at (((w.indicate someActive).acceptAll image changes).assertPa) i
    · exact .inl ⟨waits.trans dirty, stays.trans (by rw [held])⟩
    · refine .inr ⟨flight.symm.trans idle, emptied, g, started, slot, taken.trans (by rw [value]), ?_⟩
      rw [← dirty, waits, value]; rfl

/-- A slot that a change names: its value waits, is the one just started, or is held and waits no more (R104 to R106). -/
theorem Writer.handOver_named (w : Writer) (image : Image) {changes : List (Fin 8 × Option Nat)} (someActive : Bool) {i : Fin 8}
    {output : Option Nat} (once : (changes.map Prod.fst).Nodup) (handed : (i, output) ∈ changes) :
    (w.held[i] = some (driveOf image i output) →
      (w.handOver image changes someActive).dirty[i] = none ∧ (w.handOver image changes someActive).held[i] = w.held[i]) ∧
    (w.held[i] ≠ some (driveOf image i output) →
      ((w.handOver image changes someActive).dirty[i] = some ⟨driveOf image i output, false⟩ ∧
        (w.handOver image changes someActive).held[i] = w.held[i]) ∨
      (w.inFlight = none ∧ (w.handOver image changes someActive).dirty[i] = none ∧
        (w.handOver image changes someActive).held[i] = some (driveOf image i output) ∧
        ∃ g, (w.handOver image changes someActive).inFlight = some g ∧ g.slot = i ∧ g.value = driveOf image i output)) := by
  rw [Writer.handOver_of_changes w image (List.ne_nil_of_mem handed)]
  have dirty : (((w.indicate someActive).acceptAll image changes).assertPa).dirty[i] =
      if w.held[i] = some (driveOf image i output) then none else some ⟨driveOf image i output, false⟩ :=
    Writer.acceptAll_dirty _ image once handed
  have held : (((w.indicate someActive).acceptAll image changes).assertPa).held = w.held := Writer.acceptAll_held _ image changes
  have flight : (((w.indicate someActive).acceptAll image changes).assertPa).inFlight = w.inFlight :=
    Writer.acceptAll_inFlight _ image changes
  have next := Writer.startNext_at (((w.indicate someActive).acceptAll image changes).assertPa) i
  rw [held, flight, dirty] at next
  refine ⟨fun same => ?_, fun differs => ?_⟩
  · rw [if_pos same] at next
    obtain ⟨waits, stays⟩ | ⟨-, p, waits, -⟩ := next
    · exact ⟨waits, stays⟩
    · cases waits
  · rw [if_neg differs] at next
    obtain ⟨waits, stays⟩ | ⟨idle, p, waits, emptied, taken, g, started, slot, value⟩ := next
    · exact .inl ⟨waits, stays⟩
    · cases waits
      exact .inr ⟨idle, emptied, taken, g, started, slot, value⟩

/-- The line after a hand-over with a slot ACTIVE (R109). -/
theorem Writer.handOver_paEnable (w : Writer) (image : Image) {changes : List (Fin 8 × Option Nat)} (some_ : changes ≠ []) :
    (w.handOver image changes true).paEnable = (w.paEnable ||
      (decide (∀ j : Fin 8, (w.handOver image changes true).waitsDecrease j = false) &&
        (w.handOver image changes true).flightAllows)) := by
  rw [Writer.handOver_of_changes w image some_, Writer.startNext_allows, Writer.startNext_paEnable]
  have asserted (v : Writer) : v.assertPa.paEnable = (v.paEnable || (v.indicator &&
      (decide (∀ j : Fin 8, v.assertPa.waitsDecrease j = false) && v.assertPa.flightAllows))) := by
    rw [Writer.assertPa, v.not_decreasePending, Bool.and_assoc]; rfl
  rw [asserted, Writer.acceptAll_paEnable, Writer.acceptAll_indicator]
  simp [Writer.indicate]

theorem State.rampPeriod_short {s : State} (h : s.cfg.period ≤ 1000) : s.rampPeriod < 2 ^ 32 := by
  unfold State.rampPeriod; omega

theorem anyActive_of_risesTo {slots : Vector SlotState 8} {i : Fin 8} {code : Nat} (rises : RisesTo slots i code) :
    anyActive (riseAll slots) = true := by
  obtain ⟨target, -, active, -⟩ := rises
  exact anyActive_iff.mpr ⟨i, by rw [riseAll_isActive, active]; rfl⟩

/-- Settles O37: the outputs that a tick changes are the codes of the slots that rise. -/
theorem rampTickRaisesCarriersByOne : Obligations.RampTickRaisesCarriersByOne := by
  intro s moment running rose value
  have once : ((changedOutputs s.alloc.slots (riseAll s.alloc.slots)).map Prod.fst).Nodup :=
    changedOutputs_slots s.alloc.slots _ ▸ (List.nodup_finRange 8).filter _
  have drive (i : Fin 8) (code : Nat) : driveOf s.cfg i (some code) = value i code := driveOf_some s.cfg i code
  have none_of (i : Fin 8) (still : ∀ code, ¬ rose i code) :
      i ∉ (changedOutputs s.alloc.slots (riseAll s.alloc.slots)).map Prod.fst := by
    intro named
    obtain ⟨⟨j, output⟩, handed, rfl⟩ := List.mem_map.mp named
    obtain ⟨code, -, rises⟩ := (mem_changedOutputs_riseAll _ _ _).mp handed
    exact still code rises
  refine ⟨_, congrArg Host.Outcome.next (State.rampTick_eq running), rfl, fun short => ?_, fun i => ⟨fun target applied active => ?_,
    fun off => ?_⟩, fun still => ?_, fun f flight => Writer.handOver_of_flight flight _ _ _, fun i => ⟨fun code rises => ?_, fun still => ?_⟩⟩
  · exact s.le_elapsed_advanceTo moment (State.rampPeriod_short short)
  · exact (riseAll_getElem _ i).trans (by rw [active]; rfl)
  · exact (riseAll_getElem _ i).trans (SlotState.rise_of_not_active off)
  · have no_changes : changedOutputs s.alloc.slots (riseAll s.alloc.slots) = [] :=
      List.map_eq_nil_iff.mp (List.eq_nil_iff_forall_not_mem.mpr fun i => none_of i (still i))
    change s.writer.handOver s.cfg _ _ = s.writer
    rw [no_changes]; rfl
  · have handed : (i, some code) ∈ changedOutputs s.alloc.slots (riseAll s.alloc.slots) :=
      (mem_changedOutputs_riseAll _ _ _).mpr ⟨code, rfl, rises⟩
    have some_ := List.ne_nil_of_mem handed
    have named := Writer.handOver_named s.writer s.cfg true once handed
    rw [drive] at named
    change (s.writer.handOver s.cfg _ (anyActive (riseAll s.alloc.slots))).indicator = true ∧ _
    rw [State.setWriter_writer, anyActive_of_risesTo rises]
    exact ⟨(Writer.handOver_off s.cfg some_ true).1, Writer.handOver_paEnable s.writer s.cfg some_, named⟩
  · exact Writer.handOver_other s.writer s.cfg _ (none_of i still)

end Sys2Proof.Machine
end

section
/-! PROOFS. What one raise or clear does: to the entries of the table, to what the entries ask of the carriers, and, where that stays as
it was, to the whole state. -/

namespace Sys2Proof.Machine

/-! ### What the entries ask of the carriers (R128, R129) -/

/-- The code of an ACTIVE entry that derates or trips. -/
def FaultEntry.ask (e : FaultEntry) : Option FaultCode :=
  if e.active = true ∧ (0 < e.code.derating ∨ e.code.trips = true) then some e.code else none

/-- A code that derates or trips. -/
def FaultCode.Asks (code : FaultCode) : Prop := 0 < code.derating ∨ code.trips = true

theorem FaultEntry.ask_eq_some_iff {e : FaultEntry} {code : FaultCode} :
    e.ask = some code ↔ e.active = true ∧ e.code = code ∧ code.Asks := by
  unfold FaultEntry.ask FaultCode.Asks
  constructor
  · intro h
    split at h
    next asks => cases h; exact ⟨asks.1, rfl, asks.2⟩
    next => cases h
  · rintro ⟨active, rfl, asks⟩
    rw [if_pos ⟨active, asks⟩]

theorem FaultEntry.ask_of_not_asks {e : FaultEntry} (h : ¬ e.code.Asks) : e.ask = none := by
  unfold FaultEntry.ask
  rw [if_neg fun asks => h asks.2]

theorem FaultEntry.ask_congr {e f : FaultEntry} (code : f.code = e.code) (active : f.active = e.active) : f.ask = e.ask := by
  unfold FaultEntry.ask; rw [code, active]

/-- What a position asks of the carriers. -/
def askAt (x : Option FaultEntry) : Option FaultCode := x.bind FaultEntry.ask

/-- Every position of two tables asks the same. -/
def SameAsks (t u : FaultTable) : Prop := ∀ p : Fin 24, askAt u[p] = askAt t[p]

theorem SameAsks.refl (t : FaultTable) : SameAsks t t := fun _ => rfl

theorem SameAsks.set {t : FaultTable} {i : Fin 24} {x : Option FaultEntry} (same : askAt x = askAt t[i]) : SameAsks t (t.set i x) := by
  intro p
  rw [Vector.getElem_set_fin]
  split
  next h => subst h; exact same
  next => rfl

theorem mem_activeEntries_iff {t : FaultTable} {e : FaultEntry} :
    e ∈ activeEntries t ↔ e.active = true ∧ ∃ p : Fin 24, t[p] = some e := by
  rw [activeEntries, List.mem_filter, mem_entries_iff, and_comm]

theorem askAt_eq_some_iff {t : FaultTable} {p : Fin 24} {code : FaultCode} :
    askAt t[p] = some code ↔ ∃ e, t[p] = some e ∧ e.active = true ∧ e.code = code ∧ code.Asks := by
  rw [askAt, Option.bind_eq_some_iff]
  simp only [FaultEntry.ask_eq_some_iff]

theorem foldr_max_le_iff (l : List Nat) (n : Nat) : l.foldr max 0 ≤ n ↔ ∀ x ∈ l, x ≤ n := by
  induction l with
  | nil => simp
  | cons x rest ih => simp [ih]

theorem deratingLevel_le_iff {t : FaultTable} {n : Nat} :
    deratingLevel t ≤ n ↔ ∀ (p : Fin 24) (code : FaultCode), askAt t[p] = some code → code.derating ≤ n := by
  rw [deratingLevel, foldr_max_le_iff, List.forall_mem_map]
  constructor
  · intro h p code asks
    obtain ⟨e, held, active, rfl, -⟩ := askAt_eq_some_iff.mp asks
    exact h e (mem_activeEntries_iff.mpr ⟨active, p, held⟩)
  · intro h e mem
    obtain ⟨active, p, held⟩ := mem_activeEntries_iff.mp mem
    by_cases derates : 0 < e.code.derating
    · exact h p e.code (askAt_eq_some_iff.mpr ⟨e, held, active, rfl, .inl derates⟩)
    · omega

theorem downCondition_iff {t : FaultTable} :
    downCondition t = true ↔ ∃ (p : Fin 24) (code : FaultCode), askAt t[p] = some code ∧ code.trips = true := by
  rw [downCondition, List.any_eq_true]
  constructor
  · rintro ⟨e, mem, trips⟩
    obtain ⟨active, p, held⟩ := mem_activeEntries_iff.mp mem
    exact ⟨p, e.code, askAt_eq_some_iff.mpr ⟨e, held, active, rfl, .inr trips⟩, trips⟩
  · rintro ⟨p, code, asks, trips⟩
    obtain ⟨e, held, active, rfl, -⟩ := askAt_eq_some_iff.mp asks
    exact ⟨e, mem_activeEntries_iff.mpr ⟨active, p, held⟩, trips⟩

theorem SameAsks.deratingLevel_eq {t u : FaultTable} (h : SameAsks t u) : deratingLevel u = deratingLevel t :=
  eq_of_forall_ge_iff fun n => by
    rw [deratingLevel_le_iff, deratingLevel_le_iff]
    exact forall_congr' fun p => by rw [h p]

theorem SameAsks.downCondition_eq {t u : FaultTable} (h : SameAsks t u) : downCondition u = downCondition t := by
  rw [Bool.eq_iff_iff, downCondition_iff, downCondition_iff]
  exact exists_congr fun p => by rw [h p]

/-! ### How many entries a table holds -/

theorem entries_length (t : FaultTable) : (entries t).length = (List.finRange 24).countP fun p => t[p].isSome := by
  rw [entries, Vector.toList_eq_finRange, List.filterMap_map, List.length_filterMap_eq_countP]; rfl

/-- The positions that hold an entry. -/
def heldPositions (t : FaultTable) : Finset (Fin 24) := Finset.univ.filter fun p => t[p].isSome = true

theorem entries_length_eq_card (t : FaultTable) : (entries t).length = (heldPositions t).card := by
  rw [entries_length, heldPositions, Finset.card_def, Finset.filter_val]
  simp [Finset.univ, Fintype.elems, List.countP_eq_length_filter]

theorem AtMost.mono {n m : Nat} {t : FaultTable} (h : AtMost n t) (le : n ≤ m) : AtMost m t := Nat.le_trans h le

theorem AtMost.of_held {n : Nat} {t u : FaultTable} (h : AtMost n t) (held : ∀ p : Fin 24, u[p] ≠ none → t[p] ≠ none) : AtMost n u := by
  rw [AtMost, entries_length_eq_card] at h ⊢
  refine (Finset.card_le_card fun p => ?_).trans h
  simp only [heldPositions, Finset.mem_filter, Finset.mem_univ, true_and, Option.isSome_iff_ne_none]
  exact held p

/-- One position more may hold an entry. -/
theorem AtMost.set {n : Nat} {t : FaultTable} (h : AtMost n t) (i : Fin 24) (x : Option FaultEntry) : AtMost (n + 1) (t.set i x) := by
  rw [AtMost, entries_length_eq_card] at h ⊢
  refine (Finset.card_le_card (t := insert i (heldPositions t)) fun p => ?_).trans ((Finset.card_insert_le _ _).trans (by omega))
  simp only [heldPositions, Finset.mem_filter, Finset.mem_univ, true_and, Finset.mem_insert]
  rw [Vector.getElem_set_fin]
  split
  next same => exact fun _ => .inl same.symm
  next => exact .inr

/-- A table that is not full has a lowest empty position. -/
theorem AtMost.firstEmpty {n : Nat} {t : FaultTable} (h : AtMost n t) (room : n < 24) : ∃ p, firstEmpty t = some p := by
  cases empty : Machine.firstEmpty t with
  | some p => exact ⟨p, rfl⟩
  | none =>
    rw [firstEmpty_eq_none_iff] at empty
    rw [AtMost, entries_length_eq_card, heldPositions, Finset.filter_true_of_mem] at h
    · simp at h; omega
    · exact fun p _ => Option.isSome_iff_ne_none.mpr (empty p)

/-! ### What a raise does to the entries -/

/-- A raise finds the entry of its condition or an empty position. -/
def RoomFor (t : FaultTable) (code : FaultCode) (subject : Nat) : Prop := findEntry t code subject = none → ∃ p, firstEmpty t = some p

theorem AtMost.roomFor {n : Nat} {t : FaultTable} (h : AtMost n t) (room : n < 24) (code : FaultCode) (subject : Nat) :
    RoomFor t code subject := fun _ => h.firstEmpty room

theorem RoomFor.of_found {t : FaultTable} {code : FaultCode} {subject : Nat} {x : Fin 24 × FaultEntry}
    (found : findEntry t code subject = some x) : RoomFor t code subject := fun absent => by cases found.symm.trans absent

theorem RoomFor.of_empty {t : FaultTable} {q : Fin 24} (empty : firstEmpty t = some q) (code : FaultCode) (subject : Nat) :
    RoomFor t code subject := fun _ => ⟨q, empty⟩

/-- With room, a raise leaves the table, or puts an entry of its condition where there was one or none. -/
theorem tableRaise_of_room {t : FaultTable} {code : FaultCode} {subject : Nat} (stamp : EpochCount) (room : RoomFor t code subject) :
    (∃ p e, findEntry t code subject = some (p, e) ∧ e.state ≠ .clearedUnacked ∧
        tableRaise t code subject stamp = ⟨t, false, false⟩) ∨
      ∃ (p : Fin 24) (f : FaultEntry), f.Is code subject ∧ f.active = true ∧ tableRaise t code subject stamp = ⟨t.set p (some f), false, true⟩ ∧
        ((findEntry t code subject = none ∧ firstEmpty t = some p ∧ f = newEntry code subject stamp) ∨
          ∃ e, findEntry t code subject = some (p, e) ∧ e.state = .clearedUnacked ∧ f = e.returned stamp) := by
  obtain stands | ⟨p, e, found, state, h⟩ | ⟨p, absent, empty, h⟩ | ⟨absent, full, -⟩ := tableRaise_cases t code subject stamp
  · exact .inl stands
  · exact .inr ⟨p, e.returned stamp, (findEntry_eq_some_iff.mp found).2.1, rfl, h, .inr ⟨e, found, state, rfl⟩⟩
  · exact .inr ⟨p, newEntry code subject stamp, ⟨rfl, rfl⟩, rfl, h, .inl ⟨absent, empty, rfl⟩⟩
  · obtain ⟨p, empty⟩ := room absent
    cases full.symm.trans empty

/-- Nothing at a position that a raise with room takes is of another condition. -/
theorem tableRaise_position {t : FaultTable} {code : FaultCode} {subject : Nat} {p : Fin 24}
    (h : (findEntry t code subject = none ∧ firstEmpty t = some p) ∨ ∃ e, findEntry t code subject = some (p, e)) :
    ∀ e, t[p] = some e → e.Is code subject := by
  intro e held
  obtain ⟨-, empty⟩ | ⟨f, found⟩ := h
  · cases (firstEmpty_eq_some_iff.mp empty).1.symm.trans held
  · obtain ⟨held', is, -⟩ := findEntry_eq_some_iff.mp found
    cases held.symm.trans held'
    exact is

theorem FaultEntry.Is.unique {e : FaultEntry} {code other : FaultCode} {subject subject' : Nat} (h : e.Is code subject)
    (k : e.Is other subject') : other = code ∧ subject' = subject := ⟨k.1.symm.trans h.1, k.2.symm.trans h.2⟩

/-- With room a raise leaves every other condition's entry. -/
theorem findEntry_tableRaise_of_other {t : FaultTable} {code other : FaultCode} {subject subject' : Nat} (stamp : EpochCount)
    (room : RoomFor t code subject) (differs : ¬(other = code ∧ subject' = subject)) :
    findEntry (tableRaise t code subject stamp).table other subject' = findEntry t other subject' := by
  obtain ⟨p, e, -, -, h⟩ | ⟨p, f, is, -, h, how⟩ := tableRaise_of_room stamp room <;> rw [h]
  have there := tableRaise_position (how.imp (fun ⟨absent, empty, _⟩ => ⟨absent, empty⟩) fun ⟨e, found, _⟩ => ⟨e, found⟩)
  exact findEntry_set_of_other (fun e held is' => differs ((there e held).unique is')) (by rintro _ ⟨⟩ is'; exact differs (is.unique is'))

/-- R118, whatever the table held. -/
theorem raisedIn_tableRaise (t : FaultTable) (code : FaultCode) (subject : Nat) (stamp : EpochCount) :
    RaisedIn t (tableRaise t code subject stamp).table code subject stamp := by
  constructor
  · intro q absent empty
    have raised : tableRaise t code subject stamp = ⟨t.set q (some (newEntry code subject stamp)), false, true⟩ := by
      simp only [tableRaise, absent, empty]
    rw [raised]
    exact findEntry_set_self ⟨rfl, rfl⟩ fun q' _ f held => findEntry_eq_none_iff.mp absent q' f held
  · intro p e found
    obtain ⟨held, is, below⟩ := findEntry_eq_some_iff.mp found
    split
    next state =>
      have raised : tableRaise t code subject stamp = ⟨t.set p (some (e.returned stamp)), false, true⟩ := by
        simp only [tableRaise, found, state]
      rw [raised]
      exact findEntry_set_self (e := e.returned stamp) is below
    next state =>
      have raised : (tableRaise t code subject stamp).table = t := by
        unfold tableRaise
        rw [found]
        cases known : e.state <;> simp [known] at state ⊢
      rw [raised, found]

theorem RaisedIn.among {t u : FaultTable} {code : FaultCode} {subject : Nat} {stamp : EpochCount} (h : RaisedIn t u code subject stamp)
    (room : RoomFor t code subject) : RaisedAmong t u code subject stamp :=
  ⟨fun absent => let ⟨q, empty⟩ := room absent; ⟨q, h.1 q absent empty⟩, h.2⟩

theorem RaisedIn.of_found {t u v : FaultTable} {code : FaultCode} {subject : Nat} {stamp : EpochCount} (h : RaisedIn t u code subject stamp)
    (same : findEntry v code subject = findEntry u code subject) : RaisedIn t v code subject stamp := by
  simpa only [RaisedIn, same] using h

theorem RaisedAmong.of_found {t u t' u' : FaultTable} {code : FaultCode} {subject : Nat} {stamp : EpochCount}
    (h : RaisedAmong t u code subject stamp) (before : findEntry t' code subject = findEntry t code subject)
    (after : findEntry u' code subject = findEntry u code subject) : RaisedAmong t' u' code subject stamp := by
  simpa only [RaisedAmong, before, after] using h

theorem AtMost.tableRaise {n : Nat} {t : FaultTable} (h : AtMost n t) (code : FaultCode) (subject : Nat) (stamp : EpochCount) :
    AtMost (n + 1) (tableRaise t code subject stamp).table := by
  obtain ⟨p, e, -, -, raised⟩ | ⟨p, e, -, -, raised⟩ | ⟨p, -, -, raised⟩ | ⟨-, -, raised⟩ := tableRaise_cases t code subject stamp <;>
    rw [raised]
  · exact h.mono (by omega)
  · exact h.set p _
  · exact h.set p _
  · obtain same | ⟨p, put⟩ := raiseFull_table t (newEntry code subject stamp)
    · rw [same]; exact h.mono (by omega)
    · rw [put]; exact h.set p _

/-! ### What a clear does to the entries -/

/-- A clear leaves every other condition's entry. -/
theorem findEntry_tableClear_of_other {t : FaultTable} {code other : FaultCode} {subject subject' : Nat}
    (differs : ¬(other = code ∧ subject' = subject)) :
    findEntry (tableClear t code subject) other subject' = findEntry t other subject' := by
  cases found : findEntry t code subject with
  | none => rw [tableClear_of_absent found]
  | some x =>
    obtain ⟨p, e⟩ := x
    rw [tableClear_of_found found]
    obtain ⟨held, is, -⟩ := findEntry_eq_some_iff.mp found
    refine findEntry_set_of_other (fun f held' is' => ?_) (fun f cleared is' => ?_)
    · cases held.symm.trans held'; exact differs (is.unique is')
    · have key := FaultEntry.cleared_key cleared
      rw [(f.is_iff_key _ _).mp is', (e.is_iff_key _ _).mp is] at key
      exact differs ⟨congrArg Prod.fst key, congrArg Prod.snd key⟩

/-- R119, in a table without two entries of one condition. -/
theorem clearedIn_tableClear {t : FaultTable} (distinct : ((entries t).map FaultEntry.key).Nodup) (code : FaultCode) (subject : Nat) :
    ClearedIn t (tableClear t code subject) code subject := by
  intro p e found
  obtain ⟨held, is, below⟩ := findEntry_eq_some_iff.mp found
  rw [tableClear_of_found found]
  refine ⟨fun state => ?_, fun state => ?_, fun state => ?_⟩
  · have cleared : e.cleared = some { e with state := .clearedUnacked, credit := 3 } := by simp [FaultEntry.cleared, state]
    rw [cleared]
    exact findEntry_set_self (e := { e with state := .clearedUnacked, credit := 3 }) is below
  · have cleared : e.cleared = none := by simp [FaultEntry.cleared, state]
    rw [cleared]
    refine findEntry_eq_none_iff.mpr fun q f held' is' => ?_
    rw [Vector.getElem_set_fin] at held'
    split at held'
    · cases held'
    next differs =>
      exact differs ((distinct_iff t).mp distinct p q e f held held' (by rw [(e.is_iff_key _ _).mp is, (f.is_iff_key _ _).mp is']))
  · have cleared : e.cleared = some e := by simp [FaultEntry.cleared, state]
    rw [cleared]
    exact findEntry_set_self is below

theorem ClearedIn.of_found {t u t' u' : FaultTable} {code : FaultCode} {subject : Nat} (h : ClearedIn t u code subject)
    (before : findEntry t' code subject = findEntry t code subject)
    (after : findEntry u' code subject = findEntry u code subject) : ClearedIn t' u' code subject := by
  simpa only [ClearedIn, before, after] using h

theorem AtMost.tableClear {n : Nat} {t : FaultTable} (h : AtMost n t) (code : FaultCode) (subject : Nat) :
    AtMost n (tableClear t code subject) := by
  cases found : findEntry t code subject with
  | none => rwa [tableClear_of_absent found]
  | some x =>
    obtain ⟨p, e⟩ := x
    rw [tableClear_of_found found]
    refine h.of_held fun q => ?_
    rw [Vector.getElem_set_fin]
    split
    next same => subst same; exact fun _ => by rw [(findEntry_eq_some_iff.mp found).1]; simp
    next => exact id

/-! ### Changes that ask nothing new of the carriers -/

theorem FaultEntry.active_of_cleared {e f : FaultEntry} (h : e.cleared = some f) : f.active = false := by
  unfold FaultEntry.cleared at h
  split at h
  · cases h; rfl
  · cases h
  next state => cases h; simp [FaultEntry.active, state]

/-- With room, a raise of a code that neither derates nor trips asks nothing new. -/
theorem sameAsks_tableRaise {t : FaultTable} {code : FaultCode} {subject : Nat} (stamp : EpochCount) (quiet : ¬ code.Asks)
    (room : RoomFor t code subject) : SameAsks t (tableRaise t code subject stamp).table := by
  obtain ⟨p, e, -, -, h⟩ | ⟨p, f, is, -, h, how⟩ := tableRaise_of_room stamp room <;> rw [h]
  · exact .refl t
  have there := tableRaise_position (how.imp (fun ⟨absent, empty, _⟩ => ⟨absent, empty⟩) fun ⟨e, found, _⟩ => ⟨e, found⟩)
  refine .set ?_
  rw [askAt, Option.bind_some, FaultEntry.ask_of_not_asks (is.1 ▸ quiet)]
  cases held : t[p] with
  | none => rfl
  | some e => exact (FaultEntry.ask_of_not_asks ((there e held).1 ▸ quiet)).symm

/-- A clear of a code that neither derates nor trips asks nothing new. -/
theorem sameAsks_tableClear (t : FaultTable) {code : FaultCode} (subject : Nat) (quiet : ¬ code.Asks) :
    SameAsks t (tableClear t code subject) := by
  cases found : findEntry t code subject with
  | none => rw [tableClear_of_absent found]; exact .refl t
  | some x =>
    obtain ⟨p, e⟩ := x
    rw [tableClear_of_found found]
    obtain ⟨held, is, -⟩ := findEntry_eq_some_iff.mp found
    refine .set ?_
    rw [held, askAt, askAt, Option.bind_some, FaultEntry.ask_of_not_asks (is.1 ▸ quiet)]
    cases cleared : e.cleared with
    | none => rfl
    | some f => exact FaultEntry.ask_of_not_asks (by rw [show f.code = code from (congrArg Prod.fst (FaultEntry.cleared_key cleared)).trans is.1]; exact quiet)

/-! ### The supervisor after a change -/

/-- `t` differs from `s` in the supervisor and the carried set alone. -/
structure State.TableStep (s t : State) : Prop where
  rest : t = (s.setSupervisor t.supervisor).setComposer { s.composer with carried := t.composer.carried }

namespace State.TableStep

variable {s t u : State}

theorem refl (s : State) : s.TableStep s := ⟨rfl⟩
theorem port (h : s.TableStep t) : t.port = s.port := (congrArg State.port h.rest :)
theorem view (h : s.TableStep t) : t.view = s.view := (congrArg State.view h.rest :)
theorem scanner (h : s.TableStep t) : t.scanner = s.scanner := (congrArg State.scanner h.rest :)
theorem spread (h : s.TableStep t) : t.spread = s.spread := (congrArg State.spread h.rest :)
theorem alloc (h : s.TableStep t) : t.alloc = s.alloc := (congrArg State.alloc h.rest :)
theorem writer (h : s.TableStep t) : t.writer = s.writer := (congrArg State.writer h.rest :)
theorem ctl (h : s.TableStep t) : t.ctl = s.ctl := (congrArg State.ctl h.rest :)
theorem store (h : s.TableStep t) : t.store = s.store := (congrArg State.store h.rest :)
theorem stamp (h : s.TableStep t) : t.stamp = s.stamp := (congrArg State.stamp h.rest :)

theorem trans (h : s.TableStep t) (k : t.TableStep u) : s.TableStep u := by
  refine ⟨k.rest.trans ?_⟩
  rw [h.rest]; rfl

theorem composer (h : s.TableStep t) : t.composer = { s.composer with carried := t.composer.carried } :=
  (congrArg State.composer h.rest :)

theorem request (h : s.TableStep t) : t.composer.request = s.composer.request := by rw [h.composer]

theorem eq_set (h : s.TableStep t) : t = (s.setSupervisor t.supervisor).setComposer t.composer := by
  have rest := h.rest
  rwa [← h.composer] at rest

end State.TableStep

theorem State.setTable_step (s : State) (t : FaultTable) (x : Supervisor) : s.TableStep ((s.setTable t).setSupervisor x) := ⟨rfl⟩

/-- A change after which the table asks what it asked before hands ALARM alone. -/
theorem State.handOutputs_of_sameAsks {s t : State} (follow : s.OutputsFollow) (alloc : t.alloc = s.alloc)
    (same : SameAsks s.supervisor.table t.supervisor.table) :
    t.handOutputs = t.setSupervisor { t.supervisor with alarm := alarmLevel t.supervisor.table } :=
  State.handOutputs_of_same t (by rw [alloc, same.deratingLevel_eq, follow.derating]) (by rw [alloc, same.downCondition_eq, follow.down])

theorem State.serious_step (s : State) (code : FaultCode) (subject : Nat) (stamp : EpochCount) :
    s.serious code subject stamp = s.setSupervisor (s.serious code subject stamp).supervisor := by
  unfold State.serious
  split
  · split <;> rfl
  · rfl

/-- The supervisor after a raise: the table of R118 with its outputs, and the snapshot where an entry entered (R126). -/
def State.raisedSupervisor (s : State) (code : FaultCode) (subject : Nat) : Supervisor :=
  let r := tableRaise s.supervisor.table code subject s.stamp
  let taken := if r.entered then (s.serious code subject s.stamp).supervisor else s.supervisor
  { taken with table := r.table, alarm := alarmLevel r.table, overflow := s.supervisor.overflow || r.overflow }

theorem State.handOutputs_supervisor (s : State) :
    s.handOutputs.supervisor = { s.supervisor with alarm := alarmLevel s.supervisor.table } := by
  unfold State.handOutputs State.handDown State.handDerating
  dsimp only
  repeat' split
  all_goals rfl

theorem State.raiseOnly_supervisor (s : State) (code : FaultCode) (subject : Nat) :
    (s.raiseOnly code subject).supervisor = s.raisedSupervisor code subject := by
  unfold State.raiseOnly State.raisedSupervisor State.setTable
  rw [State.handOutputs_supervisor]
  dsimp only
  split
  · rw [State.tripped_supervisor]
    unfold State.serious
    split
    · dsimp only [State.setSupervisor_supervisor]
      split <;> simp_all [State.takeSnapshot, State.setSupervisor, State.setComposer]
    · rfl
  · rfl

end Sys2Proof.Machine
end

section
/-! PROOFS. A raise or a clear that asks nothing new of the carriers, taken whole; and what a clash, a collision, a clean frame and the
two standing conditions of the trunk do to the fault table. -/

namespace Sys2Proof.Machine

/-- The supervisor after a clear: the table of R119 with its outputs (R126). -/
def State.clearedSupervisor (s : State) (code : FaultCode) (subject : Nat) : Supervisor :=
  let t := tableClear s.supervisor.table code subject
  { s.supervisor with table := t, alarm := alarmLevel t }

theorem State.clearOnly_supervisor (s : State) (code : FaultCode) (subject : Nat) :
    (s.clearOnly code subject).supervisor = s.clearedSupervisor code subject := by
  rw [State.clearOnly, State.handOutputs_supervisor]; rfl

/-- A change of the table taken whole that asked nothing new of the carriers. -/
structure State.QuietChange (s t : State) (supervisor : Supervisor) : Prop where
  step : s.TableStep t
  settled : t.Settled
  supervisor : t.supervisor = supervisor

/-- A change of the table that asks nothing new leaves no recompute to take. -/
theorem State.QuietChange.of_handOutputs {s t : State} (settled : s.Settled) (step : s.TableStep t)
    (same : SameAsks s.supervisor.table t.supervisor.table) :
    s.QuietChange t.handOutputs { t.supervisor with alarm := alarmLevel t.supervisor.table } := by
  have handed := State.handOutputs_of_sameAsks settled.follow step.alloc same
  have not_due : t.handOutputs.alloc.recomputeDue = false := by rw [handed]; exact (congrArg Alloc.recomputeDue step.alloc).trans settled.taken
  exact ⟨step.trans (handed ▸ ⟨rfl⟩), ⟨t.handOutputs_outputsFollow, not_due⟩, t.handOutputs_supervisor⟩

theorem State.QuietChange.settle {s t : State} {supervisor : Supervisor} (h : s.QuietChange t supervisor) :
    s.QuietChange t.settle supervisor := by
  rwa [State.settle_of_not_due t h.settled.taken]

theorem State.raiseOnly_of_sameAsks {s : State} (settled : s.Settled) {code : FaultCode} (trips : code.trips = false) (subject : Nat)
    (same : SameAsks s.supervisor.table (tableRaise s.supervisor.table code subject s.stamp).table) :
    s.QuietChange (s.raiseOnly code subject) (s.raisedSupervisor code subject) := by
  have opened : ∃ t, s.raiseOnly code subject = t.handOutputs ∧ s.TableStep t ∧
      t.supervisor.table = (tableRaise s.supervisor.table code subject s.stamp).table := by
    refine ⟨_, rfl, ?_, ?_⟩
    · dsimp only
      split
      · rw [State.tripped, if_neg (by simp [trips]), State.serious_step]
        exact ⟨rfl⟩
      · exact ⟨rfl⟩
    · dsimp only
      split
      · rw [State.tripped_supervisor, State.serious_table]; rfl
      · rfl
  obtain ⟨t, raised, step, table⟩ := opened
  have change := State.QuietChange.of_handOutputs settled step (table ▸ same)
  rw [← raised] at change
  refine ⟨change.step, change.settled, change.supervisor.trans ?_⟩
  rw [← State.raiseOnly_supervisor, raised, State.handOutputs_supervisor]

theorem State.clearOnly_of_not_asks {s : State} (settled : s.Settled) {code : FaultCode} (quiet : ¬ code.Asks) (subject : Nat) :
    s.QuietChange (s.clearOnly code subject) (s.clearedSupervisor code subject) :=
  State.QuietChange.of_handOutputs settled (s.setTable_step _ _) (sameAsks_tableClear _ _ quiet)

theorem State.raiseOnly_of_room {s : State} (settled : s.Settled) {code : FaultCode} (quiet : ¬ code.Asks) (subject : Nat)
    (room : RoomFor s.supervisor.table code subject) : s.QuietChange (s.raiseOnly code subject) (s.raisedSupervisor code subject) :=
  State.raiseOnly_of_sameAsks settled (by simpa using fun trips => quiet (.inr trips)) subject (sameAsks_tableRaise _ quiet room)

theorem State.clear_of_not_asks {s : State} (settled : s.Settled) {code : FaultCode} (quiet : ¬ code.Asks) (subject : Nat) :
    s.QuietChange (s.clear code subject) (s.clearedSupervisor code subject) := (State.clearOnly_of_not_asks settled quiet subject).settle

theorem State.raise_of_room {s : State} (settled : s.Settled) {code : FaultCode} (quiet : ¬ code.Asks) (subject : Nat)
    (room : RoomFor s.supervisor.table code subject) : s.QuietChange (s.raise code subject) (s.raisedSupervisor code subject) :=
  (State.raiseOnly_of_room settled quiet subject room).settle

theorem RaisedIn.of_no_room {t : FaultTable} {code : FaultCode} {subject : Nat} (full : ¬ RoomFor t code subject) (u : FaultTable)
    (stamp : EpochCount) : RaisedIn t u code subject stamp :=
  ⟨fun _ _ empty => absurd (.of_empty empty code subject) full, fun _ _ found => absurd (.of_found found) full⟩

/-- R118 for a code that asks nothing of the carriers, whatever room the table has. -/
theorem State.raise_raisedIn {s : State} (settled : s.Settled) {code : FaultCode} (quiet : ¬ code.Asks) (subject : Nat) :
    RaisedIn s.supervisor.table (s.raise code subject).supervisor.table code subject s.stamp := by
  by_cases room : RoomFor s.supervisor.table code subject
  · rw [(State.raise_of_room settled quiet subject room).supervisor]
    exact raisedIn_tableRaise _ _ _ _
  · exact .of_no_room room _ _

theorem tableRaise_of_active {t : FaultTable} {code : FaultCode} {subject : Nat} {p : Fin 24} {e : FaultEntry}
    (found : findEntry t code subject = some (p, e)) (active : e.active = true) (stamp : EpochCount) :
    tableRaise t code subject stamp = ⟨t, false, false⟩ := by
  unfold tableRaise
  rw [found]
  cases state : e.state <;> simp [FaultEntry.active, state] at active ⊢

/-! ### The clash monitor (R33, R34) -/

theorem State.Settled.of_same {s t : State} (h : s.Settled) (supervisor : t.supervisor = s.supervisor) (alloc : t.alloc = s.alloc) :
    t.Settled :=
  ⟨h.follow.of_same (by rw [supervisor]) (by rw [supervisor]) (by rw [alloc]) (by rw [alloc]), by rw [alloc]; exact h.taken⟩

/-- A clear of ID_CLASH that is due changes the view and the table alone. -/
theorem State.settleClash_beside (s : State) : (s.setView s.settleClash.view).Beside s.settleClash ∧
    s.settleClash.view = { s.view with clash := s.settleClash.view.clash, clashCount := s.settleClash.view.clashCount } := by
  unfold State.settleClash
  split
  · exact ⟨.refl s, rfl⟩
  · split
    · have cleared := State.clear_beside (s.setView { s.view with clash := none, clashCount := 0 }) .idClash
      exact ⟨by rw [(cleared _).view]; exact cleared _, by rw [(cleared _).view]; rfl⟩
    · exact ⟨.refl s, rfl⟩

theorem State.settleClash_of_not_due {s : State} (h : s.view.clash = none ∨ s.view.clashCount < 16) : s.settleClash = s := by
  unfold State.settleClash
  obtain none_ | few := h
  · rw [none_]
  · split
    · rfl
    · rw [if_neg (by omega)]

theorem FaultCode.idClash_not_asks : ¬ FaultCode.idClash.Asks := by unfold FaultCode.Asks; decide
theorem FaultCode.trunkNoise_not_asks : ¬ FaultCode.trunkNoise.Asks := by unfold FaultCode.Asks; decide
theorem FaultCode.trunkBusy_not_asks : ¬ FaultCode.trunkBusy.Asks := by unfold FaultCode.Asks; decide

theorem State.clashBeacon_rest (s : State) (own : Nat) : (s.clashBeacon own).view = { s.view with clash := some own, clashCount := 0 } ∧
    (s.clashBeacon own).scanner = s.scanner ∧ (s.clashBeacon own).handler = s.handler ∧ (s.clashBeacon own).store = s.store ∧
    (s.clashBeacon own).port = s.port := by
  obtain ⟨due, dueView⟩ := s.settleClash_beside
  have raised := State.raise_beside s.settleClash .idClash own
  simp only [State.clashBeacon, State.setView_view, State.setView_scanner, State.setView_handler, State.setView_store,
    State.setView_port]
  rw [raised.view, raised.scanner, raised.handler, raised.store, raised.port, due.scanner, due.handler, due.store, due.port, dueView]
  exact ⟨rfl, rfl, rfl, rfl, rfl⟩

/-- Settles O16: the monitor's clear, where one is due, comes before the raise. -/
theorem ownIdFromAnotherStationIsAClash : Obligations.OwnIdFromAnotherStationIsAClash := by
  intro s wait bytes f receiver footing listening foreign good beacon own
  have ends : s.frameEnds wait true bytes = ((s.advance wait.toNat).setPort s.port.endReception).clashBeacon f.source.toNat := by
    have ownId : ((s.advance wait.toNat).setPort s.port.endReception).ownId = some f.source.toNat := own
    rw [State.frameEnds_of_good receiver footing listening foreign wait good, State.deliverFrame, beacon]
    simp only [State.takeBeacon, ownId, if_true]
  obtain ⟨view, scanner, handler, store, port⟩ :=
    ((s.advance wait.toNat).setPort s.port.endReception).clashBeacon_rest f.source.toNat
  refine ⟨_, congrArg Host.Outcome.next ends, view, scanner, handler, store, port, fun settled notDue => ?_⟩
  have settled' : ((s.advance wait.toNat).setPort s.port.endReception).Settled := settled.of_same rfl rfl
  have stays := State.settleClash_of_not_due (s := (s.advance wait.toNat).setPort s.port.endReception) notDue
  rw [State.clashBeacon, stays]
  refine ⟨State.raise_raisedIn settled' FaultCode.idClash_not_asks _, fun few => ?_, fun p e found active => ?_⟩
  · have quiet := State.raise_of_room settled' FaultCode.idClash_not_asks f.source.toNat (few.roomFor (by omega) _ _)
    exact ⟨quiet.step.alloc, quiet.step.writer⟩
  · have quiet := State.raise_of_room settled' FaultCode.idClash_not_asks f.source.toNat (.of_found found)
    refine (congrArg Supervisor.table quiet.supervisor).trans ?_
    exact congrArg Raised.table (tableRaise_of_active found active _)

/-! ### The standing conditions of the trunk (R15, R34) -/

theorem tableClear_set {t : FaultTable} {code : FaultCode} {subject : Nat} {p : Fin 24} {e : FaultEntry}
    (found : findEntry t code subject = some (p, e)) :
    (e.state = .activeUnacked → tableClear t code subject = t.set p (some { e with state := .clearedUnacked, credit := 3 })) ∧
      (e.state = .activeAcked → tableClear t code subject = t.set p none) ∧
      (e.state = .clearedUnacked → tableClear t code subject = t) := by
  rw [tableClear_of_found found]
  refine ⟨fun state => by simp [FaultEntry.cleared, state], fun state => by simp [FaultEntry.cleared, state], fun state => ?_⟩
  have cleared : e.cleared = t[p] := by rw [(findEntry_eq_some_iff.mp found).1]; simp [FaultEntry.cleared, state]
  rw [cleared, Vector.set_same]

theorem alarmLevel_tableClear_of_not_serious {t : FaultTable} {code : FaultCode} (subject : Nat)
    (mild : code.severity.serious = false) : alarmLevel (tableClear t code subject) = alarmLevel t := by
  cases found : findEntry t code subject with
  | none => rw [tableClear_of_absent found]
  | some x =>
    obtain ⟨p, e⟩ := x
    obtain ⟨held, is, -⟩ := findEntry_eq_some_iff.mp found
    rw [tableClear_of_found found, Bool.eq_iff_iff]
    simp only [alarmLevel, List.any_eq_true, mem_entries_iff]
    have silent (f : FaultEntry) (same : f.code = code) : f.alarms = false := by simp [FaultEntry.alarms, same, mild]
    constructor
    · rintro ⟨f, ⟨q, there⟩, alarms⟩
      rw [Vector.getElem_set_fin] at there
      split at there
      · rw [silent f ((congrArg Prod.fst (FaultEntry.cleared_key there)).trans is.1)] at alarms
        cases alarms
      · exact ⟨f, ⟨q, there⟩, alarms⟩
    · rintro ⟨f, ⟨q, there⟩, alarms⟩
      refine ⟨f, ⟨q, ?_⟩, alarms⟩
      rw [Vector.getElem_set_fin, if_neg]
      · exact there
      · rintro rfl
        cases held.symm.trans there
        rw [silent e is.1] at alarms
        cases alarms

/-- Settles O26: each end of a condition is a clear that asks nothing new of the carriers. -/
theorem standingTrunkConditionsEnd : Obligations.StandingTrunkConditionsEnd := by
  intro s settled
  refine ⟨fun stands run => ?_, fun id clash count => ?_⟩
  · have ends : s.settleNoise = (s.setPort { s.port with noiseStanding := false, cleanRun := 0 }).clear .trunkNoise 0 := by
      rw [State.settleNoise, if_pos ⟨stands, by omega⟩]
    have quiet := State.clear_of_not_asks (s := s.setPort { s.port with noiseStanding := false, cleanRun := 0 })
      (settled.of_same rfl rfl) FaultCode.trunkNoise_not_asks 0
    refine ⟨_, congrArg Host.Outcome.next ends, ?_, ?_, ?_, fun p e found => ?_⟩
    · exact quiet.step.eq_set
    · exact quiet.step.request
    · have alarm : alarmLevel (tableClear s.supervisor.table .trunkNoise 0) = s.supervisor.alarm :=
        (alarmLevel_tableClear_of_not_serious 0 (by decide)).trans settled.follow.alarm.symm
      rw [quiet.supervisor, State.clearedSupervisor]
      simp only [State.setPort_supervisor, alarm]
    · rw [quiet.supervisor]
      exact tableClear_set found
  · have ends : s.settleClash = (s.setView { s.view with clash := none, clashCount := 0 }).clear .idClash id := by
      simp [State.settleClash, clash, count]
    have quiet := State.clear_of_not_asks (s := s.setView { s.view with clash := none, clashCount := 0 })
      (settled.of_same rfl rfl) FaultCode.idClash_not_asks id
    refine ⟨_, congrArg Host.Outcome.next ends, ?_, ?_, ?_, fun p e found => ?_⟩
    · exact quiet.step.eq_set
    · exact quiet.step.request
    · rw [quiet.supervisor]; rfl
    · rw [quiet.supervisor]
      exact tableClear_set found

end Sys2Proof.Machine
end

section
/-! PROOFS. What becomes of a beacon when its attempt ends: kept, dropped, superseded or withdrawn at a collision, delivered by a clean
frame. -/

namespace Sys2Proof.Machine

/-! ### The carried set -/

@[simp] theorem State.handOutputs_composer (s : State) : s.handOutputs.composer = s.composer := by
  unfold State.handOutputs State.handDown State.handDerating
  dsimp only
  repeat' split
  all_goals rfl

@[simp] theorem State.serious_composer (s : State) (code : FaultCode) (subject : Nat) (stamp : EpochCount) :
    (s.serious code subject stamp).composer = s.composer := by rw [State.serious_step]; rfl

@[simp] theorem State.tripped_composer (s : State) (code : FaultCode) (subject : Nat) (stamp : EpochCount) :
    (s.tripped code subject stamp).composer = s.composer := by unfold State.tripped; split <;> rfl

theorem State.raiseOnly_carried (s : State) (code : FaultCode) (subject : Nat) : (s.raiseOnly code subject).composer.carried =
    keepCarried s.supervisor.table (tableRaise s.supervisor.table code subject s.stamp).table s.composer.carried := by
  simp only [State.raiseOnly, State.handOutputs_composer]
  split <;> simp [State.setTable]

/-- With none carried none becomes carried. -/
theorem carriedNone_changes : KeptByChanges fun s => s.composer.carried = [] where
  raiseOnly code subject none_ := by rw [State.raiseOnly_carried, none_]; rfl
  clearOnly code subject none_ := by simp [State.clearOnly, State.setTable, none_, keepCarried]
  ackOneOnly code subject none_ := by
    unfold State.ackOneOnly
    split
    · exact none_
    · simp [State.setTable, State.erasesFor, none_, keepCarried]
  ackAllOnly none_ := by simp [State.ackAllOnly, State.setTable, State.erasesFor, none_, keepCarried]
  marks _ none_ := none_
  reallocate _ none_ := none_

/-! ### A dropped beacon (R18) -/

theorem State.dropBeacon_of_few {s : State} (few : s.port.failures ≠ 4) :
    s.dropBeacon = s.setPort { s.port with failures := min 255 (s.port.failures + 1) } := by
  have count : saturate 255 s.port.failures ≠ 5 := by unfold saturate; omega
  rw [State.dropBeacon]
  dsimp only
  rw [if_neg count]; rfl

theorem State.dropBeacon_of_fifth {s : State} (fourth : s.port.failures = 4) :
    s.dropBeacon = (s.setPort { s.port with failures := 5, busyStanding := true }).raise .trunkBusy 0 := by
  rw [State.dropBeacon, fourth]; rfl

theorem State.dropBeacon_carried {s : State} (none_ : s.composer.carried = []) : s.dropBeacon.composer.carried = [] := by
  unfold State.dropBeacon
  dsimp only
  split
  · have x := carriedNone_changes.raise (s := (s.setPort { s.port with failures := saturate 255 s.port.failures }).setPort
      { (s.setPort { s.port with failures := saturate 255 s.port.failures }).port with busyStanding := true }) none_ .trunkBusy 0
    exact x
  · exact none_

/-! ### Collisions (R9, R17 to R19) -/

/-- A collision counts the beacon as dropped (R9, R18). -/
def Drops (doom : Doom) (n : Nat) : Prop := (doom = .kept ∧ n = 8) ∨ doom = .superseded

/-- The attempt number after a collision, where the beacon stays in the slot (R9). -/
def afterAttempt (doom : Doom) (n : Nat) : Option Nat := if doom = .kept ∧ n ≠ 8 then some (n + 1) else none

/-- The state when a collided beacon's slot has been judged, before a drop is counted. -/
def State.beaconJudged (s : State) (doom : Doom) (n : Nat) : State :=
  s.forgetCarried.setPort { s.port with beacon := afterAttempt doom n }

theorem State.collision_of_beacon {s : State} {bytes : List Byte} {doom : Doom} {n : Nat}
    (sending : s.port.tx = .sending ⟨.beacon, bytes, doom⟩) (slot : s.port.beacon = some n) :
    (Drops doom n → s.collision = (s.beaconJudged doom n).dropBeacon.afterCollision) ∧
      (¬ Drops doom n → s.collision = (s.beaconJudged doom n).afterCollision) := by
  unfold State.collision
  rw [sending]
  cases doom with
  | kept =>
    by_cases last : n = 8
    · refine ⟨fun _ => ?_, fun stays => absurd (.inl ⟨rfl, last⟩) stays⟩
      simp [State.retryBeacon, State.forgetCarried, slot, last, State.beaconJudged, afterAttempt]
    · refine ⟨fun dropped => ?_, fun _ => ?_⟩
      · simp [Drops, last] at dropped
      · simp [State.retryBeacon, State.forgetCarried, slot, last, State.beaconJudged, afterAttempt]
  | superseded => exact ⟨fun _ => rfl, fun stays => absurd (.inr rfl) stays⟩
  | withdrawn => exact ⟨fun dropped => by simp [Drops] at dropped, fun _ => rfl⟩

/-- What a port keeps and does after a collision, a waiting beacon admitted. -/
theorem Port.admitWaiting_fields (p : Port) : p.admitWaiting = { p with
    beaconWaiting := false, beacon := if p.beaconWaiting then some 1 else p.beacon } := by
  unfold Port.admitWaiting
  cases waiting : p.beaconWaiting
  · simp only [Bool.false_eq_true, if_false]; rw [← waiting]
  · rfl

theorem State.afterCollision_port (s : State) : s.afterCollision = s.setPort { s.port with
    beaconWaiting := false, beacon := if s.port.beaconWaiting then some 1 else s.port.beacon, line := .busy
    overlap := some .collided
    tx := if s.port.answers = [] ∧ (if s.port.beaconWaiting then some 1 else s.port.beacon) = none then .idle else .gap none } := by
  unfold State.afterCollision
  simp only [Port.admitWaiting_fields, Port.queueEmpty_iff]

/-- What a collision leaves of the port, whether the beacon was counted as dropped or not. -/
theorem State.collision_port {s u : State} {doom : Doom} {n failures : Nat} {standing : Bool}
    (port : u.port = { s.port with beacon := afterAttempt doom n, failures := failures, busyStanding := standing }) :
    let t := u.afterCollision
    t.port.beaconWaiting = false ∧ t.port.line = .busy ∧ t.port.overlap = some .collided ∧
      t.port.tx = (if t.port.answers = [] ∧ t.port.beacon = none then .idle else .gap none) ∧
      (s.port.beaconWaiting = true → t.port.beacon = some 1) ∧
      (s.port.beaconWaiting = false → t.port.beacon = afterAttempt doom n) ∧
      t.port.failures = failures ∧ t.port.answers = s.port.answers ∧ t.port.busyStanding = standing := by
  intro t
  have eq : t = _ := u.afterCollision_port
  rw [port] at eq
  rw [eq]
  exact ⟨rfl, rfl, rfl, rfl, fun waiting => if_pos waiting, fun none_ => if_neg (by simp [none_]), rfl, rfl, rfl⟩

/-- Settles O22: the beacon's slot is judged, a drop is counted, and the port goes on with what is left. -/
theorem collidedBeaconIsKeptOrDropped : Obligations.CollidedBeaconIsKeptOrDropped := by
  intro s bytes doom n sending slot
  obtain ⟨drops, stays⟩ := State.collision_of_beacon sending slot
  by_cases dropped : Drops doom n
  · obtain ⟨beside, port⟩ := (s.beaconJudged doom n).dropBeacon_beside
    obtain ⟨waiting, line, overlap, tx, admitted, beacon, failures, answers, standing⟩ := State.collision_port (s := s) (doom := doom) (n := n) port
    have ends : exec .collision s = .next (s.beaconJudged doom n).dropBeacon.afterCollision :=
      congrArg Host.Outcome.next (drops dropped)
    refine ⟨_, ends, ?_, ?_, ?_, waiting, line, overlap, tx, admitted, beacon, ?_, fun _ _ => failures,
      fun _ => failures, ?_, fun other => ?_, answers, fun _ fourth => ?_⟩
    · exact State.dropBeacon_carried (s := s.beaconJudged doom n) rfl
    · exact beside.view
    · exact beside.scanner
    · rintro rfl early
      obtain ⟨-, last⟩ | superseded := dropped
      · exact absurd last early
      · cases superseded
    · rintro rfl
      simp [Drops] at dropped
    · rw [State.dropBeacon_of_few (s := s.beaconJudged doom n) other]; rfl
    · have fifth := State.dropBeacon_of_fifth (s := s.beaconJudged doom n) fourth
      have raised : (s.beaconJudged doom n).dropBeacon.port.busyStanding = true := by
        rw [fifth, (State.raise_beside _ _ _).port]; rfl
      refine ⟨standing.trans raised, fun settled => ?_⟩
      have settled' : ((s.beaconJudged doom n).setPort { (s.beaconJudged doom n).port with failures := 5, busyStanding := true }).Settled :=
        settled.of_same rfl rfl
      rw [fifth]
      refine ⟨State.raise_raisedIn settled' FaultCode.trunkBusy_not_asks 0, fun few => ?_⟩
      have quiet := State.raise_of_room settled' FaultCode.trunkBusy_not_asks 0 (few.roomFor (by omega) _ _)
      exact ⟨quiet.step.alloc, quiet.step.writer⟩
  · obtain ⟨waiting, line, overlap, tx, admitted, beacon, failures, answers, standing⟩ :=
      State.collision_port (s := s) (u := s.beaconJudged doom n) (doom := doom) (n := n) rfl
    have ends : exec .collision s = .next (s.beaconJudged doom n).afterCollision := congrArg Host.Outcome.next (stays dropped)
    refine ⟨_, ends, rfl, rfl, rfl, waiting, line, overlap, tx, admitted, beacon, fun _ _ => ⟨failures, rfl⟩,
      fun kept last => absurd (.inl ⟨kept, last⟩) dropped, fun superseded => absurd (.inr superseded) dropped,
      fun _ => ⟨failures, rfl⟩, fun _ => rfl, answers, fun dropped' => absurd dropped' dropped⟩

/-! ### Clean frames (R8, R10, R16 to R18) -/

/-- What a port keeps and does after a clean frame. -/
theorem State.afterClean_spec (s : State) : s.afterClean = s.setPort { s.port with
    beaconWaiting := false, beacon := if s.port.beaconWaiting then some 1 else s.port.beacon, line := .idle, overlap := some .clean
    tx := if s.port.answers = [] ∧ (if s.port.beaconWaiting then some 1 else s.port.beacon) = none then .idle else .gap none } := by
  unfold State.afterClean
  dsimp only
  rw [Port.admitWaiting_fields]
  generalize (if s.port.beaconWaiting = true then some 1 else s.port.beacon) = beacon
  by_cases queued : s.port.answers = [] ∧ beacon = none
  · rw [if_pos queued, State.contend]
    simp [Port.queueEmpty, queued.1, queued.2, State.setPort]
  · rw [if_neg queued, State.contend_of_no_gap _ (by simp) rfl]
    · rfl
    · rw [← Bool.not_eq_true, Port.queueEmpty_iff]; exact queued

theorem mapEntries_getElem (f : FaultEntry → FaultEntry) (t : FaultTable) (p : Fin 24) : (mapEntries f t)[p] = t[p].map f := by
  rw [mapEntries, tab_getElem]

/-- A change of entries that keeps their keys leaves each where it is found. -/
theorem findEntry_mapEntries {f : FaultEntry → FaultEntry} (key : ∀ e, (f e).key = e.key) (t : FaultTable) (code : FaultCode)
    (subject : Nat) : findEntry (mapEntries f t) code subject = (findEntry t code subject).map fun x => (x.1, f x.2) := by
  have is_iff (e : FaultEntry) : (f e).Is code subject ↔ e.Is code subject := by
    rw [FaultEntry.is_iff_key, FaultEntry.is_iff_key, key]
  cases found : findEntry t code subject with
  | none =>
    refine findEntry_eq_none_iff.mpr fun p e held is => ?_
    rw [mapEntries_getElem] at held
    obtain ⟨g, there, rfl⟩ := Option.map_eq_some_iff.mp held
    exact findEntry_eq_none_iff.mp found p g there ((is_iff g).mp is)
  | some x =>
    obtain ⟨held, is, below⟩ := findEntry_eq_some_iff.mp found
    refine findEntry_eq_some_iff.mpr ⟨?_, (is_iff _).mpr is, fun q before g held => ?_⟩
    · rw [mapEntries_getElem, held]; rfl
    · rw [mapEntries_getElem] at held
      obtain ⟨g, there, rfl⟩ := Option.map_eq_some_iff.mp held
      exact fun is => below q before g there ((is_iff g).mp is)

/-- An entry after the credit of a clean beacon is spent (R152). -/
def FaultEntry.spent (carried : List (FaultCode × Nat)) (e : FaultEntry) : FaultEntry :=
  if (e.code, e.subject) ∈ carried then { e with credit := e.credit - 1 } else e

theorem FaultEntry.spent_key (carried : List (FaultCode × Nat)) (e : FaultEntry) : (e.spent carried).key = e.key := by
  unfold FaultEntry.spent; split <;> rfl

theorem spendCredits_spent (t : FaultTable) (carried : List (FaultCode × Nat)) :
    spendCredits t carried = mapEntries (FaultEntry.spent carried) t := by
  rw [spendCredits_eq]
  congr 1
  funext e
  simp [FaultEntry.spent, FaultEntry.key]

/-- The state of a clean beacon that has left the slot, before the count of failures is set to 0. -/
def State.beaconSpent (s : State) : State := (s.spendCarried).setPort { s.port with beacon := none }

theorem State.beaconDelivered_of_not_standing {s : State} (quiet : s.port.busyStanding = false) :
    s.beaconDelivered = s.setPort { s.port with failures := 0, busyStanding := false } := by
  simp [State.beaconDelivered, quiet]

theorem State.beaconDelivered_of_standing {s : State} (standing : s.port.busyStanding = true) :
    s.beaconDelivered = (s.setPort { s.port with failures := 0, busyStanding := false }).clear .trunkBusy 0 := by
  simp [State.beaconDelivered, standing]

/-- A clean beacon touches nothing but the port, and what a clear may write. -/
theorem State.beaconDelivered_beside (s : State) : (s.setPort s.beaconDelivered.port).Beside s.beaconDelivered := by
  rw [State.beaconDelivered_port]
  cases standing : s.port.busyStanding with
  | false => rw [State.beaconDelivered_of_not_standing standing]; exact .refl _
  | true => rw [State.beaconDelivered_of_standing standing]; exact State.clear_beside _ _ _

theorem State.beaconDelivered_carried {s : State} (none_ : s.composer.carried = []) : s.beaconDelivered.composer.carried = [] := by
  cases standing : s.port.busyStanding with
  | false => rw [State.beaconDelivered_of_not_standing standing]; exact none_
  | true =>
    rw [State.beaconDelivered_of_standing standing]
    have x := carriedNone_changes.clear (s := s.setPort { s.port with failures := 0, busyStanding := false }) none_ .trunkBusy 0
    exact x

/-- A clear of an entry after the credit of a clean beacon is spent. -/
theorem FaultEntry.cleared_spent (carried : List (FaultCode × Nat)) (e : FaultEntry) : (e.spent carried).cleared =
    match e.state with
    | .activeUnacked => some { e with state := .clearedUnacked, credit := 3 }
    | .activeAcked => none
    | .clearedUnacked => some (e.spent carried) := by
  by_cases carries : (e.code, e.subject) ∈ carried <;>
    simp only [FaultEntry.spent, carries, if_true, if_false, FaultEntry.cleared] <;> cases e.state <;> rfl

/-- A clear after a change of entries that keeps their keys, position by position. -/
theorem tableClear_mapEntries_getElem {f : FaultEntry → FaultEntry} (key : ∀ e, (f e).key = e.key) (t : FaultTable) (code : FaultCode)
    (subject : Nat) (p : Fin 24) : (tableClear (mapEntries f t) code subject)[p] =
      if (findEntry t code subject).map Prod.fst = some p then (t[p].map f).bind FaultEntry.cleared else t[p].map f := by
  have found' := findEntry_mapEntries key t code subject
  cases found : findEntry t code subject with
  | none =>
    rw [found] at found'
    rw [tableClear_of_absent found', mapEntries_getElem]
    exact (if_neg (by simp)).symm
  | some x =>
    obtain ⟨q, e⟩ := x
    rw [found] at found'
    rw [tableClear_of_found found', Vector.getElem_set_fin, mapEntries_getElem]
    by_cases here : q = p
    · subst here
      simp [(findEntry_eq_some_iff.mp found).1]
    · simp [here]

/-- Settles O23: what is on the line leaves the queue, and the port goes on with what is left. -/
theorem cleanFrameLeavesTheQueue : Obligations.CleanFrameLeavesTheQueue := by
  intro s bytes doom
  refine ⟨fun a rest sending answers => ?_, fun sending => ?_⟩
  · have ends : s.cleanFrame = (s.setPort { s.port with answers := s.port.answers.drop 1 }).afterClean := by
      simp [State.cleanFrame, sending]
    rw [answers, List.drop_succ_cons, List.drop_zero, State.afterClean_spec] at ends
    exact ⟨_, congrArg Host.Outcome.next ends, rfl, rfl, rfl, rfl, rfl, rfl, rfl⟩
  · have ends : s.cleanFrame = s.beaconSpent.beaconDelivered.afterClean := by simp [State.cleanFrame, sending, State.beaconSpent]
    have port : s.beaconSpent.beaconDelivered.port = { s.port with beacon := none, failures := 0, busyStanding := false } := by
      rw [State.beaconDelivered_port]; rfl
    have table : s.beaconSpent.supervisor.table = mapEntries (FaultEntry.spent s.composer.carried) s.supervisor.table :=
      spendCredits_spent _ _
    rw [State.afterClean_spec] at ends
    refine ⟨_, congrArg Host.Outcome.next ends, ?_⟩
    simp only [State.setPort_port, State.setPort_composer, State.setPort_view, State.setPort_scanner, State.setPort_alloc,
      State.setPort_writer, State.setPort_supervisor]
    rw [port]
    refine ⟨rfl, rfl, rfl, rfl, rfl, rfl, State.beaconDelivered_carried rfl, s.beaconSpent.beaconDelivered_beside.view,
      s.beaconSpent.beaconDelivered_beside.scanner, fun quiet => ?_, fun standing settled => ?_⟩
    · have same := State.beaconDelivered_of_not_standing (s := s.beaconSpent) quiet
      exact ⟨(congrArg State.alloc same :), (congrArg State.writer same :), fun p =>
        (congrArg (fun u : State => u.supervisor.table[p]) same).trans
          ((congrArg (fun t : FaultTable => t[p]) table).trans (mapEntries_getElem _ _ p))⟩
    · have settled' : (s.beaconSpent.setPort { s.beaconSpent.port with failures := 0, busyStanding := false }).Settled :=
        ⟨(settled.follow.spendCarried).of_same rfl rfl rfl rfl, settled.taken⟩
      have quiet := State.clear_of_not_asks settled' FaultCode.trunkBusy_not_asks 0
      rw [← State.beaconDelivered_of_standing (s := s.beaconSpent) standing] at quiet
      have after (p : Fin 24) : s.beaconSpent.beaconDelivered.supervisor.table[p] = _ :=
        (congrArg (fun x : Supervisor => x.table[p]) quiet.supervisor).trans
          ((congrArg (fun t : FaultTable => (tableClear t .trunkBusy 0)[p]) table).trans
            (tableClear_mapEntries_getElem (FaultEntry.spent_key _) _ _ _ p))
      refine ⟨quiet.step.alloc, quiet.step.writer, fun p other => (after p).trans (if_neg fun here => ?_),
        fun p e found => (after p).trans ?_⟩
      · obtain ⟨⟨q, e⟩, found, rfl⟩ := Option.map_eq_some_iff.mp here
        exact other e found
      · rw [found, Option.map_some, if_pos rfl, (findEntry_eq_some_iff.mp found).1]
        exact FaultEntry.cleared_spent _ e

end Sys2Proof.Machine
end

section
/-! PROOFS. FAULT-ACK: what an acknowledgement of one entry or of all does to the table, and the erase that it asks for. -/

namespace Sys2Proof.Machine

/-! ### What an acknowledgement leaves asked -/

/-- The ack-cleared codes ask nothing of the carriers. -/
theorem FaultCode.not_asks_of_ackCleared {code : FaultCode} (h : code.ackCleared = true) : ¬ code.Asks := by
  unfold FaultCode.Asks
  revert h
  cases code <;> decide

theorem FaultEntry.ask_acknowledged (e : FaultEntry) : askAt e.acknowledged = e.ask := by
  unfold FaultEntry.acknowledged
  cases state : e.state with
  | activeUnacked =>
    dsimp only
    split
    next removed => exact (FaultEntry.ask_of_not_asks (FaultCode.not_asks_of_ackCleared removed)).symm
    next => exact FaultEntry.ask_congr rfl (by simp [FaultEntry.active, state])
  | clearedUnacked => simp [askAt, FaultEntry.ask, FaultEntry.active, state]
  | activeAcked => rfl

theorem sameAsks_tableAckAll (t : FaultTable) : SameAsks t (tableAckAll t) := by
  intro p
  rw [tableAckAll_getElem]
  cases t[p] with
  | none => rfl
  | some e => exact e.ask_acknowledged

theorem tableAck_of_found {t : FaultTable} {code : FaultCode} {subject : Nat} {p : Fin 24} {e : FaultEntry}
    (found : findEntry t code subject = some (p, e)) : tableAck t code subject = t.set p e.acknowledged := by
  unfold tableAck; rw [found]

theorem tableAck_of_absent {t : FaultTable} {code : FaultCode} {subject : Nat} (absent : findEntry t code subject = none) :
    tableAck t code subject = t := by
  unfold tableAck; rw [absent]

theorem sameAsks_tableAck (t : FaultTable) (code : FaultCode) (subject : Nat) : SameAsks t (tableAck t code subject) := by
  cases found : findEntry t code subject with
  | none => rw [tableAck_of_absent found]; exact .refl t
  | some x =>
    rw [tableAck_of_found found]
    refine .set ?_
    rw [(findEntry_eq_some_iff.mp found).1]
    exact x.2.ask_acknowledged

/-- A change that asks nothing new, with whatever it asked of the store controller. -/
theorem State.handOutputs_settle_of_sameAsks {s t : State} (settled : s.Settled) (alloc : t.alloc = s.alloc)
    (same : SameAsks s.supervisor.table t.supervisor.table) :
    t.handOutputs.settle = t.setSupervisor { t.supervisor with alarm := alarmLevel t.supervisor.table } := by
  rw [State.handOutputs_of_sameAsks settled.follow alloc same]
  exact State.settle_of_not_due _ ((congrArg Alloc.recomputeDue alloc).trans settled.taken)

/-! ### The erase that an acknowledgement asks for (R136) -/

theorem priorTripsRemoved_eq_zero_iff {t u : FaultTable} :
    priorTripsRemoved t u = 0 ↔ ∀ (p : Fin 24) (e : FaultEntry), t[p] = some e → e.code = .priorTrip → u[p] ≠ none := by
  rw [priorTripsRemoved, List.countP_eq_zero]
  simp only [List.mem_finRange, forall_const]
  refine forall_congr' fun p => ?_
  cases t[p] with
  | none => simp
  | some e => cases u[p] <;> simp

/-- A removed PRIOR_TRIP asks for a crash erase. -/
theorem State.erasesFor_of_removed {s : State} {before : FaultTable} {p : Fin 24} {e : FaultEntry} (held : before[p] = some e)
    (prior : e.code = .priorTrip) (removed : s.supervisor.table[p] = none) : EraseAnswered s.ctl (s.erasesFor before).ctl := by
  have some_ : priorTripsRemoved before s.supervisor.table ≠ 0 := fun none_ =>
    priorTripsRemoved_eq_zero_iff.mp none_ p e held prior removed
  obtain ⟨n, count⟩ := Nat.exists_eq_succ_of_ne_zero some_
  rw [State.erasesFor, count, StoreCtl.requestErases_succ]
  exact s.ctl.requestErase_answered

theorem State.erasesFor_of_none_removed {s : State} {before : FaultTable}
    (kept : ∀ (p : Fin 24) (e : FaultEntry), before[p] = some e → e.code = .priorTrip → s.supervisor.table[p] ≠ none) :
    (s.erasesFor before).ctl = s.ctl := by
  rw [State.erasesFor, priorTripsRemoved_eq_zero_iff.mpr kept]; rfl

/-! ### FAULT-ACK ALL (R134, R137) -/

/-- No entry is left that holds ALARM. -/
theorem alarmLevel_tableAckAll (t : FaultTable) : alarmLevel (tableAckAll t) = false := by
  rw [← Bool.not_eq_true, alarmLevel_iff]
  rintro ⟨p, e, held, unacked, -⟩
  rw [tableAckAll_getElem, Option.bind_eq_some_iff] at held
  obtain ⟨f, -, acknowledged⟩ := held
  unfold FaultEntry.acknowledged at acknowledged
  split at acknowledged
  · split at acknowledged <;> cases acknowledged; cases unacked
  · cases acknowledged
  next state => cases acknowledged; cases state.symm.trans unacked

/-- The state after FAULT-ACK ALL. -/
def State.ackedAll (s : State) : State :=
  (((s.setComposer { s.composer with carried := keepCarried s.supervisor.table (tableAckAll s.supervisor.table) s.composer.carried }).setCtl
    (s.ctl.requestErases (priorTripsRemoved s.supervisor.table (tableAckAll s.supervisor.table)))).setSupervisor
      { s.supervisor with
        table := tableAckAll s.supervisor.table, alarm := false, snapshot := none, sinceSnapshot := 0, overflow := false }).setScanner
    { s.scanner with releaseNotice := s.scanner.releaseNotice || s.scanner.vswrTrip }

theorem State.acknowledge_all {s : State} (settled : s.Settled) : s.acknowledge .all = s.ackedAll := by
  have settles := State.handOutputs_settle_of_sameAsks (t := (((s.setTable (tableAckAll s.supervisor.table)).erasesFor
    s.supervisor.table).setSupervisor { ((s.setTable (tableAckAll s.supervisor.table)).erasesFor s.supervisor.table).supervisor with
      snapshot := none, sinceSnapshot := 0, overflow := false })) settled rfl (sameAsks_tableAckAll _)
  refine (congrArg State.notifyScanner settles).trans ?_
  have quiet := alarmLevel_tableAckAll s.supervisor.table
  simp only [State.setSupervisor_supervisor, State.setTable, State.erasesFor, State.setCtl_supervisor, quiet]
  rfl

/-- Settles O43: an acknowledgement asks nothing new of the carriers, and only what it removes of PRIOR_TRIP asks for an erase. -/
theorem faultAckAllAcknowledgesEveryEntry : Obligations.FaultAckAllAcknowledgesEveryEntry := by
  intro s source destination rest delivered accepted settled
  have ends : s.deliverDirective source destination (2#8 :: rest) = s.ackedAll :=
    (State.deliverDirective_of_accepted delivered accepted).trans (State.acknowledge_all settled)
  refine ⟨_, congrArg Host.Outcome.next ends, fun p => ?_, rfl, rfl, rfl, rfl, ?_, fun none_ => ?_, rfl, rfl, rfl, rfl, rfl, rfl,
    rfl, rfl⟩
  · refine (tableAckAll_getElem s.supervisor.table p).trans ?_
    cases s.supervisor.table[p] with
    | none => rfl
    | some e => rfl
  · rintro ⟨p, e, held, prior, unacked⟩
    have removed : (tableAckAll s.supervisor.table)[p] = none := by
      rw [tableAckAll_getElem, held, Option.bind_some, FaultEntry.acknowledged, unacked, prior]; rfl
    exact State.erasesFor_of_removed (s := s.setTable (tableAckAll s.supervisor.table)) held prior removed
  · exact State.erasesFor_of_none_removed (s := s.setTable (tableAckAll s.supervisor.table)) fun p e held prior =>
      absurd prior (none_ p e held)

/-! ### FAULT-ACK ONE (R137) -/

theorem FaultCode.ofNumber_eq_none {number : Nat} (outside : ∀ code : FaultCode, code.number ≠ number) :
    FaultCode.ofNumber number = none := by
  rw [FaultCode.ofNumber, List.find?_eq_none]
  exact fun code _ same => outside code (by simpa using same)

theorem FaultCode.ofNumber_number (code : FaultCode) : FaultCode.ofNumber code.number = some code := by
  cases code <;> decide

theorem FaultCode.number_eq_vswrTrip {code : FaultCode} : code.number = FaultCode.vswrTrip.number ↔ code = .vswrTrip := by
  cases code <;> decide

/-- The state after FAULT-ACK ONE of a code of the catalog. -/
def State.ackedOne (s : State) (code : FaultCode) (subject : Nat) : State :=
  let t := tableAck s.supervisor.table code subject
  (((s.setComposer { s.composer with carried := keepCarried s.supervisor.table t s.composer.carried }).setCtl
    (s.ctl.requestErases (priorTripsRemoved s.supervisor.table t))).setSupervisor
      { s.supervisor with table := t, alarm := alarmLevel t }).setScanner
    { s.scanner with releaseNotice := s.scanner.releaseNotice || (decide (code = .vswrTrip ∧ subject = 0) && s.scanner.vswrTrip) }

theorem State.acknowledge_one {s : State} (settled : s.Settled) (code : FaultCode) (subject : Nat) :
    s.acknowledge (.one code.number subject) = s.ackedOne code subject := by
  have settles := State.handOutputs_settle_of_sameAsks (t := ((s.setTable (tableAck s.supervisor.table code subject)).erasesFor
    s.supervisor.table)) settled rfl (sameAsks_tableAck _ _ _)
  have opened : s.ackOneOnly code.number subject =
      ((s.setTable (tableAck s.supervisor.table code subject)).erasesFor s.supervisor.table).handOutputs := by
    rw [State.ackOneOnly, FaultCode.ofNumber_number]
  simp only [State.acknowledge, FaultCode.number_eq_vswrTrip]
  rw [opened, settles]
  by_cases trip : code = .vswrTrip ∧ subject = 0
  · rw [if_pos trip, State.ackedOne, decide_eq_true trip]; rfl
  · rw [if_neg trip, State.ackedOne, decide_eq_false trip, Bool.false_and, Bool.or_false]; rfl

/-- Settles O44: of one entry alone. -/
theorem faultAckOneActsOnItsEntry : Obligations.FaultAckOneActsOnItsEntry := by
  refine ⟨fun s source destination rest code subject delivered accepted settled => ?_,
    fun s source destination rest number subject delivered accepted settled outside => ?_⟩
  · have ends : s.deliverDirective source destination (2#8 :: rest) = s.ackedOne code subject :=
      (State.deliverDirective_of_accepted delivered accepted).trans (State.acknowledge_one settled code subject)
    refine ⟨_, congrArg Host.Outcome.next ends, fun p e found => ?_, fun absent => ?_, fun other => ?_, rfl, rfl, rfl, rfl, rfl, rfl,
      rfl, rfl, rfl⟩
    · have table : (s.ackedOne code subject).supervisor.table = s.supervisor.table.set p e.acknowledged := tableAck_of_found found
      have held := (findEntry_eq_some_iff.mp found).1
      refine ⟨fun unacked => ?_, fun cleared _ => ?_, fun acked => ?_, fun prior unacked => ?_⟩
      · rw [table, FaultEntry.acknowledged, unacked]
      · rw [table, FaultEntry.acknowledged, cleared]
      · have same : e.acknowledged = s.supervisor.table[p] := by rw [held, FaultEntry.acknowledged, acked]
        rw [table, same, Vector.set_same]
      · have is := (findEntry_eq_some_iff.mp found).2.1
        have removed : (tableAck s.supervisor.table code subject)[p] = none := by
          rw [tableAck_of_found found, Vector.getElem_set_fin, if_pos rfl, FaultEntry.acknowledged, unacked, is.1, prior]; rfl
        exact State.erasesFor_of_removed (s := s.setTable (tableAck s.supervisor.table code subject)) held (is.1.trans prior) removed
    · have kept := tableAck_of_absent absent
      refine ⟨?_, State.erasesFor_of_none_removed (s := s.setTable (tableAck s.supervisor.table code subject)) fun p e held _ => ?_⟩
      · simp only [State.ackedOne, kept, State.setScanner_supervisor, State.setSupervisor_supervisor, ← settled.follow.alarm]
      · rw [State.setTable, State.setSupervisor_supervisor, kept, held]; simp
    · refine State.erasesFor_of_none_removed (s := s.setTable (tableAck s.supervisor.table code subject)) fun p e held prior => ?_
      change (tableAck s.supervisor.table code subject)[p] ≠ none
      cases found : findEntry s.supervisor.table code subject with
      | none => rw [tableAck_of_absent found, held]; simp
      | some x =>
        rw [tableAck_of_found found, Vector.getElem_set_fin, if_neg, held]
        · simp
        · rintro rfl
          obtain ⟨held', is, -⟩ := findEntry_eq_some_iff.mp found
          cases held.symm.trans held'
          exact other (is.1.symm.trans prior)
  · have ends : s.deliverDirective source destination (2#8 :: rest) = s := by
      rw [State.deliverDirective_of_accepted delivered accepted]
      simp only [State.applyDirective, State.acknowledge, State.ackOneOnly, FaultCode.ofNumber_eq_none outside,
        State.settle_of_not_due s settled.taken]
      exact if_neg fun same => outside .vswrTrip same.1.symm
    exact congrArg Host.Outcome.next ends

end Sys2Proof.Machine
end

section
/-! PROOFS. One recompute taken whole: its raises and clears of FLOOR_SHED ask nothing new of the carriers, so that with room in the fault
table no further recompute follows it. -/

namespace Sys2Proof.Machine

theorem FaultCode.floorShed_not_asks : ¬ FaultCode.floorShed.Asks := by unfold FaultCode.Asks; decide

theorem State.Settled.setMarks {s : State} (h : s.Settled) (marks : Vector Bool 8) :
    (s.setAlloc { s.alloc with shedMarks := marks }).Settled := ⟨h.follow.of_same rfl rfl rfl rfl, h.taken⟩

theorem State.TableStep.setAlloc {s t : State} (h : s.TableStep t) (x : Alloc) : (s.setAlloc x).TableStep (t.setAlloc x) :=
  ⟨congrArg (fun u : State => u.setAlloc x) h.rest⟩

/-- What the raises and clears of a recompute did for the slots listed: `s` is the state after its last step, `before` the slots from
before it. -/
structure State.FloorsJudged (s t : State) (before : Vector SlotState 8) (slots : List (Fin 8)) : Prop where
  step : (s.setAlloc { s.alloc with shedMarks := t.alloc.shedMarks }).TableStep t
  settled : t.Settled
  shed : ∀ i ∈ slots, s.alloc.slots[i] = .shed → before[i] ≠ .shed →
    t.alloc.shedMarks[i] = true ∧ RaisedAmong s.supervisor.table t.supervisor.table .floorShed i.val s.stamp
  admitted : ∀ i ∈ slots, s.alloc.slots[i].isActive = true → s.alloc.shedMarks[i] = true →
    t.alloc.shedMarks[i] = false ∧ ClearedIn s.supervisor.table t.supervisor.table .floorShed i.val
  kept : ∀ i : Fin 8, (i ∈ slots → (s.alloc.slots[i] = .shed → before[i] = .shed) ∧
      (s.alloc.slots[i].isActive = true → s.alloc.shedMarks[i] = false)) →
    t.alloc.shedMarks[i] = s.alloc.shedMarks[i] ∧
      findEntry t.supervisor.table .floorShed i.val = findEntry s.supervisor.table .floorShed i.val
  others : ∀ (code : FaultCode) (subject : Nat), code ≠ .floorShed ∨ 8 ≤ subject →
    findEntry t.supervisor.table code subject = findEntry s.supervisor.table code subject
  room : ∀ n, AtMost n s.supervisor.table → AtMost (n + slots.length) t.supervisor.table
  distinct : t.EntriesDistinct

/-- What the raise or clear for one slot did. -/
structure State.FloorJudged (s t : State) (before : Vector SlotState 8) (slot : Fin 8) : Prop where
  step : (s.setAlloc { s.alloc with shedMarks := t.alloc.shedMarks }).TableStep t
  settled : t.Settled
  shed : s.alloc.slots[slot] = .shed → before[slot] ≠ .shed →
    t.alloc.shedMarks[slot] = true ∧ RaisedAmong s.supervisor.table t.supervisor.table .floorShed slot.val s.stamp
  admitted : s.alloc.slots[slot].isActive = true → s.alloc.shedMarks[slot] = true →
    t.alloc.shedMarks[slot] = false ∧ ClearedIn s.supervisor.table t.supervisor.table .floorShed slot.val
  stays : (s.alloc.slots[slot] = .shed → before[slot] = .shed) →
    (s.alloc.slots[slot].isActive = true → s.alloc.shedMarks[slot] = false) → t = s
  marks : ∀ i : Fin 8, i ≠ slot → t.alloc.shedMarks[i] = s.alloc.shedMarks[i]
  others : ∀ (code : FaultCode) (subject : Nat), ¬(code = .floorShed ∧ subject = slot.val) →
    findEntry t.supervisor.table code subject = findEntry s.supervisor.table code subject
  grows : ∀ n, AtMost n s.supervisor.table → AtMost (n + 1) t.supervisor.table
  distinct : t.EntriesDistinct

/-- The slot stays as it is, enters SHED, or is admitted with its mark standing (R89). -/
theorem State.floorShed_cases (s : State) (before : Vector SlotState 8) (slot : Fin 8) :
    (s.alloc.slots[slot] = .shed ∧ before[slot] ≠ .shed ∧ s.floorShed before slot =
      (s.setAlloc { s.alloc with shedMarks := s.alloc.shedMarks.set slot true }).raiseOnly .floorShed slot.val) ∨
    (s.alloc.slots[slot].isActive = true ∧ s.alloc.shedMarks[slot] = true ∧ s.floorShed before slot =
      (s.setAlloc { s.alloc with shedMarks := s.alloc.shedMarks.set slot false }).clearOnly .floorShed slot.val) ∨
    ((s.alloc.slots[slot] = .shed → before[slot] = .shed) ∧
      (s.alloc.slots[slot].isActive = true → s.alloc.shedMarks[slot] = false) ∧ s.floorShed before slot = s) := by
  unfold State.floorShed
  dsimp only
  by_cases entered : s.alloc.slots[slot] = .shed ∧ before[slot] ≠ .shed
  · exact .inl ⟨entered.1, entered.2, if_pos (by simpa using entered)⟩
  · rw [if_neg (by simpa using entered)]
    by_cases marked : s.alloc.slots[slot].isActive = true ∧ s.alloc.shedMarks[slot] = true
    · exact .inr (.inl ⟨marked.1, marked.2, if_pos (by simpa using marked)⟩)
    · refine .inr (.inr ⟨fun shed => ?_, fun active => ?_, if_neg (by simpa using marked)⟩)
      · by_contra was
        exact entered ⟨shed, was⟩
      · by_contra mark
        exact marked ⟨active, by simpa using mark⟩

theorem SlotState.isActive_of_shed {x : SlotState} (h : x = .shed) : x.isActive = false := by rw [h]; rfl

theorem State.floorShed_judged {s : State} (settled : s.Settled) (distinct : s.EntriesDistinct) {slot : Fin 8}
    (here : RoomFor s.supervisor.table .floorShed slot.val) (before : Vector SlotState 8) :
    s.FloorJudged (s.floorShed before slot) before slot := by
  obtain ⟨shed, was, eq⟩ | ⟨active, mark, eq⟩ | ⟨notShed, notMarked, eq⟩ := s.floorShed_cases before slot
  · have quiet := State.raiseOnly_of_room (s := s.setAlloc { s.alloc with shedMarks := s.alloc.shedMarks.set slot true })
      (settled.setMarks _) FaultCode.floorShed_not_asks slot.val here
    have marks : (s.floorShed before slot).alloc.shedMarks = s.alloc.shedMarks.set slot true := by rw [eq, quiet.step.alloc]; rfl
    have table : (s.floorShed before slot).supervisor.table = (tableRaise s.supervisor.table .floorShed slot.val s.stamp).table := by
      rw [eq, quiet.supervisor]; rfl
    rw [← eq] at quiet
    refine ⟨by rw [marks]; exact quiet.step, quiet.settled, fun _ _ => ⟨?_, ?_⟩, fun on => ?_, fun stays => ?_, fun i other => ?_,
      fun code subject other => ?_, fun n atMost => ?_, ?_⟩
    · rw [marks, Vector.getElem_set_fin, if_pos rfl]
    · rw [table]; exact (raisedIn_tableRaise _ _ _ _).among here
    · rw [SlotState.isActive_of_shed shed] at on; cases on
    · exact absurd (stays shed) was
    · rw [marks, Vector.getElem_set_fin, if_neg other.symm]
    · rw [table]; exact findEntry_tableRaise_of_other _ here other
    · rw [table]; exact atMost.tableRaise _ _ _
    · rw [State.EntriesDistinct, table]; exact tableRaise_distinct distinct _ _ _
  · have quiet := State.clearOnly_of_not_asks (s := s.setAlloc { s.alloc with shedMarks := s.alloc.shedMarks.set slot false })
      (settled.setMarks _) FaultCode.floorShed_not_asks slot.val
    have marks : (s.floorShed before slot).alloc.shedMarks = s.alloc.shedMarks.set slot false := by rw [eq, quiet.step.alloc]; rfl
    have table : (s.floorShed before slot).supervisor.table = tableClear s.supervisor.table .floorShed slot.val := by
      rw [eq, quiet.supervisor]; rfl
    rw [← eq] at quiet
    refine ⟨by rw [marks]; exact quiet.step, quiet.settled, fun shed => ?_, fun _ _ => ⟨?_, ?_⟩, fun _ unmarked => ?_, fun i other => ?_,
      fun code subject other => ?_, fun n atMost => ?_, ?_⟩
    · rw [SlotState.isActive_of_shed shed] at active; cases active
    · rw [marks, Vector.getElem_set_fin, if_pos rfl]
    · rw [table]; exact clearedIn_tableClear distinct _ _
    · cases (unmarked active).symm.trans mark
    · rw [marks, Vector.getElem_set_fin, if_neg other.symm]
    · rw [table]; exact findEntry_tableClear_of_other other
    · rw [table]; exact (atMost.tableClear _ _).mono (by omega)
    · rw [State.EntriesDistinct, table]; exact (tableClear_keys _ _ _).distinct distinct
  · rw [eq]
    refine ⟨.refl s, settled, fun shed was => absurd (notShed shed) was, fun active mark => ?_, fun _ _ => rfl, fun _ _ => rfl,
      fun _ _ _ => rfl, fun _ h => AtMost.mono h (by omega), distinct⟩
    cases (notMarked active).symm.trans mark

/-- R89 for the slots of a list, with room in the table for a raise for each. -/
theorem State.floorsShed_judged {s : State} (settled : s.Settled) (distinct : s.EntriesDistinct) (before : Vector SlotState 8)
    {slots : List (Fin 8)} (once : slots.Nodup) {n : Nat} (room : AtMost n s.supervisor.table) (few : n + slots.length ≤ 24) :
    s.FloorsJudged (s.floorsShed before slots) before slots := by
  induction slots generalizing s n with
  | nil => exact ⟨.refl s, settled, by simp, by simp, fun _ _ => ⟨rfl, rfl⟩, fun _ _ _ => rfl, fun _ => id, distinct⟩
  | cons slot rest ih =>
    rw [List.length_cons] at few
    obtain ⟨fresh, once⟩ := List.nodup_cons.mp once
    have first := State.floorShed_judged settled distinct (slot := slot) (room.roomFor (by omega) _ _) before
    have later := ih first.settled first.distinct once (first.grows n room) (by omega)
    have slots_same : (s.floorShed before slot).alloc.slots = s.alloc.slots := by rw [first.step.alloc]; rfl
    have stamp_same : (s.floorShed before slot).stamp = s.stamp := first.step.stamp
    have head := later.kept slot fun mem => absurd mem fresh
    have ne_slot {i : Fin 8} (mem : i ∈ rest) : i ≠ slot := fun same => fresh (same ▸ mem)
    have entry_same {i : Fin 8} (other : i ≠ slot) : findEntry (s.floorShed before slot).supervisor.table .floorShed i.val =
        findEntry s.supervisor.table .floorShed i.val := first.others _ _ fun same => other (Fin.ext same.2)
    unfold State.floorsShed
    refine ⟨?_, later.settled, fun i mem shed was => ?_, fun i mem active mark => ?_, fun i stays => ?_, fun code subject other => ?_,
      fun n few => (later.room _ (first.grows n few)).mono (by rw [List.length_cons]; omega), later.distinct⟩
    · have moved := (first.step.setAlloc { (s.floorShed before slot).alloc with
        shedMarks := ((s.floorShed before slot).floorsShed before rest).alloc.shedMarks }).trans later.step
      rw [first.step.alloc] at moved
      exact moved
    · obtain rfl | mem := List.mem_cons.mp mem
      · obtain ⟨mark, raised⟩ := first.shed shed was
        exact ⟨head.1.trans mark, raised.of_found rfl head.2⟩
      · obtain ⟨mark, raised⟩ := later.shed i mem (by rw [slots_same]; exact shed) was
        exact ⟨mark, stamp_same ▸ raised.of_found (entry_same (ne_slot mem)).symm rfl⟩
    · obtain rfl | mem := List.mem_cons.mp mem
      · obtain ⟨gone, cleared⟩ := first.admitted active mark
        exact ⟨head.1.trans gone, cleared.of_found rfl head.2⟩
      · obtain ⟨gone, cleared⟩ := later.admitted i mem (by rw [slots_same]; exact active)
          (by rw [first.marks i (ne_slot mem)]; exact mark)
        exact ⟨gone, cleared.of_found (entry_same (ne_slot mem)).symm rfl⟩
    · by_cases here : i = slot
      · subst here
        obtain ⟨notShed, notMarked⟩ := stays (List.mem_cons_self ..)
        rw [first.stays notShed notMarked] at head ⊢
        exact head
      · obtain ⟨mark, entry⟩ := later.kept i fun mem => by
          rw [slots_same, first.marks i here]; exact stays (List.mem_cons_of_mem _ mem)
        exact ⟨mark.trans (first.marks i here), entry.trans (entry_same here)⟩
    · refine (later.others code subject other).trans (first.others code subject ?_)
      rintro ⟨rfl, rfl⟩
      obtain different | large := other
      · exact different rfl
      · omega

/-! ### The recompute with its raises and clears -/

/-- With room in the table one recompute is taken. -/
theorem State.settle_of_due {s : State} (follow : s.OutputsFollow) (distinct : s.EntriesDistinct)
    (room : AtMost 16 s.supervisor.table) (due : s.alloc.recomputeDue = true) :
    s.reallocate.FloorsJudged s.settle s.alloc.slots (List.finRange 8) := by
  have settled : s.reallocate.Settled := ⟨follow.reallocate, rfl⟩
  have judged : s.reallocate.FloorsJudged s.recompute s.alloc.slots (List.finRange 8) := State.floorsShed_judged settled distinct s.alloc.slots (List.nodup_finRange 8) room (by simp)
  have settles : s.settle = s.recompute := by
    rw [State.settle, State.settleFuel, if_pos due, State.settleFuel, if_neg]
    rw [judged.settled.taken]; exact Bool.false_ne_true
  rw [settles]
  exact judged

theorem appliedCode_of_inactive {before : SlotState} (off : before.isActive = false) (floor target : Nat) :
    appliedCode before floor target = floor := by
  cases before with
  | active => cases off
  | _ => rfl

/-- What `OneRecompute` says rests on the slots, the marks and the entries of FLOOR_SHED. -/
theorem State.OneRecompute.congr {s t u : State} (h : s.OneRecompute t) (alloc : u.alloc = t.alloc)
    (found : ∀ subject, findEntry u.supervisor.table .floorShed subject = findEntry t.supervisor.table .floorShed subject) :
    s.OneRecompute u where
  applied i c target applied config active := h.applied i c target applied config (alloc ▸ active)
  shed i shed was := by
    rw [alloc] at shed ⊢
    exact (h.shed i shed was).imp id fun raised => raised.of_found rfl (found _)
  admitted i active mark := by
    rw [alloc] at active ⊢
    exact (h.admitted i active mark).imp id fun cleared => cleared.of_found rfl (found _)
  kept i notShed notMarked := by
    rw [alloc] at notShed notMarked ⊢
    exact (h.kept i notShed notMarked).imp id fun entry => (found _).trans entry

/-- A state from which a recompute is due agrees with `s` in what `OneRecompute` compares. -/
structure State.BeforeRecompute (s u : State) : Prop where
  cfg : u.cfg = s.cfg
  slots : u.alloc.slots = s.alloc.slots
  marks : u.alloc.shedMarks = s.alloc.shedMarks
  stamp : u.stamp = s.stamp
  found : ∀ i : Fin 8, findEntry u.supervisor.table .floorShed i.val = findEntry s.supervisor.table .floorShed i.val

/-- What a recompute that is due makes of the applied codes, the marks and FLOOR_SHED (R89, R93). -/
theorem State.BeforeRecompute.oneRecompute {s u t : State} (before : s.BeforeRecompute u)
    (judged : u.reallocate.FloorsJudged t u.alloc.slots (List.finRange 8)) : s.OneRecompute t := by
  have slots : t.alloc.slots = (recomputed u.cfg u.alloc).slots := by rw [judged.step.alloc]; rfl
  have stamp : u.reallocate.stamp = s.stamp := before.stamp
  have marks (i : Fin 8) : u.reallocate.alloc.shedMarks[i] = s.alloc.shedMarks[i] :=
    congrArg (fun v : Vector Bool 8 => v[i]) before.marks
  have was (i : Fin 8) : u.alloc.slots[i] = s.alloc.slots[i] := congrArg (fun v : Vector SlotState 8 => v[i]) before.slots
  have now (i : Fin 8) : u.reallocate.alloc.slots[i] = t.alloc.slots[i] :=
    congrArg (fun v : Vector SlotState 8 => v[i]) slots.symm
  have found (i : Fin 8) : findEntry u.reallocate.supervisor.table .floorShed i.val = findEntry s.supervisor.table .floorShed i.val :=
    before.found i
  refine ⟨fun i c target applied config active => ?_, fun i shed notBefore => ?_, fun i active mark => ?_, fun i notShed notMarked => ?_⟩
  · rw [slots] at active
    obtain ⟨c', config', -, code⟩ := recomputed_active active
    rw [before.cfg, config] at config'
    cases config'
    rw [was] at code
    exact ⟨fun old held on => by rw [code, on]; rfl, fun off => by rw [code, appliedCode_of_inactive off]⟩
  · obtain ⟨mark, raised⟩ := judged.shed i (List.mem_finRange i) ((now i).trans shed) (by rw [was]; exact notBefore)
    exact ⟨mark, stamp ▸ raised.of_found (found i).symm rfl⟩
  · obtain ⟨gone, cleared⟩ := judged.admitted i (List.mem_finRange i) (by rw [now]; exact active) (by rw [marks]; exact mark)
    exact ⟨gone, cleared.of_found (found i).symm rfl⟩
  · obtain ⟨mark, entry⟩ := judged.kept i fun _ => by
      rw [now, was, marks]; exact ⟨notShed, notMarked⟩
    exact ⟨mark.trans (marks i), entry.trans (found i)⟩

end Sys2Proof.Machine
end

section
/-! PROOFS. What the recomputes that a trigger asks for leave, however many they are: slots and flags of the inputs as they stand, the
mirrors of the flags, and a mute word on its way for each slot that is ACTIVE no more. -/

namespace Sys2Proof.Machine

/-! ### The inputs of a recompute -/

/-- A change of the fault table asks for a recompute where it changes what one reads, and takes back none asked for. -/
structure State.InputStep (s t : State) : Prop where
  alloc : s.AllocStep t
  inputs : s.inRun = true → t.alloc.recomputeDue = false →
    s.alloc.recomputeDue = false ∧ t.alloc.beff = s.alloc.beff ∧ t.alloc.down = s.alloc.down

theorem State.handOutputs_inputs {s : State} (run : s.inRun = true) (taken : s.handOutputs.alloc.recomputeDue = false) :
    s.alloc.recomputeDue = false ∧ s.handOutputs.alloc.beff = s.alloc.beff ∧ s.handOutputs.alloc.down = s.alloc.down := by
  have derating (u : State) (inRun : u.inRun = true) (level : Nat) (taken : (u.handDerating level).alloc.recomputeDue = false) :
      u.alloc.recomputeDue = false ∧ (u.handDerating level).alloc.beff = u.alloc.beff ∧
        (u.handDerating level).alloc.down = u.alloc.down := by
    unfold State.handDerating at taken ⊢
    split at taken
    next same => rw [if_pos same]; exact ⟨taken, rfl, rfl⟩
    next differs =>
      rw [if_neg differs, if_pos inRun]
      obtain ⟨due, same⟩ : u.alloc.recomputeDue = false ∧ u.alloc.beff = some (u.cfg.budget - level) := by simpa using taken
      exact ⟨due, same.symm, rfl⟩
  have down (u : State) (inRun : u.inRun = true) (level : Bool) (taken : (u.handDown level).alloc.recomputeDue = false) :
      u.handDown level = u := by
    unfold State.handDown at taken ⊢
    split at taken
    next same => exact if_pos same
    next => simp [inRun] at taken
  have derated := (s.setSupervisor { s.supervisor with alarm := alarmLevel s.supervisor.table }).handDerating_beside
    (deratingLevel s.supervisor.table)
  have eq := down _ (derated.inRun.trans run) _ taken
  rw [State.handOutputs] at taken ⊢
  rw [eq] at taken ⊢
  exact derating (s.setSupervisor { s.supervisor with alarm := alarmLevel s.supervisor.table }) run _ taken

namespace State.InputStep

theorem of_handOutputs {s t : State} (step : s.AllocStep t.handOutputs) (inRun : t.inRun = s.inRun) (alloc : t.alloc = s.alloc) :
    s.InputStep t.handOutputs := by
  refine ⟨step, fun run taken => ?_⟩
  rw [← alloc]
  exact State.handOutputs_inputs (inRun.trans run) taken

theorem raiseOnly (s : State) (code : FaultCode) (subject : Nat) : s.InputStep (s.raiseOnly code subject) := by
  refine of_handOutputs (.raiseOnly s code subject) ?_ ?_
  · split
    · exact ((State.serious_beside _ _ _ _).trans (State.tripped_beside _ _ _ _)).inRun
    · rfl
  · split
    · rw [State.tripped_alloc, State.serious_alloc]; rfl
    · rfl

theorem clearOnly (s : State) (code : FaultCode) (subject : Nat) : s.InputStep (s.clearOnly code subject) :=
  of_handOutputs (.clearOnly s code subject) rfl rfl

theorem erasesFor_inRun (s : State) (before : FaultTable) : (s.erasesFor before).inRun = s.inRun := (s.erasesFor_beside before).inRun

theorem ackOneOnly (s : State) (number subject : Nat) : s.InputStep (s.ackOneOnly number subject) := by
  have step := State.AllocStep.ackOneOnly s number subject
  unfold State.ackOneOnly at step ⊢
  split
  · exact ⟨.of_sameAlloc (.refl s) rfl rfl rfl, fun _ taken => ⟨taken, rfl, rfl⟩⟩
  next found => rw [found] at step; exact of_handOutputs step (erasesFor_inRun _ _) rfl

theorem ackAllOnly (s : State) : s.InputStep s.ackAllOnly :=
  of_handOutputs (.ackAllOnly s) (erasesFor_inRun _ _) rfl

end State.InputStep

/-- A property that survives a change of the inputs, of the marks and a recompute survives what `KeptByChanges` names. -/
theorem KeptByChanges.of_inputs {P : State → Prop} (input : ∀ {s t : State}, s.InputStep t → P s → P t)
    (marks : ∀ {s : State} (marks : Vector Bool 8), P s → P (s.setAlloc { s.alloc with shedMarks := marks }))
    (reallocate : ∀ {s : State}, P s → P s.reallocate) : KeptByChanges P where
  raiseOnly _ _ := input (.raiseOnly _ _ _)
  clearOnly _ _ := input (.clearOnly _ _ _)
  ackOneOnly _ _ := input (.ackOneOnly _ _ _)
  ackAllOnly := input (.ackAllOnly _)
  marks := marks
  reallocate _ := reallocate

/-! ### The mirrors of the flags (R75, R96) -/

theorem Image.operators_nodup (image : Image) : image.operators.Nodup := List.nodup_range.filter _

theorem recomputed_flags_keys (image : Image) (a : Alloc) : (recomputed image a).flags.map Prod.fst = image.operators := by
  rw [recomputed_flags, List.map_map]; exact List.map_id _

theorem mirror_of_mem {flags : List (Nat × Bool)} (once : (flags.map Prod.fst).Nodup) {o : OperatorRecord} {flag : Bool}
    (mem : (o.operator, flag) ∈ flags) : mirror flags o = { o with constrained := flag } := by
  have found : flags.find? (fun x => x.1 == o.operator) = some (o.operator, flag) := by
    cases found : flags.find? (fun x => x.1 == o.operator) with
    | none => exact absurd (List.find?_eq_none.mp found _ mem) (by simp)
    | some x =>
      have key : x.1 = o.operator := by simpa using List.find?_some found
      rw [List.inj_on_of_nodup_map once (List.mem_of_find?_eq_some found) mem key]
  unfold mirror
  rw [show (flags.find? fun (k, _) => k == o.operator) = _ from found]

theorem mirror_of_not_mem {flags : List (Nat × Bool)} {o : OperatorRecord} (absent : ∀ flag, (o.operator, flag) ∉ flags) :
    mirror flags o = o := by
  have none_ : (flags.find? fun (k, _) => k == o.operator) = none := by
    rw [List.find?_eq_none]
    rintro ⟨k, flag⟩ mem same
    exact absent flag (by simpa using (beq_iff_eq.mp same) ▸ mem)
  unfold mirror; rw [none_]

theorem mirror_operator (flags : List (Nat × Bool)) (o : OperatorRecord) :
    mirror flags o = { o with constrained := (mirror flags o).constrained } := by
  unfold mirror; split <;> rfl

/-- Flags of the same operators replace those taken before. -/
theorem mirror_mirror {flags later : List (Nat × Bool)} (same : later.map Prod.fst = flags.map Prod.fst)
    (once : (flags.map Prod.fst).Nodup) (o : OperatorRecord) : mirror later (mirror flags o) = mirror later o := by
  have operator : (mirror flags o).operator = o.operator := by rw [mirror_operator]
  by_cases named : o.operator ∈ later.map Prod.fst
  · obtain ⟨⟨k, flag⟩, mem, rfl⟩ := List.mem_map.mp named
    rw [mirror_of_mem (same ▸ once) mem, mirror_of_mem (same ▸ once) (flag := flag) (by rw [operator]; exact mem), mirror_operator]
  · have absent (flag : Bool) : (o.operator, flag) ∉ flags := fun mem => named (same ▸ List.mem_map_of_mem mem)
    rw [mirror_of_not_mem absent]

theorem Spread.takeFlags_takeFlags (p : Spread) {flags later : List (Nat × Bool)} (same : later.map Prod.fst = flags.map Prod.fst)
    (once : (flags.map Prod.fst).Nodup) : (p.takeFlags flags).takeFlags later = p.takeFlags later := by
  unfold Spread.takeFlags
  cases p.records with
  | none => rfl
  | some r =>
    simp only [Option.map_some, List.map_map]
    congr 4
    funext o
    exact mirror_mirror same once o

theorem mirrorsTake_takeFlags (p : Spread) {flags : List (Nat × Bool)} (once : (flags.map Prod.fst).Nodup) :
    MirrorsTake flags p (p.takeFlags flags) := by
  refine ⟨rfl, fun none_ => by simp [Spread.takeFlags, none_], fun r held => ⟨r.operators.map (mirror flags), ?_, by simp, ?_⟩⟩
  · simp [Spread.takeFlags, held]
  · intro i o o' there there'
    rw [List.getElem?_map, there] at there'
    cases there'
    refine ⟨mirror_operator flags o, fun flag mem => by rw [mirror_of_mem once mem], fun absent => ?_⟩
    rw [mirror_of_not_mem absent]

/-! ### The slots of a recompute -/

theorem recomputed_of_down {image : Image} {a : Alloc} {i : Fin 8} {c : SlotConfig} (present : image.slots[i] = some c)
    (down : a.down = true) : (recomputed image a).slots[i] = .down := by
  rw [recomputed_slots, verdictAt_eq, present, down]; rfl

theorem recomputed_muted_iff {image : Image} {a : Alloc} {i : Fin 8} {c : SlotConfig} (present : image.slots[i] = some c)
    (down : a.down = false) : (recomputed image a).slots[i] = .muted ↔ a.mute[i] = true := by
  rw [recomputed_slots, verdictAt_eq, present, down]
  unfold verdictFor
  cases a.mute[i] with
  | true => exact iff_of_true rfl rfl
  | false =>
    simp only [Bool.false_eq_true, if_false, iff_false]
    split <;> exact fun muted => by cases muted

/-! ### Mute words (R97, R101, R104) -/

/-- The mute word of a slot is on its way or held. -/
def Writer.MuteCarried (w : Writer) (i : Fin 8) : Prop :=
  (w.dirty[i] = none ∧ w.held[i] = some .mute) ∨ w.dirty[i] = some ⟨.mute, false⟩

theorem Writer.MuteCarried.handOver_other {w : Writer} {i : Fin 8} (h : w.MuteCarried i) (image : Image)
    {changes : List (Fin 8 × Option Nat)} (someActive : Bool) (other : i ∉ changes.map Prod.fst) :
    (w.handOver image changes someActive).MuteCarried i := by
  obtain ⟨dirty, held⟩ | ⟨-, dirty, g, -, -, held, was⟩ := Writer.handOver_other w image someActive other
  · unfold Writer.MuteCarried
    rwa [dirty, held]
  · obtain ⟨empty, -⟩ | waits := h
    · rw [empty] at was; cases was
    · rw [waits] at was
      exact .inl ⟨dirty, held.trans was.symm⟩

theorem Writer.muteCarried_handOver (w : Writer) (image : Image) {changes : List (Fin 8 × Option Nat)} (someActive : Bool) {i : Fin 8}
    (once : (changes.map Prod.fst).Nodup) (handed : (i, none) ∈ changes) : (w.handOver image changes someActive).MuteCarried i := by
  obtain ⟨same, differs⟩ := Writer.handOver_named w image someActive once handed
  by_cases held : w.held[i] = some .mute
  · obtain ⟨dirty, stays⟩ := same held
    exact .inl ⟨dirty, stays.trans held⟩
  · obtain ⟨waits, -⟩ | ⟨-, dirty, taken, -⟩ := differs held
    · exact .inr waits
    · exact .inl ⟨dirty, taken⟩

theorem SlotState.applied_of_inactive {x : SlotState} (off : x.isActive = false) : x.applied = none := by
  cases x with
  | active => cases off
  | _ => rfl

/-- After a hand-over the mute word of every slot that is not ACTIVE is on its way, where that of each that was not before was. -/
theorem Writer.muteCarried_slots (w : Writer) (image : Image) {before after : Vector SlotState 8} (someActive : Bool) {i : Fin 8}
    (off : after[i].isActive = false) (was : before[i].isActive = false → w.MuteCarried i) :
    (w.handOver image (changedOutputs before after) someActive).MuteCarried i := by
  have none_ := SlotState.applied_of_inactive off
  cases active : before[i].isActive with
  | true =>
    refine Writer.muteCarried_handOver w image someActive (changedOutputs_slots before after ▸ (List.nodup_finRange 8).filter _)
      ((mem_changedOutputs _ _ _ _).mpr ⟨fun same => ?_, none_⟩)
    rw [SlotState.isActive_eq, same, none_] at active
    cases active
  | false =>
    refine (was active).handOver_other image someActive fun named => ?_
    obtain ⟨⟨j, output⟩, mem, rfl⟩ := List.mem_map.mp named
    exact ((mem_changedOutputs _ _ _ _).mp mem).1 ((SlotState.applied_of_inactive active).trans none_.symm)

/-- After a hand-over with no slot ACTIVE the line is dropped, where it was dropped with none ACTIVE before (R107). -/
theorem Writer.off_slots (w : Writer) (image : Image) {before after : Vector SlotState 8} (off : anyActive after = false)
    (was : anyActive before = false → w.paEnable = false ∧ w.indicator = false) :
    (w.handOver image (changedOutputs before after) (anyActive after)).paEnable = false ∧
      (w.handOver image (changedOutputs before after) (anyActive after)).indicator = false := by
  by_cases none_ : changedOutputs before after = []
  · rw [none_]
    exact was ((anyActive_of_no_changes none_).symm.trans off)
  · obtain ⟨indicator, dropped⟩ := Writer.handOver_off (w := w) image none_ (anyActive after)
    exact ⟨dropped off, indicator.trans off⟩

/-! ### On the way from a trigger -/

/-- `t` is a state on the way of the recomputes that follow a trigger in RUN which came to `s`, under the image `image`. -/
structure State.Recomputing (image : Image) (s t : State) : Prop where
  inRun : t.inRun = true
  cfg : t.cfg = image
  slots : t.alloc.recomputeDue = false → ∃ a : Alloc, a.beff = t.alloc.beff ∧ a.down = t.alloc.down ∧ a.mute = t.alloc.mute ∧
    a.offsets = t.alloc.offsets ∧ t.alloc.slots = (recomputed image a).slots ∧ t.alloc.flags = (recomputed image a).flags
  mirrors : (t.alloc.recomputeDue = true ∧ t.spread = s.spread) ∨
    (t.spread = s.spread.takeFlags t.alloc.flags ∧ t.alloc.flags.map Prod.fst = image.operators)
  muted : ∀ i : Fin 8, s.alloc.slots[i].isActive = true → t.alloc.slots[i].isActive = false → t.writer.MuteCarried i
  off : anyActive s.alloc.slots = true → anyActive t.alloc.slots = false → t.writer.paEnable = false ∧ t.writer.indicator = false

namespace State.Recomputing

variable {image : Image} {s t u : State}

theorem input (h : State.Recomputing image s t) (k : t.InputStep u) : State.Recomputing image s u := by
  have inputs := k.inputs h.inRun
  refine ⟨k.alloc.beside.inRun.trans h.inRun, k.alloc.beside.cfg.trans h.cfg, fun taken => ?_, ?_, ?_, ?_⟩
  · obtain ⟨due, beff, down⟩ := inputs taken
    rw [beff, down, k.alloc.mute, k.alloc.offsets, k.alloc.slots, k.alloc.flags]
    exact h.slots due
  · rw [k.alloc.spread, k.alloc.flags]
    refine h.mirrors.imp (fun ⟨due, same⟩ => ⟨?_, same⟩) id
    by_contra taken
    rw [(inputs (by simpa using taken)).1] at due
    cases due
  · rw [k.alloc.slots, k.alloc.writer]; exact h.muted
  · rw [k.alloc.slots, k.alloc.writer]; exact h.off

theorem reallocate (h : State.Recomputing image s t) : State.Recomputing image s t.reallocate := by
  refine ⟨h.inRun, h.cfg, fun _ => ⟨t.alloc, rfl, rfl, rfl, rfl, ?_, ?_⟩, .inr ⟨?_, ?_⟩, fun i active off => ?_, fun active off => ?_⟩
  · rw [← h.cfg]; rfl
  · rw [← h.cfg]; rfl
  · change t.spread.takeFlags (recomputed t.cfg t.alloc).flags = s.spread.takeFlags (recomputed t.cfg t.alloc).flags
    obtain ⟨-, same⟩ | ⟨taken, keys⟩ := h.mirrors
    · rw [same]
    · rw [taken]
      refine Spread.takeFlags_takeFlags _ ?_ (keys ▸ image.operators_nodup)
      rw [keys, recomputed_flags_keys, h.cfg]
  · rw [← h.cfg]; exact recomputed_flags_keys _ _
  · exact Writer.muteCarried_slots t.writer t.cfg _ off (h.muted i active)
  · exact Writer.off_slots t.writer t.cfg off (h.off active)

theorem changes (image : Image) (s : State) : KeptByChanges (State.Recomputing image s) :=
  .of_inputs (fun k h => h.input k) (fun _ h => ⟨h.inRun, h.cfg, h.slots, h.mirrors, h.muted, h.off⟩) fun h => h.reallocate

/-- A trigger in RUN has come. -/
theorem of_due (run : t.inRun = true) (due : t.alloc.recomputeDue = true) (slots : t.alloc.slots = s.alloc.slots)
    (spread : t.spread = s.spread) : State.Recomputing t.cfg s t := by
  refine ⟨run, rfl, fun taken => ?_, .inl ⟨due, spread⟩, fun i active off => ?_, fun active off => ?_⟩
  · cases due.symm.trans taken
  · rw [slots, active] at off; cases off
  · rw [slots, active] at off; cases off

/-- After the recomputes that a trigger asks for. -/
theorem settle (h : State.Recomputing image s t) : State.Recomputing image s t.settle := (changes image s).settle h

end State.Recomputing

end Sys2Proof.Machine
end

section
/-! PROOFS. The triggers of a recompute: a CARRIER-MASK, and the end of DOWN at the release of a trip. -/

namespace Sys2Proof.Machine

/-! ### CARRIER-MASK (R87, R167) -/

/-- A CARRIER-MASK is available in RUN alone (R161). -/
theorem State.inRun_of_carrierMask {s : State} {source destination : Byte} {payload : List Byte} {form : MaskForm} {named : Byte}
    (accepted : s.judge source destination payload = .accepted (.carrierMask form named)) : s.inRun = true := by
  obtain ⟨-, -, available, -⟩ := State.judge_accepted accepted
  obtain ⟨available, -⟩ := (s.availabilityPasses_iff _ _).mp available
  unfold State.inRun
  cases node : s.ctl.node with
  | run => rfl
  | load => rw [node] at available; cases available
  | listen => rw [node] at available; cases available
  | configFault => rw [node] at available; simp [availableIn, Directive.kind] at available

theorem Allocated.of_recomputed {image : Image} {a b : Alloc} {beff : Nat} (inRange : image.InRange) (held : a.beff = some beff)
    (slots : b.slots = (recomputed image a).slots) (flags : b.flags = (recomputed image a).flags) (down : a.down = b.down)
    (mute : a.mute = b.mute) (offsets : a.offsets = b.offsets) : Allocated image beff b := by
  have allocated := recomputed_allocated image a inRange
  rw [held] at allocated
  exact allocated.of_same slots mute.symm offsets.symm down.symm flags

/-- The mask taken, with the recompute that it asks for still to come. -/
def State.masked (s : State) (form : MaskForm) (named : Byte) : State :=
  s.setAlloc { s.alloc with mute := maskFlags s.cfg form named s.alloc.mute, recomputeDue := s.inRun }

/-- Settles O45: the recompute that follows a mask finds the mute flags set. -/
theorem carrierMaskSetsFlagsAndMutes : Obligations.CarrierMaskSetsFlagsAndMutes := by
  intro s source destination rest form named delivered accepted
  have run := State.inRun_of_carrierMask accepted
  have ends : s.deliverDirective source destination (8#8 :: rest) = (s.masked form named).settle :=
    State.deliverDirective_of_accepted delivered accepted
  have due : (s.masked form named).alloc.recomputeDue = true := run
  have beside := (s.masked form named).settle_beside
  have after := (State.Recomputing.of_due (s := s) (t := s.masked form named) run due rfl rfl).settle
  obtain ⟨a, beff, down, mute, offsets, slots, flags⟩ := after.slots (State.settle_settled _)
  have slot (i : Fin 8) : (s.masked form named).settle.alloc.slots[i] = (recomputed s.cfg a).slots[i] :=
    congrArg (fun v : Vector SlotState 8 => v[i]) slots
  refine ⟨_, congrArg Host.Outcome.next ends, fun i => ?_, fun notDown i present => ?_, fun isDown i present => ?_, fun i active off => ?_,
    after.off, beside.port, beside.view, beside.scanner, beside.handler, beside.store, fun p => rfl, fun inRange b held => ?_, ?_,
    fun settled distinct room => ?_⟩
  · rw [beside.mute]
    change (maskFlags s.cfg form named s.alloc.mute)[i] = _
    rw [maskFlags, tab_getElem]
    simp only [Bool.and_eq_true, Option.isSome_iff_ne_none]
    cases form <;> rfl
  · obtain ⟨c, config⟩ := Option.ne_none_iff_exists'.mp present
    rw [slot, ← mute]
    exact recomputed_muted_iff config (down.trans notDown)
  · obtain ⟨c, config⟩ := Option.ne_none_iff_exists'.mp present
    rw [slot]
    exact recomputed_of_down config (down.trans isDown)
  · exact (after.muted i active off).imp And.right id
  · exact Allocated.of_recomputed (State.cfg_inRange inRange) (beff.trans held) slots flags down mute offsets
  · obtain ⟨due, -⟩ | ⟨taken, keys⟩ := after.mirrors
    · cases (State.settle_settled _).symm.trans due
    · rw [taken]
      exact mirrorsTake_takeFlags _ (keys ▸ Image.operators_nodup _)
  · have judged := State.settle_of_due (s := s.masked form named) (settled.follow.of_same rfl rfl rfl rfl) distinct room due
    have before : s.BeforeRecompute (s.masked form named) := ⟨rfl, rfl, rfl, rfl, fun _ => rfl⟩
    refine ⟨?_, before.oneRecompute judged, fun code subject other => judged.others code subject other⟩
    rw [judged.step.alloc]
    exact congrArg (fun due => ({ (s.masked form named).reallocate.alloc with
      shedMarks := (s.masked form named).settle.alloc.shedMarks, recomputeDue := due } : Alloc)) settled.taken.symm

end Sys2Proof.Machine
end

section
/-! PROOFS. The release of a latched trip: DOWN ends with the last trip, and a recompute follows in RUN. -/

namespace Sys2Proof.Machine

/-! ### An entry of another condition through recomputes -/

/-- A raise of another condition creates no entry of this one. -/
theorem findEntry_none_tableRaise {t : FaultTable} {code other : FaultCode} {subject subject' : Nat} (stamp : EpochCount)
    (absent : findEntry t other subject' = none) (differs : code ≠ other) :
    findEntry (tableRaise t code subject stamp).table other subject' = none := by
  by_cases room : RoomFor t code subject
  · rw [findEntry_tableRaise_of_other stamp room fun same => differs same.1.symm]; exact absent
  · have full : findEntry t code subject = none ∧ firstEmpty t = none := by
      unfold RoomFor at room
      rw [Classical.not_imp] at room
      obtain ⟨none_, full⟩ := room
      refine ⟨none_, ?_⟩
      cases empty : firstEmpty t with
      | none => rfl
      | some p => exact absurd ⟨p, empty⟩ full
    have raised : tableRaise t code subject stamp = raiseFull t (newEntry code subject stamp) := by
      simp only [tableRaise, full.1, full.2]
    rw [raised]
    obtain same | ⟨p, put⟩ := raiseFull_table t (newEntry code subject stamp)
    · rw [same]; exact absent
    · rw [put]
      refine findEntry_eq_none_iff.mpr fun q e held is => ?_
      rw [Vector.getElem_set_fin] at held
      split at held
      · cases held; exact differs is.1
      · exact findEntry_eq_none_iff.mp absent q e held is

theorem findEntry_none_tableClear {t : FaultTable} {code other : FaultCode} {subject subject' : Nat}
    (absent : findEntry t other subject' = none) : findEntry (tableClear t code subject) other subject' = none := by
  refine findEntry_eq_none_iff.mpr fun q e held is => ?_
  obtain ⟨f, held', key⟩ := tableClear_keys t code subject q e held
  rw [FaultEntry.is_iff_key, key, ← FaultEntry.is_iff_key] at is
  exact findEntry_eq_none_iff.mp absent q f held' is

/-- The recomputes asked for create no entry but those of FLOOR_SHED. -/
theorem State.settle_findEntry_none {s : State} {code : FaultCode} {subject : Nat} (other : code ≠ .floorShed)
    (absent : findEntry s.supervisor.table code subject = none) : findEntry s.settle.supervisor.table code subject = none := by
  have kept : KeptByRecomputes fun t => findEntry t.supervisor.table code subject = none := {
    raiseFloor := fun _ absent => by rw [State.raiseOnly_table]; exact findEntry_none_tableRaise _ absent other.symm
    clearFloor := fun _ absent => by rw [State.clearOnly_table]; exact findEntry_none_tableClear absent
    marks := fun _ absent => absent
    reallocate := fun _ absent => absent }
  exact kept.settle absent

/-! ### What the asks of one position change (R128, R129) -/

/-- Codes that derate nothing leave the derating level, whether they come or go. -/
theorem deratingLevel_set_of_zero {t : FaultTable} {i : Fin 24} {x : Option FaultEntry}
    (before : ∀ code, askAt t[i] = some code → code.derating = 0) (after : ∀ code, askAt x = some code → code.derating = 0) :
    deratingLevel (t.set i x) = deratingLevel t := by
  refine eq_of_forall_ge_iff fun n => ?_
  rw [deratingLevel_le_iff, deratingLevel_le_iff]
  refine forall_congr' fun p => forall_congr' fun code => ?_
  rw [Vector.getElem_set_fin]
  split
  next same =>
    subst same
    exact ⟨fun _ asks => by rw [before code asks]; omega, fun _ asks => by rw [after code asks]; omega⟩
  next => rfl

theorem deratingLevel_tableClear {t : FaultTable} {code : FaultCode} (none_ : code.derating = 0) (subject : Nat) :
    deratingLevel (tableClear t code subject) = deratingLevel t := by
  cases found : findEntry t code subject with
  | none => rw [tableClear_of_absent found]
  | some x =>
    obtain ⟨p, e⟩ := x
    obtain ⟨held, is, -⟩ := findEntry_eq_some_iff.mp found
    rw [tableClear_of_found found]
    refine deratingLevel_set_of_zero (fun c asks => ?_) fun c asks => ?_
    · obtain ⟨f, held', -, rfl, -⟩ := askAt_eq_some_iff.mp asks
      cases held.symm.trans held'
      rw [is.1]; exact none_
    · obtain ⟨f, cleared, asks⟩ := Option.bind_eq_some_iff.mp asks
      obtain ⟨active, -, -⟩ := FaultEntry.ask_eq_some_iff.mp asks
      rw [FaultEntry.active_of_cleared cleared] at active
      cases active

/-- DOWN goes on while an entry of another trip is ACTIVE. -/
theorem downCondition_tableClear_of_other {t : FaultTable} {code : FaultCode} {subject : Nat} {e : FaultEntry}
    (active : e ∈ activeEntries t) (trips : e.code.trips = true) (other : e.code ≠ code) :
    downCondition (tableClear t code subject) = true := by
  obtain ⟨on, p, held⟩ := mem_activeEntries_iff.mp active
  refine downCondition_iff.mpr ⟨p, e.code, askAt_eq_some_iff.mpr ⟨e, ?_, on, rfl, .inr trips⟩, trips⟩
  cases found : findEntry t code subject with
  | none => rw [tableClear_of_absent found]; exact held
  | some x =>
    obtain ⟨q, f⟩ := x
    rw [tableClear_of_found found, Vector.getElem_set_fin, if_neg]
    · exact held
    · rintro rfl
      obtain ⟨held', is, -⟩ := findEntry_eq_some_iff.mp found
      cases held.symm.trans held'
      exact other is.1

/-! ### The release (R54, R137) -/

/-- The trip released at the scanner, its entry still to be cleared. -/
def State.tripReleased (s : State) : State := s.setScanner { s.scanner with
  vswrTrip := false, badPairs := 0, goodPairs := 0, releaseNotice := false }

/-- A clear through the recompute that it asks for, with room in the table for the raises of FLOOR_SHED. -/
theorem State.clear_clearedIn {s : State} (distinct : s.EntriesDistinct) (room : AtMost 16 s.supervisor.table) {code : FaultCode}
    (other : code ≠ .floorShed) (subject : Nat) :
    ClearedIn s.supervisor.table (s.clear code subject).supervisor.table code subject := by
  have cleared : ClearedIn s.supervisor.table (s.clearOnly code subject).supervisor.table code subject := by
    rw [State.clearOnly_table]; exact clearedIn_tableClear distinct _ _
  have distinct' : (s.clearOnly code subject).EntriesDistinct := entriesDistinct_changes.clearOnly _ _ distinct
  have room' : AtMost 16 (s.clearOnly code subject).supervisor.table := by rw [State.clearOnly_table]; exact room.tableClear _ _
  refine cleared.of_found rfl ?_
  cases due : (s.clearOnly code subject).alloc.recomputeDue with
  | false => rw [State.clear, State.settle_of_not_due _ due]
  | true => exact (State.settle_of_due (s.clearOnly_outputsFollow _ _) distinct' room' due).others code subject (.inl other)

/-- Where a clear ends DOWN in RUN, one recompute follows. -/
theorem State.clear_oneRecompute {s : State} (distinct : s.EntriesDistinct) (room : AtMost 16 s.supervisor.table)
    {code : FaultCode} (other : code ≠ .floorShed) (subject : Nat) (run : s.inRun = true) (down : s.alloc.down = true)
    (ended : (s.clear code subject).alloc.down = false) : s.OneRecompute (s.clear code subject) := by
  have distinct' : (s.clearOnly code subject).EntriesDistinct := entriesDistinct_changes.clearOnly _ _ distinct
  have room' : AtMost 16 (s.clearOnly code subject).supervisor.table := by rw [State.clearOnly_table]; exact room.tableClear _ _
  have input := State.InputStep.clearOnly s code subject
  have due : (s.clearOnly code subject).alloc.recomputeDue = true := by
    by_contra taken
    have taken : (s.clearOnly code subject).alloc.recomputeDue = false := by simpa using taken
    rw [State.clear, State.settle_of_not_due _ taken, (input.inputs run taken).2.2, down] at ended
    cases ended
  have before : s.BeforeRecompute (s.clearOnly code subject) := by
    refine ⟨input.alloc.beside.cfg, input.alloc.slots, input.alloc.marks, input.alloc.beside.stamp, fun i => ?_⟩
    rw [State.clearOnly_table, findEntry_tableClear_of_other fun same => other same.1.symm]
  exact before.oneRecompute (State.settle_of_due (s.clearOnly_outputsFollow _ _) distinct' room' due)

/-- Where another trip keeps DOWN, a clear of a trip asks for no recompute. -/
theorem State.clearOnly_not_due_of_trip {s : State} (settled : s.Settled) {code : FaultCode} (none_ : code.derating = 0) (subject : Nat)
    {e : FaultEntry} (active : e ∈ activeEntries s.supervisor.table) (trips : e.code.trips = true) (other : e.code ≠ code) :
    (s.clearOnly code subject).alloc.recomputeDue = false := by
  obtain ⟨on, p, held⟩ := mem_activeEntries_iff.mp active
  have down : downCondition s.supervisor.table = true :=
    downCondition_iff.mpr ⟨p, e.code, askAt_eq_some_iff.mpr ⟨e, held, on, rfl, .inr trips⟩, trips⟩
  have same := State.handOutputs_of_same (s.setTable (tableClear s.supervisor.table code subject))
    (settled.follow.derating.trans (deratingLevel_tableClear none_ subject).symm)
    (settled.follow.down.trans (down.trans (downCondition_tableClear_of_other active trips other).symm))
  rw [State.clearOnly, same]
  exact settled.taken

theorem State.tripReleased_rest {s t : State} (h : s.tripReleased.OneRecompute t) : s.OneRecompute t := ⟨h.applied, h.shed, h.admitted, h.kept⟩

/-- Settles O36: the release clears the entry, and what the clear does to DOWN decides whether a recompute follows. -/
theorem tripReleaseEndsTheLatch : Obligations.TripReleaseEndsTheLatch := by
  intro s
  refine ⟨fun notice trip => ?_, fun notice trip => ?_, fun notice => ⟨s, ?_, rfl⟩⟩
  · have ends : s.releaseTrip = s.tripReleased.clear .vswrTrip 0 := (if_pos notice).trans (if_pos trip)
    have beside := s.tripReleased.clear_beside .vswrTrip 0
    have follow := s.tripReleased.clear_outputsFollow .vswrTrip 0
    refine ⟨_, congrArg Host.Outcome.next ends, beside.scanner, follow.down, State.settle_settled _, beside.port, beside.view,
      beside.handler, beside.store, fun distinct p e found acked => ?_, fun settled distinct room => ⟨?_, fun run down ended => ?_⟩,
      fun settled stays => ?_⟩
    · refine State.settle_findEntry_none (by decide) ?_
      rw [State.clearOnly_table]
      exact (clearedIn_tableClear distinct _ _ p e found).2.1 acked
    · exact State.clear_clearedIn (s := s.tripReleased) distinct room (by decide) 0
    · exact State.tripReleased_rest (State.clear_oneRecompute (s := s.tripReleased) distinct room (by decide) 0
        (by simp [State.inRun, State.tripReleased, run]) down ended)
    · have not_due : (s.tripReleased.clearOnly .vswrTrip 0).alloc.recomputeDue = false := by
        obtain out | ⟨e, active, limit⟩ := stays
        · refine Bool.not_eq_true _ ▸ fun due => ?_
          obtain due | run := (State.AllocStep.clearOnly s.tripReleased .vswrTrip 0).due due
          · cases settled.taken.symm.trans due
          · exact out (by simpa [State.inRun, State.tripReleased] using run)
        · exact State.clearOnly_not_due_of_trip (s := s.tripReleased) (settled.of_same rfl rfl) rfl 0 active (by rw [limit]; rfl)
            (by rw [limit]; decide)
      rw [State.clear, State.settle_of_not_due _ not_due, State.clearOnly_table]; rfl
  · have ends : s.releaseTrip = s.setScanner { s.scanner with releaseNotice := false } :=
      (if_pos notice).trans (if_neg (by simp [trip]))
    exact ⟨_, congrArg Host.Outcome.next ends, rfl⟩
  · exact congrArg Host.Outcome.next (if_neg (by simp [notice]))

end Sys2Proof.Machine
end

section
/-! PROOFS. RUN entry: the scan list of the present slots, and the carriers from the first recompute. -/

namespace Sys2Proof.Machine

/-! ### The scan list (R43) -/

theorem withPairs_cons (since : Nat) (u : Fin 11) (rest : List (Fin 11)) : withPairs since (u :: rest) =
    if since = 3 then u :: channelFwd :: channelRfl :: withPairs 0 rest else u :: withPairs (since + 1) rest := by
  cases since <;> simp only [withPairs]

theorem withPairs_length (since : Nat) (us : List (Fin 11)) (few : since ≤ 3) :
    (withPairs since us).length = us.length + 2 * ((since + us.length + 3) / 4) := by
  induction us generalizing since with
  | nil => cases since <;> simp [withPairs]; omega
  | cons u rest ih =>
    rw [withPairs_cons]
    split
    next full => subst full; simp only [List.length_cons, ih 0 (by omega)]; omega
    next => simp only [List.length_cons, ih (since + 1) (by omega)]; omega

/-- Each U entry stands behind the pairs that its forerunners have filled. -/
theorem withPairs_uplink (since : Nat) (us : List (Fin 11)) (few : since ≤ 3) {k : Nat} (below : k < us.length) :
    (withPairs since us)[k + 2 * ((since + k) / 4)]? = us[k]? := by
  induction us generalizing since k with
  | nil => cases below
  | cons u rest ih =>
    rw [withPairs_cons]
    split
    next full =>
      subst full
      cases k with
      | zero => rfl
      | succ k =>
        have later : k + 1 + 2 * ((3 + (k + 1)) / 4) = k + 2 * ((0 + k) / 4) + 1 + 1 + 1 := by omega
        rw [later, List.getElem?_cons_succ, List.getElem?_cons_succ, List.getElem?_cons_succ, List.getElem?_cons_succ]
        exact ih 0 (by omega) (by simpa using below)
    next =>
      cases k with
      | zero =>
        have first : 0 + 2 * ((since + 0) / 4) = 0 := by omega
        rw [first]; rfl
      | succ k =>
        have later : k + 1 + 2 * ((since + (k + 1)) / 4) = k + 2 * ((since + 1 + k) / 4) + 1 := by omega
        rw [later, List.getElem?_cons_succ, List.getElem?_cons_succ]
        exact ih (since + 1) (by omega) (by simpa using below)

/-- A pair stands after every fourth U entry, and after the last. -/
theorem withPairs_pair (since : Nat) (us : List (Fin 11)) (few : since ≤ 3) {j : Nat} (below : j < (since + us.length + 3) / 4) :
    (withPairs since us)[min (4 * (j + 1) - since) us.length + 2 * j]? = some channelFwd ∧
      (withPairs since us)[min (4 * (j + 1) - since) us.length + 2 * j + 1]? = some channelRfl := by
  induction us generalizing since j with
  | nil =>
    cases since with
    | zero => simp at below
    | succ since =>
      obtain rfl : j = 0 := by simp at below; omega
      simp [withPairs]
  | cons u rest ih =>
    rw [withPairs_cons]
    split
    next full =>
      subst full
      cases j with
      | zero => simp
      | succ j =>
        have later : min (4 * (j + 1 + 1) - 3) (u :: rest).length + 2 * (j + 1) =
            min (4 * (j + 1) - 0) rest.length + 2 * j + 1 + 1 + 1 := by rw [List.length_cons]; omega
        simp only [later, List.getElem?_cons_succ]
        exact ih 0 (by omega) (by rw [List.length_cons] at below; omega)
    next =>
      have later : min (4 * (j + 1) - since) (u :: rest).length + 2 * j =
          min (4 * (j + 1) - (since + 1)) rest.length + 2 * j + 1 := by rw [List.length_cons]; omega
      simp only [later, List.getElem?_cons_succ]
      exact ih (since + 1) (by omega) (by rw [List.length_cons] at below; omega)

/-- The scan list of an image, entry by entry (R43). -/
theorem scanListOf_spec (image : Image) {n pairs : Nat} (hn : n = (uplinkChannels image).length) (hp : pairs = max 1 ((n + 3) / 4)) :
    (scanListOf image).length = n + 2 * pairs + 1 ∧
      (∀ k, k < n → (scanListOf image)[k + 2 * (k / 4)]? = (uplinkChannels image)[k]?) ∧
      (∀ j, j < pairs → (scanListOf image)[min (4 * (j + 1)) n + 2 * j]? = some channelFwd ∧
        (scanListOf image)[min (4 * (j + 1)) n + 2 * j + 1]? = some channelRfl) ∧
      (scanListOf image)[n + 2 * pairs]? = some channelTemp := by
  unfold scanListOf
  split
  next none_ =>
    rw [none_] at hn
    subst hn
    obtain rfl : pairs = 1 := hp
    refine ⟨rfl, fun k below => absurd below (Nat.not_lt_zero k), fun j below => ?_, rfl⟩
    obtain rfl : j = 0 := by omega
    exact ⟨rfl, rfl⟩
  next u rest some_ =>
    rw [some_] at hn ⊢
    have positive : 0 < n := by rw [hn, List.length_cons]; omega
    generalize u :: rest = us at hn
    have pairs_eq : pairs = (n + 3) / 4 := by omega
    have length := withPairs_length 0 us (by omega)
    rw [← hn, Nat.zero_add, ← pairs_eq] at length
    refine ⟨by simp [length], fun k below => ?_, fun j below => ?_, ?_⟩
    · have uplink := withPairs_uplink 0 us (by omega) (k := k) (by omega)
      rw [Nat.zero_add] at uplink
      rw [List.getElem?_append_left (by omega)]
      exact uplink
    · have pair := withPairs_pair 0 us (by omega) (j := j) (by omega)
      rw [← hn, Nat.sub_zero] at pair
      rw [List.getElem?_append_left (by omega), List.getElem?_append_left (by omega)]
      exact pair
    · rw [← length, List.getElem?_append_right (by omega), Nat.sub_self]; rfl

/-! ### The effective budget and the first codes (R85, R93) -/

theorem State.handDerating_beff {s : State} (run : s.inRun = true) (beff : s.alloc.beff = some (s.cfg.budget - s.alloc.derating))
    (level : Nat) : (s.handDerating level).alloc.beff = some (s.cfg.budget - (s.handDerating level).alloc.derating) := by
  unfold State.handDerating
  by_cases same : level = s.alloc.derating
  · rw [if_pos same]; exact beff
  · rw [if_neg same, if_pos run]; rfl

theorem State.handDown_keeps (s : State) (down : Bool) :
    (s.handDown down).alloc.beff = s.alloc.beff ∧ (s.handDown down).alloc.derating = s.alloc.derating := by
  unfold State.handDown
  split <;> exact ⟨rfl, rfl⟩

/-- In RUN the effective budget is the budget less the derating level, and stays so through changes of the level. -/
theorem State.handOutputs_beff {s : State} (run : s.inRun = true) (beff : s.alloc.beff = some (s.cfg.budget - s.alloc.derating)) :
    s.handOutputs.alloc.beff = some (s.handOutputs.cfg.budget - s.handOutputs.alloc.derating) := by
  rw [s.handOutputs_beside.cfg]
  unfold State.handOutputs
  dsimp only
  obtain ⟨keepsBeff, keepsDerating⟩ := (State.handDerating (s.setSupervisor { s.supervisor with alarm := alarmLevel s.supervisor.table })
    (deratingLevel s.supervisor.table)).handDown_keeps (downCondition s.supervisor.table)
  rw [keepsBeff, keepsDerating]
  exact State.handDerating_beff (s := s.setSupervisor { s.supervisor with alarm := alarmLevel s.supervisor.table }) run beff _

/-- In RUN the effective budget is as it should be; and where RUN entry found no slot ACTIVE, which is `idle`, every ACTIVE one is at its
floor. -/
structure State.AtFloors (idle : Prop) (s : State) : Prop where
  inRun : s.inRun = true
  beff : s.alloc.beff = some (s.cfg.budget - s.alloc.derating)
  floors : idle → ∀ (i : Fin 8) (target applied : Nat), s.alloc.slots[i] = .active target applied →
    ∃ c, s.cfg.slots[i] = some c ∧ applied = c.floor

namespace State.AtFloors

variable {idle : Prop} {s t : State}

theorem of_handOutputs (h : s.AtFloors idle) (step : s.AllocStep t.handOutputs) (beside : s.Beside t) (alloc : t.alloc = s.alloc) :
    t.handOutputs.AtFloors idle := by
  refine ⟨step.beside.inRun.trans h.inRun, State.handOutputs_beff (beside.inRun.trans h.inRun) ?_, ?_⟩
  · rw [alloc, beside.cfg]; exact h.beff
  · rw [step.slots, step.beside.cfg]; exact h.floors

theorem raiseOnly (h : s.AtFloors idle) (code : FaultCode) (subject : Nat) : (s.raiseOnly code subject).AtFloors idle := by
  have step : ∀ u, s.Beside ((s.setTable (tableRaise s.supervisor.table code subject s.stamp).table).setSupervisor u) := fun u =>
    (s.setTable_beside _).trans (State.setSupervisor_beside _ u)
  refine h.of_handOutputs (.raiseOnly s code subject) ?_ ?_
  · split
    · exact (step _).trans ((State.serious_beside _ _ _ _).trans (State.tripped_beside _ _ _ _))
    · exact step _
  · split
    · rw [State.tripped_alloc, State.serious_alloc]; rfl
    · rfl

theorem reallocate (h : s.AtFloors idle) : s.reallocate.AtFloors idle := by
  refine ⟨h.inRun, h.beff, fun none_ i target applied active => ?_⟩
  obtain ⟨c, config, fitted, code⟩ := recomputed_active (image := s.cfg) (a := s.alloc) active
  refine ⟨c, config, code.trans ?_⟩
  cases was : s.alloc.slots[i] with
  | active old before =>
    obtain ⟨c', config', floor⟩ := h.floors none_ i old before was
    cases config.symm.trans config'
    subst floor fitted
    exact min_eq_left (le_max_left _ _)
  | _ => rfl

theorem recomputes : KeptByRecomputes (State.AtFloors idle) where
  raiseFloor _ h := h.raiseOnly _ _
  clearFloor _ h := h.of_handOutputs (.clearOnly _ _ _) (State.setTable_beside _ _) rfl
  marks _ h := ⟨h.inRun, h.beff, h.floors⟩
  reallocate _ h := h.reallocate

end State.AtFloors

/-! ### RUN entry (R189) -/

/-- The blocks set up at RUN entry, the recompute still to come. -/
def State.runSetUp (s : State) (moment : Ms) : State :=
  let u := (s.advanceTo moment (2 * s.cfg.period)).setUpRun
  u.setAlloc { u.alloc with recomputeDue := u.inRun }

theorem newRecords_read {image : Image} {lostCount : Nat} {r : SpreadRun} (same : r.unflagged = (newRecords image lostCount).unflagged) :
    r.current = image.startMode ∧ r.pendingMode = image.startMode ∧ (∀ i : Fin 8, r.loads[i] = 0) ∧
      r.operators.map OperatorRecord.operator = image.operators ∧ ∀ o ∈ r.operators, o.load = 0 ∧ o.offset = 0 := by
  refine ⟨congrArg SpreadRun.current same, congrArg SpreadRun.pendingMode same, fun i => ?_, ?_, fun o mem => ?_⟩
  · rw [SpreadRun.loads_eq_of_unflagged_eq same]; simp [newRecords]
  · rw [SpreadRun.operators_map_eq_of_unflagged_eq same OperatorRecord.operator fun _ => rfl]
    simp [newRecords, Function.comp_def]
  · have figures := SpreadRun.operators_map_eq_of_unflagged_eq same (fun o => (o.load, o.offset)) fun _ => rfl
    have mem := List.mem_map_of_mem (f := fun o : OperatorRecord => (o.load, o.offset)) mem
    rw [figures] at mem
    obtain ⟨o', mem', eq⟩ := List.mem_map.mp mem
    obtain ⟨k, -, rfl⟩ := List.mem_map.mp mem'
    exact ⟨(congrArg Prod.fst eq).symm, (congrArg Prod.snd eq).symm⟩

/-- Settles O12: RUN entry sets every block up and asks for a recompute, which finds no slot ACTIVE. -/
theorem listenExpiryEntersRun : Obligations.ListenExpiryEntersRun := by
  intro s moment listen timer short uplinks n pairs
  have ends : s.listenExpiry = (s.runSetUp moment).settle := by simp only [State.listenExpiry, timer, listen]; rfl
  have run : (s.runSetUp moment).inRun = true := rfl
  have beside := (s.runSetUp moment).settle_beside
  obtain ⟨length, uplink, pair, temp⟩ := scanListOf_spec s.cfg (n := n) (pairs := pairs) rfl rfl
  have records : (s.runSetUp moment).settle.spread.unflagged = (s.runSetUp moment).spread.unflagged := State.settle_unflagged _
  obtain ⟨r, held, unflagged⟩ := Spread.records_of_unflagged_eq records (r := newRecords s.cfg s.spread.lostCount) rfl
  obtain ⟨current, pending, loads, operators, figures⟩ := newRecords_read unflagged
  have start : (s.runSetUp moment).AtFloors (∀ i : Fin 8, s.alloc.slots[i].isActive = false) := by
    refine ⟨run, rfl, fun none_ i target applied active => ?_⟩
    have off := none_ i
    rw [show s.alloc.slots[i] = _ from active] at off
    cases off
  have floors := State.AtFloors.recomputes.settle start
  have ctl := beside.ctl
  have composer := beside.composer
  refine ⟨_, congrArg Host.Outcome.next ends, beside.node, beside.epoch, beside.listenTimer, ?_, ?_, beside.image, beside.port,
    beside.view, beside.handler, beside.store, ?_, ?_, fun k below => ?_, fun j below => ?_, ?_, beside.request, beside.floor, ?_,
    beside.mute, ?_, ⟨r, held, current, pending, loads, operators, figures⟩, fun none_ i target applied active => ?_,
    fun settled distinct room => ?_⟩
  · rw [beside.epochTimer, beside.clock]; rfl
  · rw [State.elapsed, beside.clock]
    exact s.le_elapsed_advanceTo moment (by omega)
  · rw [beside.scanner]; rfl
  · rw [beside.scanner]; exact length
  · rw [beside.scanner]; exact uplink k below
  · rw [beside.scanner]; exact pair j below
  · rw [beside.scanner]; exact temp
  · rw [beside.ramp, beside.clock]; rfl
  · rw [floors.beff, beside.cfg]; rfl
  · obtain ⟨c, config, floor⟩ := floors.floors none_ i target applied active
    rw [beside.cfg] at config
    exact ⟨c, config, floor⟩
  · have before : s.BeforeRecompute (s.runSetUp moment) := ⟨rfl, rfl, rfl, by simp [State.stamp, State.inRun, listen, State.runSetUp, State.setUpRun], fun _ => rfl⟩
    exact before.oneRecompute (State.settle_of_due (settled.follow.of_same rfl rfl rfl rfl) distinct room run)

end Sys2Proof.Machine
end

section
/-! PROOFS. The close of an epoch: the contributors of an operator, the move of its offset, and the set handed to the allocation unit. -/

namespace Sys2Proof.Machine

/-! ### Contributors (R62, R63) -/

/-- What an adjacent entry offers for an operator, case by case (R62, R63). -/
def offeredBy (operator : Nat) (x : Option Neighbour) : Option Contribution :=
  match x with
  | none => none
  | some n =>
    if n.state = .lost then some ⟨1000, true⟩
    else if n.state = .absent then none
    else match n.heard with
      | none => none
      | some h => (h.operators.find? fun a => a.operator == operator).map fun a =>
          ⟨a.load, a.constrained || decide (h.level = some .major ∨ h.level = some .critical)⟩

theorem levelConstrains_eq (level : Option Severity) :
    levelConstrains level = decide (level = some .major ∨ level = some .critical) := by
  cases level with
  | none => rfl
  | some severity => cases severity <;> rfl

theorem contribution_eq_offeredBy (operator : Nat) (x : Option Neighbour) : contribution operator x = offeredBy operator x := by
  cases x with
  | none => rfl
  | some n =>
    have heard (h : Option Heard) : (h.bind fun h => heardContribution h operator) = match h with
        | none => none
        | some h => (h.operators.find? fun a => a.operator == operator).map fun a =>
            ⟨a.load, a.constrained || decide (h.level = some .major ∨ h.level = some .critical)⟩ := by
      cases h with
      | none => rfl
      | some h => simp only [Option.bind_some, heardContribution, levelConstrains_eq]
    obtain ⟨id, state, h⟩ := n
    cases state with
    | lost => rfl
    | absent => rfl
    | live => exact heard h
    | suspect => exact heard h

theorem contributors_eq (view : View) (operator : Nat) : contributors view operator =
    ([0, 1, 2, 3, 4, 5, 6, 7] : List (Fin 16)).filterMap fun p => offeredBy operator view.table[p] := by
  have adjacent : view.adjacent = ([0, 1, 2, 3, 4, 5, 6, 7] : List (Fin 16)).map fun p => view.table[p] := by
    rw [View.adjacent, Vector.toList_eq_finRange, ← List.map_take]; rfl
  rw [contributors, adjacent, List.filterMap_map]
  congr 1
  funext p
  exact contribution_eq_offeredBy operator _

/-! ### The move of an offset (R65 to R70) -/

/-- The move of an offset at a close, case by case. -/
def movedOffset (mode : SpreadMode) (deadBand : Nat) (n : EpochCount) (cs : List Contribution) (load : Nat) (offset : Int) : Int :=
  let diff : Int := (load : Int) - ((cs.map Contribution.load).sum / cs.length : Nat)
  let d : Int := match mode with
    | .off => 0
    | .gentle => 2 * (deadBand : Int)
    | .normal => deadBand
    | .surge => (deadBand / 2 : Nat)
  let far := 4 * d < |diff|
  let jump : Int := match mode with
    | .off => 1
    | .gentle => 1
    | .normal => if far then 2 else 1
    | .surge => if far then 3 else 2
  let home : Int := if 0 < offset then offset - 1 else if offset < 0 then offset + 1 else 0
  if mode = .gentle ∧ n.toNat % 2 = 1 then offset
  else if mode = .off ∨ cs = [] then home
  else if |diff| ≤ d then offset
  else if diff < 0 then offset + jump
  else if ∀ c ∈ cs, c.constrained = true then offset
  else offset - jump

theorem towardZero_eq (offset : Int) :
    towardZero offset = if 0 < offset then offset - 1 else if offset < 0 then offset + 1 else 0 := by
  unfold towardZero
  split
  · rfl
  · split <;> omega

theorem stepByDifference_eq {mode : SpreadMode} (on : mode ≠ .off) (deadBand : Nat) (n : EpochCount) {cs : List Contribution}
    (some_ : cs ≠ []) (steps : stepsAt mode n = true) (load : Nat) (offset : Int) :
    stepByDifference mode deadBand load cs ((cs.map Contribution.load).sum / cs.length) offset = movedOffset mode deadBand n cs load offset := by
  have even : ¬ (mode = .gentle ∧ n.toNat % 2 = 1) := by
    rintro ⟨rfl, odd⟩
    simp [stepsAt, odd] at steps
  unfold stepByDifference movedOffset
  dsimp only
  have away : ¬ (mode = .off ∨ cs = []) := not_or.mpr ⟨on, some_⟩
  rw [if_neg even, if_neg away]
  have all : (cs.all Contribution.constrained = true) = ∀ c ∈ cs, c.constrained = true := by simp
  simp only [all]
  cases mode with
  | off => exact absurd rfl on
  | gentle => simp only [modeBand, modeStep, Nat.cast_mul, Nat.cast_ofNat]
  | normal =>
    by_cases far : 4 * (deadBand : Int) < |(load : Int) - ((cs.map Contribution.load).sum / cs.length : Nat)| <;>
      simp only [modeBand, modeStep, far, decide_true, decide_false, if_true, if_false]
  | surge =>
    by_cases far : 4 * ((deadBand / 2 : Nat) : Int) < |(load : Int) - ((cs.map Contribution.load).sum / cs.length : Nat)| <;>
      simp only [modeBand, modeStep, far, decide_true, decide_false, if_true, if_false]

/-- Stage 4 of a close for one operator. -/
theorem stepOffset_eq (mode : SpreadMode) (deadBand : Nat) (n : EpochCount) (cs : List Contribution) (load : Nat) (offset : Int) :
    (if stepsAt mode n then stepOffset mode deadBand load cs offset else offset) = movedOffset mode deadBand n cs load offset := by
  by_cases steps : stepsAt mode n = true
  · rw [if_pos steps]
    by_cases home : mode = .off ∨ cs = []
    · have even : ¬ (mode = .gentle ∧ n.toNat % 2 = 1) := by
        rintro ⟨rfl, odd⟩
        simp [stepsAt, odd] at steps
      have goes : stepOffset mode deadBand load cs offset = towardZero offset := by
        obtain rfl | rfl := home
        · rfl
        · cases mode <;> rfl
      rw [goes, towardZero_eq]
      unfold movedOffset
      dsimp only
      rw [if_neg even, if_pos home]
    · obtain ⟨on, some_⟩ := not_or.mp home
      rw [← stepByDifference_eq on deadBand n some_ steps]
      have averaged : average cs = some ((cs.map Contribution.load).sum / cs.length) := if_neg (by simpa using some_)
      unfold stepOffset
      rw [averaged]
      cases mode with
      | off => exact absurd rfl on
      | _ => rfl
  · rw [if_neg steps]
    have odd : mode = .gentle ∧ n.toNat % 2 = 1 := by
      cases mode with
      | gentle => exact ⟨rfl, by simpa [stepsAt] using steps⟩
      | _ => exact absurd rfl steps
    unfold movedOffset
    dsimp only
    rw [if_pos odd]

/-! ### The records and the set after a close -/

/-- An operator record after a close, apart from its mirror. -/
theorem closeRecords_getElem {image : Image} {view : View} {lostCount : Nat} {n : EpochCount} {occupancy : Fin 8 → Option Nat}
    {r r' : SpreadRun} (same : r'.unflagged = (closeRecords image view lostCount n occupancy r).unflagged) {k : Nat}
    {o o' : OperatorRecord} (there : r.operators[k]? = some o) (there' : r'.operators[k]? = some o') :
    o'.operator = o.operator ∧ o'.offset = min r'.smaxEff (max image.smin
      (movedOffset r.pendingMode image.deadBand n (contributors view o.operator) o'.load o.offset)) := by
  have figures := SpreadRun.operators_map_eq_of_unflagged_eq same (fun o => (o.operator, o.load, o.offset)) fun _ => rfl
  have smax : r'.smaxEff = smaxEffOf image r.pendingMode lostCount := congrArg SpreadRun.smaxEff same
  have at_k := congrArg (fun l : List (Nat × Nat × Int) => l[k]?) figures
  simp only [closeRecords, List.map_map, List.getElem?_map, there, there', Option.map_some, Function.comp_apply, closeOperator,
    Option.some.injEq, Prod.mk.injEq] at at_k
  obtain ⟨operator, load, offset⟩ := at_k
  rw [smax, load, ← stepOffset_eq]
  exact ⟨operator, offset⟩

theorem heldOffset_of_mem {set : List (Nat × Int)} (once : (set.map Prod.fst).Nodup) {k : Nat} {offset : Int}
    (mem : (k, offset) ∈ set) : heldOffset set k = offset := by
  rw [heldOffset_eq]
  cases found : set.find? fun x => x.1 == k with
  | none => exact absurd (List.find?_eq_none.mp found _ mem) (by simp)
  | some x =>
    have key : x.1 = k := by simpa using List.find?_some found
    rw [List.inj_on_of_nodup_map once (List.mem_of_find?_eq_some found) mem key]
    rfl

theorem SpreadRun.offsetsHanded_of_replaced {r : SpreadRun} {before after : Alloc}
    (offsets : after.offsets = replaceOffsets before.offsets (offsetSet r)) : r.OffsetsHanded before after := by
  have keys : (offsetSet r).map Prod.fst = r.operators.map OperatorRecord.operator := by
    rw [offsetSet, List.map_map]; rfl
  refine ⟨fun once o mem => ?_, fun k absent => ?_⟩
  · rw [offsets, heldOffset_replaceOffsets_of_mem _ _ (keys ▸ List.mem_map_of_mem mem)]
    exact heldOffset_of_mem (keys ▸ once) (List.mem_map.mpr ⟨o, mem, rfl⟩)
  · rw [offsets, heldOffset_replaceOffsets_of_not_mem]
    rw [keys]
    intro named
    obtain ⟨o, mem, rfl⟩ := List.mem_map.mp named
    exact absent o mem rfl

/-- The set rests on no mirror. -/
theorem offsetSet_of_unflagged {r r' : SpreadRun} (same : r'.unflagged = r.unflagged) : offsetSet r' = offsetSet r :=
  SpreadRun.operators_map_eq_of_unflagged_eq same (fun o => (o.operator, o.offset)) fun _ => rfl

end Sys2Proof.Machine
end

section
/-! PROOFS. The work of an epoch expiry: which entries of the fault table it spares, and what a beacon request drops. -/

namespace Sys2Proof.Machine

/-! ### Entries that a change of other conditions spares -/

/-- `t` agrees with the settled state `s` in the allocation unit and in the entries of the codes `spared`, and holds no more entries. -/
structure State.Spares (spared : FaultCode → Prop) (s t : State) : Prop where
  settled : t.Settled
  distinct : t.EntriesDistinct
  stamp : t.stamp = s.stamp
  alloc : t.alloc = s.alloc
  room : ∀ n, AtMost n s.supervisor.table → AtMost n t.supervisor.table
  entries : ∀ code subject, spared code → findEntry t.supervisor.table code subject = findEntry s.supervisor.table code subject

namespace State.Spares

variable {spared : FaultCode → Prop} {s t u : State}

theorem refl (settled : s.Settled) (distinct : s.EntriesDistinct) : State.Spares spared s s :=
  ⟨settled, distinct, rfl, rfl, fun _ => id, fun _ _ _ => rfl⟩

theorem trans (h : State.Spares spared s t) (k : State.Spares spared t u) : State.Spares spared s u :=
  ⟨k.settled, k.distinct, k.stamp.trans h.stamp, k.alloc.trans h.alloc, fun n few => k.room n (h.room n few),
    fun code subject mem => (k.entries code subject mem).trans (h.entries code subject mem)⟩

theorem of_same (h : State.Spares spared s t) (supervisor : u.supervisor = t.supervisor) (alloc : u.alloc = t.alloc)
    (stamp : u.stamp = t.stamp) : State.Spares spared s u :=
  ⟨h.settled.of_same supervisor alloc, by rw [State.EntriesDistinct, supervisor]; exact h.distinct, stamp.trans h.stamp,
    alloc.trans h.alloc, by rw [supervisor]; exact h.room, by rw [supervisor]; exact h.entries⟩

theorem clear (h : State.Spares spared s t) {code : FaultCode} (quiet : ¬ code.Asks) (other : ¬ spared code) (subject : Nat) :
    State.Spares spared s (t.clear code subject) := by
  have change := State.clear_of_not_asks h.settled quiet subject
  have table : (t.clear code subject).supervisor.table = tableClear t.supervisor.table code subject := by rw [change.supervisor]; rfl
  refine ⟨change.settled, entriesDistinct_changes.clear h.distinct _ _, change.step.stamp.trans h.stamp, change.step.alloc.trans h.alloc,
    fun n few => ?_, fun code' subject' mem => ?_⟩
  · rw [table]; exact (h.room n few).tableClear _ _
  · rw [table, findEntry_tableClear_of_other, h.entries code' subject' mem]
    rintro ⟨rfl, -⟩
    exact other mem

end State.Spares

/-! ### The window, the clash monitor and the re-credit timer -/

variable {spared : FaultCode → Prop} {s : State}

theorem State.closeNoiseWindow_spares (settled : s.Settled) (distinct : s.EntriesDistinct) (other : ¬ spared .trunkNoise) :
    State.Spares spared s s.closeNoiseWindow := by
  have start := State.Spares.refl (spared := spared) settled distinct
  have noise : State.Spares spared s s.settleNoise := by
    unfold State.settleNoise
    split
    · exact (start.of_same (u := s.setPort { s.port with noiseStanding := false, cleanRun := 0 }) rfl rfl rfl).clear
        FaultCode.trunkNoise_not_asks other 0
    · exact start
  exact noise.of_same rfl rfl rfl

theorem State.countClash_spares (settled : s.Settled) (distinct : s.EntriesDistinct) (other : ¬ spared .idClash) :
    State.Spares spared s s.countClash := by
  have start := State.Spares.refl (spared := spared) settled distinct
  have clash : State.Spares spared s s.settleClash := by
    unfold State.settleClash
    split
    · exact start
    · split
      · exact (start.of_same (u := s.setView { s.view with clash := none, clashCount := 0 }) rfl rfl rfl).clear
          FaultCode.idClash_not_asks other _
      · exact start
  unfold State.countClash
  dsimp only
  split
  · exact clash
  · exact clash.of_same rfl rfl rfl

/-- An entry of a code below MAJOR is renewed no credit. -/
theorem findEntry_renewCredits_of_mild {t : FaultTable} {code : FaultCode} (mild : code.severity.serious = false) (subject : Nat) :
    findEntry (renewCredits t) code subject = findEntry t code subject := by
  rw [renewCredits_eq, findEntry_mapEntries fun e => by split <;> rfl]
  cases found : findEntry t code subject with
  | none => rfl
  | some x =>
    have silent : x.2.alarms = false := by
      rw [FaultEntry.alarms, (findEntry_eq_some_iff.mp found).2.1.1, mild, Bool.and_false]
    simp [silent]

/-- The re-credit timer spares the entries below MAJOR, and with no re-credit due every entry. -/
theorem State.countReCredit_spares (settled : s.Settled) (distinct : s.EntriesDistinct)
    (mild : s.supervisor.reCreditDue = true → ∀ code, spared code → code.severity.serious = false) :
    State.Spares spared s s.countReCredit := by
  have credit : State.Spares spared s s.settleReCredit := by
    unfold State.settleReCredit
    split
    next due =>
      have table : renewCredits s.supervisor.table = _ := renewCredits_eq _
      refine ⟨⟨?_, settled.taken⟩, ?_, rfl, rfl, fun n few => few.of_held fun p => ?_, fun code subject mem => ?_⟩
      · exact settled.follow.of_mapEntries (keepsCodeAndState_credit _ _) (renewCredits_eq _) rfl rfl
      · rw [State.EntriesDistinct, State.setSupervisor_supervisor, table]
        exact (KeysFrom.mapEntries fun e => by split <;> rfl).distinct distinct
      · rw [State.setSupervisor_supervisor, table, mapEntries_getElem]
        simp
      · exact findEntry_renewCredits_of_mild (mild due code mem) subject
    next => exact .refl settled distinct
  unfold State.countReCredit
  dsimp only
  split
  all_goals
    exact ⟨⟨credit.settled.follow.of_same rfl rfl rfl rfl, credit.settled.taken⟩, credit.distinct, credit.stamp, credit.alloc, credit.room,
      credit.entries⟩

/-! ### Dropped beacons (R17, R18) -/

/-- The port after a drop: the count rises, and with the fifth TRUNK_BUSY stands (R18). -/
def Port.dropped (p : Port) : Port :=
  { p with failures := min 255 (p.failures + 1), busyStanding := p.busyStanding || decide (p.failures = 4) }

theorem State.dropBeacon_port (s : State) : s.dropBeacon.port = s.port.dropped := by
  by_cases fourth : s.port.failures = 4
  · rw [State.dropBeacon_of_fifth fourth, (State.raise_beside _ _ _).port]
    simp [Port.dropped, fourth, State.setPort]
  · rw [State.dropBeacon_of_few fourth]
    simp [Port.dropped, fourth, State.setPort]

/-- Drops lead from the settled state `s` to `t`: the entry of TRUNK_BUSY is raised where the count passes 4, and no other is touched. -/
structure State.DropStep (s t : State) : Prop where
  settled : t.Settled
  distinct : t.EntriesDistinct
  stamp : t.stamp = s.stamp
  alloc : t.alloc = s.alloc
  grows : 5 ≤ s.port.failures → 5 ≤ t.port.failures
  room : t.port.failures < 5 → AtMost 23 t.supervisor.table
  raised : s.port.failures < 5 → 5 ≤ t.port.failures →
    RaisedAmong s.supervisor.table t.supervisor.table .trunkBusy 0 s.stamp
  stands : 5 ≤ s.port.failures ∨ t.port.failures < 5 →
    findEntry t.supervisor.table .trunkBusy 0 = findEntry s.supervisor.table .trunkBusy 0
  others : ∀ code subject, code ≠ .trunkBusy → findEntry t.supervisor.table code subject = findEntry s.supervisor.table code subject

namespace State.DropStep

variable {s t u : State}

theorem trans (h : s.DropStep t) (k : t.DropStep u) : s.DropStep u where
  settled := k.settled
  distinct := k.distinct
  stamp := k.stamp.trans h.stamp
  alloc := k.alloc.trans h.alloc
  grows := k.grows ∘ h.grows
  room := k.room
  raised few many := by
    by_cases passed : 5 ≤ t.port.failures
    · exact (h.raised few passed).of_found rfl (k.stands (.inl passed))
    · exact h.stamp ▸ (k.raised (by omega) many).of_found (h.stands (.inr (by omega))).symm rfl
  stands out := by
    have grows := h.grows
    have grows' := k.grows
    exact (k.stands (by omega)).trans (h.stands (by omega))
  others code subject other := (k.others code subject other).trans (h.others code subject other)

theorem of_same (settled : s.Settled) (distinct : s.EntriesDistinct) (room : s.port.failures < 5 → AtMost 23 s.supervisor.table)
    (supervisor : t.supervisor = s.supervisor) (alloc : t.alloc = s.alloc) (stamp : t.stamp = s.stamp)
    (failures : t.port.failures = s.port.failures) : s.DropStep t where
  settled := settled.of_same supervisor alloc
  distinct := by rw [State.EntriesDistinct, supervisor]; exact distinct
  stamp := stamp
  alloc := alloc
  grows many := by omega
  room := by rw [failures, supervisor]; exact room
  raised few many := by omega
  stands _ := by rw [supervisor]
  others _ _ _ := by rw [supervisor]

/-- The rest of the state may change as it does. -/
theorem congr (h : s.DropStep t) (supervisor : u.supervisor = t.supervisor) (alloc : u.alloc = t.alloc) (stamp : u.stamp = t.stamp)
    (failures : u.port.failures = t.port.failures) : s.DropStep u :=
  h.trans (.of_same h.settled h.distinct h.room supervisor alloc stamp failures)

theorem dropBeacon (h : s.DropStep t) : s.DropStep t.dropBeacon := by
  refine h.trans ?_
  have failures : t.dropBeacon.port.failures = min 255 (t.port.failures + 1) := by rw [State.dropBeacon_port]; rfl
  by_cases fourth : t.port.failures = 4
  · have settled' : (t.setPort { t.port with failures := 5, busyStanding := true }).Settled := h.settled.of_same rfl rfl
    have room := (h.room (by omega)).roomFor (by omega) .trunkBusy 0
    have quiet := State.raise_of_room settled' FaultCode.trunkBusy_not_asks 0 room
    have eq := State.dropBeacon_of_fifth fourth
    rw [← eq] at quiet
    have table : t.dropBeacon.supervisor.table = (tableRaise t.supervisor.table .trunkBusy 0 t.stamp).table := by rw [quiet.supervisor]; rfl
    refine ⟨quiet.settled, ?_, quiet.step.stamp, quiet.step.alloc, fun many => by omega, fun few => by omega, fun _ _ => ?_, fun out => by omega,
      fun code subject other => ?_⟩
    · rw [State.EntriesDistinct, table]; exact tableRaise_distinct h.distinct _ _ _
    · rw [table]; exact (raisedIn_tableRaise _ _ _ _).among room
    · rw [table]; exact findEntry_tableRaise_of_other _ room fun same => other same.1
  · rw [State.dropBeacon_of_few fourth]
    refine ⟨h.settled.of_same rfl rfl, h.distinct, rfl, rfl, ?_, fun few => h.room ?_, fun few many => ?_, fun _ => rfl, fun _ _ _ => rfl⟩
    · rw [State.setPort_port]; dsimp only; omega
    · rw [State.setPort_port] at few; dsimp only at few; omega
    · rw [State.setPort_port] at many; dsimp only at many; omega

end State.DropStep

/-! ### A beacon request (R17, R142, R143) -/

theorem State.supersedeRequest_drops {s t : State} (h : s.DropStep t) : s.DropStep t.supersedeRequest := by
  unfold State.supersedeRequest
  split
  · exact State.DropStep.dropBeacon (t := (t.setComposer { t.composer with request := none }).setPort { t.port with beaconWaiting := false })
      (h.congr rfl rfl rfl rfl)
  · exact h

theorem Port.markOnLine_failures (p : Port) (f : Attempt → Attempt) : (p.markOnLine f).failures = p.failures := by
  unfold Port.markOnLine; split <;> rfl

theorem Port.endContention_failures (p : Port) : p.endContention.failures = p.failures := by
  unfold Port.endContention
  repeat' split
  all_goals rfl

theorem State.supersedeBeacon_drops {s t : State} (h : s.DropStep t) : s.DropStep t.supersedeBeacon := by
  unfold State.supersedeBeacon
  split
  · exact h.congr rfl rfl rfl (Port.markOnLine_failures _ _)
  · split
    · exact h
    · have left : s.DropStep (t.setPort ({ t.port with beacon := none }).endContention) :=
        h.congr rfl rfl rfl (Port.endContention_failures { t.port with beacon := none })
      exact left.dropBeacon

theorem State.requestBeacon_drops {s : State} (settled : s.Settled) (distinct : s.EntriesDistinct)
    (room : s.port.failures < 5 → AtMost 23 s.supervisor.table) : s.DropStep s.requestBeacon := by
  have start : s.DropStep s := .of_same settled distinct room rfl rfl rfl rfl
  unfold State.requestBeacon
  split
  · exact start
  · exact (State.supersedeBeacon_drops (State.supersedeRequest_drops start)).congr rfl rfl rfl rfl

end Sys2Proof.Machine
end

section
/-! PROOFS. An epoch expiry taken whole: the close of the loads with its recompute, and then the work of the expiry. -/

namespace Sys2Proof.Machine

/-! ### The re-credit timer through changes -/

theorem State.raisedSupervisor_credits (s : State) (code : FaultCode) (subject : Nat) :
    (s.raisedSupervisor code subject).reCreditCount = s.supervisor.reCreditCount ∧
      (s.raisedSupervisor code subject).reCreditDue = s.supervisor.reCreditDue := by
  unfold State.raisedSupervisor State.serious
  dsimp only
  repeat' split
  all_goals exact ⟨rfl, rfl⟩

/-- Changes of the table leave the re-credit timer alone (R154). -/
theorem reCredit_changes (count : Nat) (due : Bool) :
    KeptByChanges fun s => s.supervisor.reCreditCount = count ∧ s.supervisor.reCreditDue = due where
  raiseOnly {s} code subject h := by
    obtain ⟨count', due'⟩ := s.raisedSupervisor_credits code subject
    rw [State.raiseOnly_supervisor, count', due']; exact h
  clearOnly code subject h := by rw [State.clearOnly_supervisor]; exact h
  ackOneOnly number subject h := by
    unfold State.ackOneOnly
    split
    · exact h
    · rw [State.handOutputs_supervisor]; exact h
  ackAllOnly h := by rw [State.ackAllOnly, State.handOutputs_supervisor]; exact h
  marks _ h := h
  reallocate _ h := h

/-! ### The close of the loads (R49, R59) -/

/-- The state at a close once the records are stepped and the set is taken, the recompute still to come. -/
def State.closedSet (s : State) (r : SpreadRun) : State :=
  let closed := closeRecords s.cfg s.view s.spread.lostCount s.ctl.epoch s.occupancyItem r
  let u := s.setSpread { s.spread with records := some closed }
  u.setAlloc { u.alloc with offsets := replaceOffsets u.alloc.offsets (offsetSet closed), recomputeDue := u.inRun }

theorem State.closeLoads_eq {s : State} {r : SpreadRun} (held : s.spread.records = some r) :
    s.closeLoads = (s.closedSet r).settle.openWindows := by
  rw [State.closeLoads, State.spreadClose, held]; rfl

/-- The close in RUN of a settled state: what its one recompute did, and what the expiry goes on with. -/
theorem State.closeLoads_judged {s : State} {r : SpreadRun} (run : s.inRun = true)
    (settled : s.Settled) (distinct : s.EntriesDistinct) (room : AtMost 16 s.supervisor.table) :
    (s.closedSet r).reallocate.FloorsJudged (s.closedSet r).settle (s.closedSet r).alloc.slots (List.finRange 8) :=
  State.settle_of_due (settled.follow.of_same rfl rfl rfl rfl) distinct room run

/-- The work of an expiry that does not drop beacons spares all but the trunk's noise and the clash. -/
theorem State.expiryCounts_spares {s : State} {spared : FaultCode → Prop} (settled : s.Settled) (distinct : s.EntriesDistinct)
    (noise : ¬ spared .trunkNoise) (clash : ¬ spared .idClash)
    (mild : s.supervisor.reCreditDue = true → ∀ code, spared code → code.severity.serious = false) :
    State.Spares spared s s.closeNoiseWindow.countClash.countReCredit := by
  have first := State.closeNoiseWindow_spares settled distinct noise
  have second := State.countClash_spares first.settled first.distinct clash
  have due : s.closeNoiseWindow.countClash.supervisor.reCreditDue = s.supervisor.reCreditDue := by
    have noise' : s.settleNoise.supervisor.reCreditDue = s.supervisor.reCreditDue := by
      unfold State.settleNoise
      split
      · exact ((reCredit_changes _ _).clear (s := s.setPort { s.port with noiseStanding := false, cleanRun := 0 }) ⟨rfl, rfl⟩ _ _).2
      · rfl
    have clash' (u : State) : u.countClash.supervisor.reCreditDue = u.supervisor.reCreditDue := by
      have settle : u.settleClash.supervisor.reCreditDue = u.supervisor.reCreditDue := by
        unfold State.settleClash
        split
        · rfl
        · split
          · exact ((reCredit_changes _ _).clear (s := u.setView { u.view with clash := none, clashCount := 0 }) ⟨rfl, rfl⟩ _ _).2
          · rfl
      unfold State.countClash
      dsimp only
      split <;> exact settle
    exact (clash' _).trans noise'
  exact (first.trans second).trans (State.countReCredit_spares second.settled second.distinct (due ▸ mild))

/-- An expiry in RUN: the moment, the close, the work, and the epoch's count. -/
theorem State.runExpiry_eq {s : State} {moment : Ms} (run : s.ctl.node = .run) (timer : s.ctl.epochTimer = some moment) :
    s.runExpiry = (s.epochMoment moment s.cfg.period).closeLoads.expiryWork.raiseEpoch := by
  simp [State.runExpiry, run, timer, State.closeEpoch]

/-! ### What the work of an expiry leaves alone -/

/-- `t` agrees with `s` in what the work of an expiry leaves alone. -/
structure State.WorkStep (s t : State) : Prop where
  table : t.view.table = s.view.table
  scanner : t.scanner = s.scanner
  handler : t.handler = s.handler
  store : t.store = s.store
  offsets : t.alloc.offsets = s.alloc.offsets

namespace State.WorkStep

variable {s t u : State}

theorem refl (s : State) : s.WorkStep s := ⟨rfl, rfl, rfl, rfl, rfl⟩

theorem trans (h : s.WorkStep t) (k : t.WorkStep u) : s.WorkStep u :=
  ⟨k.table.trans h.table, k.scanner.trans h.scanner, k.handler.trans h.handler, k.store.trans h.store, k.offsets.trans h.offsets⟩

theorem of_beside (h : s.Beside t) : s.WorkStep t := ⟨by rw [h.view], h.scanner, h.handler, h.store, h.offsets⟩

theorem dropBeacon (s : State) : s.WorkStep s.dropBeacon :=
  State.WorkStep.trans (t := s.setPort s.dropBeacon.port) ⟨rfl, rfl, rfl, rfl, rfl⟩ (of_beside s.dropBeacon_beside.1)

theorem closeNoiseWindow (s : State) : s.WorkStep s.closeNoiseWindow := by
  have noise : s.WorkStep s.settleNoise := by
    unfold State.settleNoise
    split
    · exact State.WorkStep.trans (t := s.setPort { s.port with noiseStanding := false, cleanRun := 0 }) ⟨rfl, rfl, rfl, rfl, rfl⟩
        (of_beside (State.clear_beside _ _ _))
    · exact .refl s
  exact noise.trans ⟨rfl, rfl, rfl, rfl, rfl⟩

theorem countClash (s : State) : s.WorkStep s.countClash := by
  obtain ⟨beside, view⟩ := s.settleClash_beside
  have settle : s.WorkStep s.settleClash :=
    State.WorkStep.trans (t := s.setView s.settleClash.view) ⟨by rw [State.setView_view, view], rfl, rfl, rfl, rfl⟩ (of_beside beside)
  unfold State.countClash
  dsimp only
  split
  · exact settle
  · exact settle.trans ⟨rfl, rfl, rfl, rfl, rfl⟩

theorem countReCredit (s : State) : s.WorkStep s.countReCredit := by
  unfold State.countReCredit State.settleReCredit
  dsimp only
  repeat' split
  all_goals exact ⟨rfl, rfl, rfl, rfl, rfl⟩

theorem requestBeacon (s : State) : s.WorkStep s.requestBeacon := by
  have request (u : State) : u.WorkStep u.supersedeRequest := by
    unfold State.supersedeRequest
    split
    · exact State.WorkStep.trans (t := (u.setComposer { u.composer with request := none }).setPort { u.port with beaconWaiting := false })
        ⟨rfl, rfl, rfl, rfl, rfl⟩ (dropBeacon _)
    · exact .refl u
  have beacon (u : State) : u.WorkStep u.supersedeBeacon := by
    unfold State.supersedeBeacon
    split
    · exact ⟨rfl, rfl, rfl, rfl, rfl⟩
    · split
      · exact .refl u
      · exact State.WorkStep.trans (t := u.setPort ({ u.port with beacon := none }).endContention) ⟨rfl, rfl, rfl, rfl, rfl⟩ (dropBeacon _)
  unfold State.requestBeacon
  split
  · exact .refl s
  · exact ((request s).trans (beacon _)).trans ⟨rfl, rfl, rfl, rfl, rfl⟩

theorem expiryWork (s : State) : s.WorkStep s.expiryWork :=
  (((closeNoiseWindow s).trans (countClash _)).trans (countReCredit _)).trans (requestBeacon _)

end State.WorkStep

/-! ### The offsets at a close (R59, R74) -/

/-- The work of an expiry spares the entries of FLOOR_SHED and the allocation unit where no re-credit is due. -/
theorem State.expiryWork_floors {s : State} (settled : s.Settled) (distinct : s.EntriesDistinct) (room : AtMost 23 s.supervisor.table)
    (due : s.supervisor.reCreditDue = false) : s.expiryWork.alloc = s.alloc ∧
      ∀ subject, findEntry s.expiryWork.supervisor.table .floorShed subject = findEntry s.supervisor.table .floorShed subject := by
  have counts := State.expiryCounts_spares (spared := fun code => code = .floorShed) settled distinct (by decide) (by decide)
    fun isDue => by cases due.symm.trans isDue
  have drops := State.requestBeacon_drops counts.settled counts.distinct fun _ => counts.room 23 room
  exact ⟨drops.alloc.trans counts.alloc, fun subject =>
    (drops.others _ subject (by decide)).trans (counts.entries _ subject rfl)⟩

/-- Settles O29: the close steps the offsets and hands the set; its recompute comes before the other work of the expiry. -/
theorem epochCloseStepsOffsets : Obligations.EpochCloseStepsOffsets := by
  intro s moment r run timer held offered
  obtain ⟨r', records, same⟩ := State.runExpiry_records run timer held
  have ends := State.runExpiry_eq run timer
  have heldThere : (s.epochMoment moment s.cfg.period).spread.records = some r := held
  have close := State.closeLoads_eq heldThere
  have work := State.WorkStep.expiryWork (s.epochMoment moment s.cfg.period).closeLoads
  refine ⟨s.runExpiry, r', rfl, records, congrArg SpreadRun.current same, ?_, congrArg SpreadRun.smaxEff same,
    fun k o o' there there' => ?_, fun settled distinct room due => ?_⟩
  · refine SpreadRun.offsetsHanded_of_replaced ?_
    rw [ends, offsetSet_of_unflagged same]
    refine work.offsets.trans ?_
    rw [close]
    exact (State.settle_beside ((s.epochMoment moment s.cfg.period).closedSet r)).offsets
  · obtain ⟨operator, offset⟩ := closeRecords_getElem same there there'
    refine ⟨operator, offset.trans ?_⟩
    rw [contributors_eq]
    rfl
  · have judged := State.closeLoads_judged (s := s.epochMoment moment s.cfg.period) (r := r) (by simpa [State.inRun] using run)
      (settled.of_same rfl rfl) distinct (room.mono (by omega))
    have before : s.BeforeRecompute ((s.epochMoment moment s.cfg.period).closedSet r) := ⟨rfl, rfl, rfl, rfl, fun _ => rfl⟩
    have notDue : (s.epochMoment moment s.cfg.period).closeLoads.supervisor.reCreditDue = false := by
      rw [close]
      exact ((reCredit_changes _ false).settle (s := (s.epochMoment moment s.cfg.period).closedSet r) ⟨rfl, due⟩).2
    have few : AtMost 23 (s.epochMoment moment s.cfg.period).closeLoads.supervisor.table := by
      rw [close]; exact judged.room 15 room
    obtain ⟨alloc, entries⟩ := State.expiryWork_floors (s := (s.epochMoment moment s.cfg.period).closeLoads)
      (close ▸ judged.settled.of_same rfl rfl) (close ▸ judged.distinct) few notDue
    rw [ends]
    refine (before.oneRecompute judged).congr ?_ fun subject => ?_
    · exact alloc.trans (by rw [close]; rfl)
    · exact (entries subject).trans (by rw [close]; rfl)

end Sys2Proof.Machine
end

section
/-! PROOFS. O27: the records of an epoch expiry, part by part. -/

namespace Sys2Proof.Machine

/-! ### The port (R14, R15, R17, R18) -/

/-- The port once a clean run of windows that ended TRUNK_NOISE is taken note of (R15). -/
def Port.noiseSettled (p : Port) : Port :=
  if p.noiseStanding = true ∧ 4 ≤ p.cleanRun then { p with noiseStanding := false, cleanRun := 0 } else p

/-- The port at the end of a window of bad frames (R14, R15). -/
def Port.windowClosed (p : Port) : Port :=
  let q := p.noiseSettled
  { q with badFrames := 0, cleanRun := if q.noiseStanding then (if q.badFrames < 4 then q.cleanRun + 1 else 0) else 0 }

theorem State.settleNoise_port (s : State) : s.settleNoise.port = s.port.noiseSettled := by
  unfold State.settleNoise Port.noiseSettled
  split
  · exact (State.clear_beside _ _ _).port
  · rfl

theorem State.closeNoiseWindow_port (s : State) : s.closeNoiseWindow.port = s.port.windowClosed := by
  simp only [State.closeNoiseWindow, State.setPort_port, State.settleNoise_port]; rfl

/-- The port once a request, or a beacon that waits for the slot, is superseded (R17). -/
def Port.requestSuperseded (p : Port) (pending : Bool) : Port :=
  if pending then ({ p with beaconWaiting := false } : Port).dropped else p

/-- The port once the beacon in the slot is superseded (R17). -/
def Port.slotSuperseded (p : Port) : Port :=
  if p.beaconOnLine then p.markOnLine supersede
  else if p.beacon.isSome then (({ p with beacon := none } : Port).endContention).dropped else p

theorem State.supersedeRequest_port (s : State) :
    s.supersedeRequest.port = s.port.requestSuperseded (s.composer.request.isSome || s.port.beaconWaiting) := by
  unfold State.supersedeRequest Port.requestSuperseded
  split
  · rw [State.dropBeacon_port]; rfl
  · rfl

theorem State.supersedeBeacon_port (s : State) : s.supersedeBeacon.port = s.port.slotSuperseded := by
  unfold State.supersedeBeacon Port.slotSuperseded
  split
  · rfl
  · cases s.port.beacon with
    | none => rfl
    | some n => rw [State.dropBeacon_port]; rfl

theorem State.requestBeacon_of_silent {s : State} (silent : s.port.quiet = true ∨ s.ownId = none) : s.requestBeacon = s := by
  unfold State.requestBeacon
  exact if_pos (by simpa using silent)

theorem State.jitterTop_congr {s t : State} (ctl : t.ctl = s.ctl) : t.jitterTop = s.jitterTop := by
  unfold State.jitterTop State.inRun State.cfg; rw [ctl]

theorem State.requestBeacon_of_heard {s : State} (quiet : s.port.quiet = false) (known : s.ownId ≠ none) :
    s.requestBeacon.port = (s.port.requestSuperseded (s.composer.request.isSome || s.port.beaconWaiting)).slotSuperseded ∧
      ∃ r, s.requestBeacon.composer.request = some r ∧ r.since = s.ctl.clock ∧ r.jitter ≤ s.jitterTop := by
  have speaks : ¬ (s.port.quiet || s.ownId.isNone) = true := by simp [quiet, known]
  have ctl : s.supersedeRequest.supersedeBeacon.ctl = s.ctl := by simp
  have top : s.supersedeRequest.supersedeBeacon.jitterTop = s.jitterTop := State.jitterTop_congr ctl
  unfold State.requestBeacon
  rw [if_neg speaks]
  refine ⟨?_, _, rfl, by rw [ctl], ?_⟩
  · exact (State.supersedeBeacon_port _).trans (by rw [State.supersedeRequest_port])
  · exact top ▸ State.nextDraw_le _ _

/-- `n` beacons of the port `p` are dropped, which leaves the port `q` (R17, R18). -/
structure Port.Drops (p q : Port) (n : Nat) : Prop where
  answers : q.answers = p.answers
  noise : q.noiseStanding = p.noiseStanding ∧ q.cleanRun = p.cleanRun ∧ q.badFrames = p.badFrames
  failures : p.failures + n ≤ 255 → q.failures = p.failures + n
  grows : 5 ≤ p.failures → 5 ≤ q.failures
  stands : p.failures < 5 → 5 ≤ q.failures → q.busyStanding = true
  kept : 5 ≤ p.failures ∨ q.failures < 5 → q.busyStanding = p.busyStanding

theorem Port.Drops.trans {p q r : Port} {n m : Nat} (h : p.Drops q n) (k : q.Drops r m) : p.Drops r (n + m) where
  answers := k.answers.trans h.answers
  noise := ⟨k.noise.1.trans h.noise.1, k.noise.2.1.trans h.noise.2.1, k.noise.2.2.trans h.noise.2.2⟩
  failures few := by
    have first := h.failures (by omega)
    exact (k.failures (by omega)).trans (by omega)
  grows := k.grows ∘ h.grows
  stands few many := by
    by_cases passed : 5 ≤ q.failures
    · exact (k.kept (.inl passed)).trans (h.stands few passed)
    · exact k.stands (by omega) many
  kept out := by
    have grows := h.grows
    have grows' := k.grows
    exact (k.kept (by omega)).trans (h.kept (by omega))

theorem Port.Drops.of_same {p q : Port} (answers : q.answers = p.answers)
    (noise : q.noiseStanding = p.noiseStanding ∧ q.cleanRun = p.cleanRun ∧ q.badFrames = p.badFrames)
    (failures : q.failures = p.failures) (busy : q.busyStanding = p.busyStanding) : p.Drops q 0 :=
  ⟨answers, noise, fun _ => failures, fun many => by omega, fun few many => by omega, fun _ => busy⟩

theorem Port.Drops.dropped (p : Port) : p.Drops p.dropped 1 := by
  have failures : p.dropped.failures = min 255 (p.failures + 1) := rfl
  have busy : p.dropped.busyStanding = (p.busyStanding || decide (p.failures = 4)) := rfl
  refine ⟨rfl, ⟨rfl, rfl, rfl⟩, fun few => by omega, fun many => by omega, fun few many => ?_, fun out => ?_⟩
  · rw [busy, decide_eq_true (by omega), Bool.or_true]
  · rw [busy, decide_eq_false (by omega), Bool.or_false]

theorem Port.requestSuperseded_drops (p : Port) (pending : Bool) :
    p.Drops (p.requestSuperseded pending) (if pending then 1 else 0) := by
  cases pending with
  | false => exact .of_same rfl ⟨rfl, rfl, rfl⟩ rfl rfl
  | true =>
    have left : p.Drops { p with beaconWaiting := false } 0 := .of_same rfl ⟨rfl, rfl, rfl⟩ rfl rfl
    exact left.trans (.dropped _)

theorem Port.markOnLine_fields (p : Port) (f : Attempt → Attempt) : p.markOnLine f = { p with tx := (p.markOnLine f).tx } := by
  unfold Port.markOnLine; split <;> rfl

theorem Port.endContention_fields (p : Port) : p.endContention = { p with tx := p.endContention.tx } := by
  unfold Port.endContention
  repeat' split
  all_goals rfl

theorem Port.slotSuperseded_drops (p : Port) :
    p.Drops p.slotSuperseded (if p.beacon.isSome && !p.beaconOnLine then 1 else 0) := by
  unfold Port.slotSuperseded
  cases online : p.beaconOnLine with
  | true =>
    have same : p.Drops (p.markOnLine supersede) 0 := by rw [p.markOnLine_fields]; exact .of_same rfl ⟨rfl, rfl, rfl⟩ rfl rfl
    simpa using same
  | false =>
    cases slot : p.beacon with
    | none => exact .of_same rfl ⟨rfl, rfl, rfl⟩ rfl rfl
    | some n =>
      have left : p.Drops ({ p with beacon := none } : Port).endContention 0 := by
        rw [Port.endContention_fields]; exact .of_same rfl ⟨rfl, rfl, rfl⟩ rfl rfl
      exact left.trans (.dropped _)

/-- The slot after a request: a beacon on the line goes on as superseded, and any other is gone (R17). -/
structure Port.SlotSuperseded (p q : Port) : Prop where
  waiting : q.beaconWaiting = p.beaconWaiting
  online : ∀ bytes doom, p.tx = .sending ⟨.beacon, bytes, doom⟩ → q.beacon = p.beacon ∧
    q.tx = .sending ⟨.beacon, bytes, if doom = .withdrawn then .withdrawn else .superseded⟩
  offline : p.beaconOnLine = false → q.beacon = none

theorem Port.slotSuperseded_slot (p : Port) : p.SlotSuperseded p.slotSuperseded := by
  unfold Port.slotSuperseded
  cases online : p.beaconOnLine with
  | true =>
    refine ⟨by rw [p.markOnLine_fields]; rfl, fun bytes doom sending => ?_, fun off => by cases online.symm.trans off⟩
    have marked : p.markOnLine supersede = { p with tx := .sending (supersede ⟨.beacon, bytes, doom⟩) } := by
      rw [Port.markOnLine, sending]
    rw [if_pos rfl, marked]
    exact ⟨rfl, by cases doom <;> rfl⟩
  | false =>
    have off : ∀ bytes doom, p.tx ≠ .sending ⟨.beacon, bytes, doom⟩ := fun bytes doom sending => by
      cases online.symm.trans (Port.beaconOnLine_of_beacon sending)
    cases slot : p.beacon with
    | none => exact ⟨rfl, fun bytes doom sending => absurd sending (off bytes doom), fun _ => slot⟩
    | some n =>
      refine ⟨?_, fun bytes doom sending => absurd sending (off bytes doom), fun _ => ?_⟩ <;>
        simp only [Bool.false_eq_true, if_false, Option.isSome_some, if_true, Port.dropped] <;> rw [Port.endContention_fields]

theorem Port.requestSuperseded_fields (p : Port) (pending : Bool) : (p.requestSuperseded pending).tx = p.tx ∧
    (p.requestSuperseded pending).beacon = p.beacon ∧ (p.requestSuperseded pending).beaconWaiting = (p.beaconWaiting && !pending) := by
  unfold Port.requestSuperseded
  cases pending <;> simp [Port.dropped]

/-! ### The counts (R15, R34, R154) -/

/-- The run of clean windows, the clash and the re-credit timer after an expiry. -/
def State.Counted (s t : State) : Prop :=
  (s.port.noiseStanding = false → t.port.noiseStanding = false ∧ t.port.cleanRun = 0) ∧
  (s.port.noiseStanding = true → s.port.cleanRun < 4 → t.port.noiseStanding = true ∧
    t.port.cleanRun = if s.port.badFrames < 4 then s.port.cleanRun + 1 else 0) ∧
  (s.view.clash = none → t.view = s.view) ∧
  (∀ id, s.view.clash = some id → s.view.clashCount < 16 →
    t.view = { s.view with clashCount := s.view.clashCount + 1 }) ∧
  t.supervisor.reCreditCount = (if s.supervisor.reCreditCount = 63 then 0 else s.supervisor.reCreditCount + 1) ∧
  t.supervisor.reCreditDue = decide (s.supervisor.reCreditCount = 63)

theorem State.Counted.of_same {s u t : State} (h : u.Counted t) (port : u.port = s.port) (view : u.view = s.view)
    (credit : u.supervisor.reCreditCount = s.supervisor.reCreditCount) : s.Counted t := by
  unfold State.Counted at h ⊢
  rw [port, view, credit] at h
  exact h

theorem Port.windowClosed_noise (p : Port) :
    (p.noiseStanding = false → p.windowClosed.noiseStanding = false ∧ p.windowClosed.cleanRun = 0) ∧
    (p.noiseStanding = true → p.cleanRun < 4 → p.windowClosed.noiseStanding = true ∧
      p.windowClosed.cleanRun = if p.badFrames < 4 then p.cleanRun + 1 else 0) ∧ p.windowClosed.badFrames = 0 := by
  refine ⟨fun ended => ?_, fun stands few => ?_, rfl⟩
  · simp [Port.windowClosed, Port.noiseSettled, ended]
  · have young : ¬ 4 ≤ p.cleanRun := by omega
    simp [Port.windowClosed, Port.noiseSettled, stands, young]

/-- The port at the end of a window agrees with the port before in all but the noise. -/
theorem Port.windowClosed_rest (p : Port) : p.windowClosed = { p with
    noiseStanding := p.windowClosed.noiseStanding, badFrames := p.windowClosed.badFrames, cleanRun := p.windowClosed.cleanRun } := by
  unfold Port.windowClosed Port.noiseSettled
  split <;> rfl

theorem State.countClash_port (s : State) : s.countClash.port = s.port := by
  have settle : s.settleClash.port = s.port := s.settleClash_beside.1.port
  unfold State.countClash
  dsimp only
  split <;> exact settle

theorem State.countClash_view (s : State) : (s.view.clash = none → s.countClash.view = s.view) ∧
    ∀ id, s.view.clash = some id → s.view.clashCount < 16 →
      s.countClash.view = { s.view with clashCount := s.view.clashCount + 1 } := by
  refine ⟨fun none_ => ?_, fun id some_ few => ?_⟩
  · simp [State.countClash, State.settleClash, none_]
  · have young : ¬ 16 ≤ s.view.clashCount := by omega
    simp [State.countClash, State.settleClash, some_, young, State.setView]

theorem State.countReCredit_rest (s : State) : s.countReCredit = s.setSupervisor s.countReCredit.supervisor := by
  unfold State.countReCredit State.settleReCredit
  dsimp only
  repeat' split
  all_goals rfl

theorem State.countReCredit_credits (s : State) :
    s.countReCredit.supervisor.reCreditCount = (if s.supervisor.reCreditCount = 63 then 0 else s.supervisor.reCreditCount + 1) ∧
      s.countReCredit.supervisor.reCreditDue = decide (s.supervisor.reCreditCount = 63) := by
  unfold State.countReCredit State.settleReCredit
  by_cases last : s.supervisor.reCreditCount = 63 <;> cases due : s.supervisor.reCreditDue <;>
    simp [last, due, State.setSupervisor]

/-! ### The records the work goes on with -/

/-- `t` agrees with `s` in the view and in the re-credit timer. -/
structure State.SameCounts (s t : State) : Prop where
  view : t.view = s.view
  credits : t.supervisor.reCreditCount = s.supervisor.reCreditCount ∧ t.supervisor.reCreditDue = s.supervisor.reCreditDue

theorem State.SameCounts.trans {s t u : State} (h : s.SameCounts t) (k : t.SameCounts u) : s.SameCounts u :=
  ⟨k.view.trans h.view, k.credits.1.trans h.credits.1, k.credits.2.trans h.credits.2⟩

theorem State.dropBeacon_sameCounts (s : State) : s.SameCounts s.dropBeacon := by
  have credits : s.dropBeacon.supervisor.reCreditCount = s.supervisor.reCreditCount ∧
      s.dropBeacon.supervisor.reCreditDue = s.supervisor.reCreditDue := by
    by_cases fourth : s.port.failures = 4
    · rw [State.dropBeacon_of_fifth fourth]
      exact (reCredit_changes _ _).raise (s := s.setPort { s.port with failures := 5, busyStanding := true }) ⟨rfl, rfl⟩ _ _
    · rw [State.dropBeacon_of_few fourth]; exact ⟨rfl, rfl⟩
  exact ⟨s.dropBeacon_beside.1.view, credits⟩

theorem State.requestBeacon_sameCounts (s : State) : s.SameCounts s.requestBeacon := by
  have request (u : State) : u.SameCounts u.supersedeRequest := by
    unfold State.supersedeRequest
    split
    · exact State.SameCounts.trans (t := (u.setComposer { u.composer with request := none }).setPort { u.port with beaconWaiting := false })
        ⟨rfl, rfl, rfl⟩ (State.dropBeacon_sameCounts _)
    · exact ⟨rfl, rfl, rfl⟩
  have beacon (u : State) : u.SameCounts u.supersedeBeacon := by
    unfold State.supersedeBeacon
    split
    · exact ⟨rfl, rfl, rfl⟩
    · split
      · exact ⟨rfl, rfl, rfl⟩
      · exact State.SameCounts.trans (t := u.setPort ({ u.port with beacon := none }).endContention) ⟨rfl, rfl, rfl⟩
          (State.dropBeacon_sameCounts _)
  unfold State.requestBeacon
  split
  · exact ⟨rfl, rfl, rfl⟩
  · exact ((request s).trans (beacon _)).trans ⟨rfl, rfl, rfl⟩

theorem State.closeNoiseWindow_sameCounts (s : State) : s.SameCounts s.closeNoiseWindow := by
  have noise : s.SameCounts s.settleNoise := by
    unfold State.settleNoise
    split
    · exact ⟨(State.clear_beside _ _ _).view,
        (reCredit_changes _ _).clear (s := s.setPort { s.port with noiseStanding := false, cleanRun := 0 }) ⟨rfl, rfl⟩ _ _⟩
    · exact ⟨rfl, rfl, rfl⟩
  exact noise.trans ⟨rfl, rfl, rfl⟩

theorem State.countClash_credits (s : State) : s.countClash.supervisor.reCreditCount = s.supervisor.reCreditCount := by
  have settle : s.settleClash.supervisor.reCreditCount = s.supervisor.reCreditCount := by
    unfold State.settleClash
    split
    · rfl
    · split
      · exact ((reCredit_changes _ _).clear (s := s.setView { s.view with clash := none, clashCount := 0 }) ⟨rfl, rfl⟩ _ _).1
      · rfl
  unfold State.countClash
  dsimp only
  split <;> exact settle

/-- The state once the expiry has been counted, before its beacon is requested. -/
def State.countedExpiry (s : State) : State := s.closeNoiseWindow.countClash.countReCredit

theorem State.countedExpiry_ctl (s : State) : s.countedExpiry.ctl = s.ctl := by simp [State.countedExpiry]

theorem State.countedExpiry_port (s : State) : s.countedExpiry.port = s.port.windowClosed := by
  rw [State.countedExpiry, State.countReCredit_rest, State.setSupervisor_port, State.countClash_port, State.closeNoiseWindow_port]

theorem State.countedExpiry_request (s : State) : s.countedExpiry.composer.request = s.composer.request := by
  have noise : s.closeNoiseWindow.composer.request = s.composer.request := by
    unfold State.closeNoiseWindow State.settleNoise
    split
    · exact (congrArg Composer.request (State.clear_beside _ .trunkNoise 0).composer :)
    · rfl
  have clash (u : State) : u.countClash.composer.request = u.composer.request := by
    have settle : u.settleClash.composer.request = u.composer.request :=
      (congrArg Composer.request u.settleClash_beside.1.composer :)
    unfold State.countClash
    dsimp only
    split <;> exact settle
  rw [State.countedExpiry, State.countReCredit_rest, State.setSupervisor_composer, clash, noise]

theorem State.countedExpiry_counted (s : State) : s.Counted s.countedExpiry := by
  have noise := s.closeNoiseWindow_sameCounts
  have clash := s.closeNoiseWindow.countClash_credits.trans noise.credits.1
  obtain ⟨none_, some_⟩ := s.closeNoiseWindow.countClash_view
  obtain ⟨ended, stands, -⟩ := s.port.windowClosed_noise
  obtain ⟨count, due⟩ := s.closeNoiseWindow.countClash.countReCredit_credits
  rw [clash] at count due
  rw [noise.view] at none_ some_
  have view : s.countedExpiry.view = s.closeNoiseWindow.countClash.view := by
    rw [State.countedExpiry, State.countReCredit_rest, State.setSupervisor_view]
  rw [← s.countedExpiry_port] at ended stands
  exact ⟨ended, stands, view ▸ none_, view ▸ some_, count, due⟩

/-! ### The work of an expiry, taken whole -/

theorem State.expiryWork_eq (s : State) : s.expiryWork = s.countedExpiry.requestBeacon := rfl

theorem State.requestBeacon_silent_iff (s : State) :
    (s.port.quiet = true ∨ s.ownId = none) ∨ (s.port.quiet = false ∧ s.ownId ≠ none) := by
  cases s.port.quiet <;> simp [em]

/-- What a request supersedes in the port, with `unsent` frames dropped (R17, R18). -/
structure Port.RequestsOver (p q : Port) (unsent : Nat) : Prop where
  failures : p.failures ≤ 253 → q.failures = p.failures + unsent
  stands : p.failures < 5 → 5 ≤ q.failures → q.busyStanding = true
  kept : 5 ≤ p.failures ∨ q.failures < 5 → q.busyStanding = p.busyStanding
  waiting : q.beaconWaiting = false
  online : ∀ bytes doom, p.tx = .sending ⟨.beacon, bytes, doom⟩ → q.beacon = p.beacon ∧
    q.tx = .sending ⟨.beacon, bytes, if doom = .withdrawn then .withdrawn else .superseded⟩
  offline : p.beaconOnLine = false → q.beacon = none

/-- The frames that a request supersedes before they are sent. -/
def State.unsent (s : State) : Nat :=
  (if s.composer.request.isSome || s.port.beaconWaiting then 1 else 0) + (if s.port.beacon.isSome && !s.port.beaconOnLine then 1 else 0)

theorem State.requestBeacon_over {s : State} (quiet : s.port.quiet = false) (known : s.ownId ≠ none) :
    s.port.Drops s.requestBeacon.port s.unsent ∧ s.port.RequestsOver s.requestBeacon.port s.unsent := by
  obtain ⟨port, -⟩ := State.requestBeacon_of_heard quiet known
  have first := s.port.requestSuperseded_drops (s.composer.request.isSome || s.port.beaconWaiting)
  obtain ⟨tx, beacon, waiting⟩ := s.port.requestSuperseded_fields (s.composer.request.isSome || s.port.beaconWaiting)
  have second := (s.port.requestSuperseded (s.composer.request.isSome || s.port.beaconWaiting)).slotSuperseded_drops
  have slot := (s.port.requestSuperseded (s.composer.request.isSome || s.port.beaconWaiting)).slotSuperseded_slot
  rw [← port] at second slot
  have online : (s.port.requestSuperseded (s.composer.request.isSome || s.port.beaconWaiting)).beaconOnLine = s.port.beaconOnLine := by
    simp only [Port.beaconOnLine, tx]
  rw [beacon, online] at second
  have drops := first.trans second
  refine ⟨drops, fun few => drops.failures ?_, drops.stands, drops.kept, ?_, fun bytes doom sending => ?_, fun off => slot.offline (online.trans off)⟩
  · have : s.unsent ≤ 2 := by unfold State.unsent; split <;> split <;> omega
    unfold State.unsent at this
    omega
  · rw [slot.waiting, waiting]
    cases s.port.beaconWaiting <;> simp
  · rw [← beacon]
    exact slot.online bytes doom (tx.trans sending)

/-- A request keeps the answers and the noise of the port. -/
theorem State.requestBeacon_keeps (s : State) : s.requestBeacon.port.answers = s.port.answers ∧
    s.requestBeacon.port.noiseStanding = s.port.noiseStanding ∧ s.requestBeacon.port.cleanRun = s.port.cleanRun ∧
    s.requestBeacon.port.badFrames = s.port.badFrames := by
  obtain silent | ⟨quiet, known⟩ := s.requestBeacon_silent_iff
  · rw [State.requestBeacon_of_silent silent]; exact ⟨rfl, rfl, rfl, rfl⟩
  · obtain ⟨drops, -⟩ := State.requestBeacon_over quiet known
    exact ⟨drops.answers, drops.noise⟩

theorem State.expiryWork_counted (s : State) : s.Counted s.expiryWork := by
  obtain ⟨ended, stands, clash⟩ := s.countedExpiry_counted
  have same := s.countedExpiry.requestBeacon_sameCounts
  obtain ⟨-, noise, run, -⟩ := s.countedExpiry.requestBeacon_keeps
  unfold State.Counted
  rw [State.expiryWork_eq, noise, run, same.view, same.credits.1, same.credits.2]
  exact ⟨ended, stands, clash⟩

theorem State.expiryWork_port (s : State) : s.expiryWork.port.answers = s.port.answers ∧ s.expiryWork.port.badFrames = 0 := by
  obtain ⟨answers, -, -, window⟩ := s.countedExpiry.requestBeacon_keeps
  rw [s.countedExpiry_port] at answers window
  exact ⟨answers.trans (by rw [s.port.windowClosed_rest]), window.trans s.port.windowClosed_noise.2.2⟩

theorem State.countedExpiry_quiet (s : State) : s.countedExpiry.port.quiet = s.port.quiet := by
  rw [s.countedExpiry_port, s.port.windowClosed_rest]

theorem State.countedExpiry_ownId (s : State) : s.countedExpiry.ownId = s.ownId := State.ownId_of_ctl s.countedExpiry_ctl

/-- A node that is quiet or has no id requests no beacon. -/
theorem State.expiryWork_silent {s : State} (silent : s.port.quiet = true ∨ s.ownId = none) :
    s.expiryWork.composer.request = s.composer.request ∧ s.expiryWork.port.failures = s.port.failures := by
  rw [State.expiryWork_eq, State.requestBeacon_of_silent (by rwa [s.countedExpiry_quiet, s.countedExpiry_ownId]), s.countedExpiry_request,
    s.countedExpiry_port]
  exact ⟨rfl, by rw [s.port.windowClosed_rest]⟩

/-- Every other requests one, with its jitter, and supersedes what it has not sent. -/
theorem State.expiryWork_requests {s : State} (quiet : s.port.quiet = false) (known : s.ownId ≠ none) :
    s.port.RequestsOver s.expiryWork.port s.unsent ∧
      ∃ r, s.expiryWork.composer.request = some r ∧ r.since = s.ctl.clock ∧ r.jitter ≤ s.jitterTop := by
  have quiet' : s.countedExpiry.port.quiet = false := s.countedExpiry_quiet.trans quiet
  have known' : s.countedExpiry.ownId ≠ none := s.countedExpiry_ownId ▸ known
  obtain ⟨-, over_⟩ := State.requestBeacon_over quiet' known'
  obtain ⟨-, r, request, since, jitter⟩ := State.requestBeacon_of_heard quiet' known'
  have unsent : s.countedExpiry.unsent = s.unsent := by
    rw [State.unsent, s.countedExpiry_request, s.countedExpiry_port, s.port.windowClosed_rest]
    rfl
  rw [unsent, s.countedExpiry_port, s.port.windowClosed_rest] at over_
  refine ⟨⟨over_.failures, over_.stands, over_.kept, over_.waiting, over_.online, over_.offline⟩, r, request, ?_, ?_⟩
  · rw [since, s.countedExpiry_ctl]
  · rwa [State.jitterTop_congr s.countedExpiry_ctl] at jitter

/-- The fifth drop in a run raises TRUNK_BUSY (R18). -/
theorem State.expiryWork_raises {s : State} (settled : s.Settled) (distinct : s.EntriesDistinct) (room : AtMost 23 s.supervisor.table)
    (few : s.port.failures < 5) (many : 5 ≤ s.expiryWork.port.failures) :
    RaisedAmong s.supervisor.table s.expiryWork.supervisor.table .trunkBusy 0 s.stamp := by
  have counts : State.Spares (fun code => code = .trunkBusy) s s.countedExpiry :=
    State.expiryCounts_spares settled distinct (by decide) (by decide) fun _ code same => by rw [same]; rfl
  have drops := State.requestBeacon_drops counts.settled counts.distinct fun _ => counts.room 23 room
  have failures : s.countedExpiry.port.failures = s.port.failures := by rw [s.countedExpiry_port, s.port.windowClosed_rest]
  have raised := drops.raised (failures ▸ few) many
  rw [counts.stamp] at raised
  exact raised.of_found (counts.entries _ _ rfl).symm rfl

/-! ### The expiry in RUN and in CONFIG_FAULT -/

/-- The close of the loads leaves the port, the view, the request and the re-credit timer alone. -/
theorem State.closeLoads_keeps (s : State) : s.closeLoads.port = s.port ∧ s.closeLoads.view = s.view ∧
    s.closeLoads.composer.request = s.composer.request ∧ s.closeLoads.store = s.store ∧ s.closeLoads.handler = s.handler ∧
    s.closeLoads.supervisor.reCreditCount = s.supervisor.reCreditCount ∧ s.closeLoads.ctl = s.ctl := by
  have ctl : s.closeLoads.ctl = s.ctl := by simp [State.closeLoads, State.openWindows]
  cases held : s.spread.records with
  | none =>
    have same : s.closeLoads = s.openWindows := by rw [State.closeLoads, State.spreadClose, held]
    rw [same]; exact ⟨rfl, rfl, rfl, rfl, rfl, rfl, rfl⟩
  | some r =>
    have beside := State.settle_beside (s.closedSet r)
    have credits := (reCredit_changes s.supervisor.reCreditCount s.supervisor.reCreditDue).settle (s := s.closedSet r) ⟨rfl, rfl⟩
    refine ⟨?_, ?_, ?_, ?_, ?_, ?_, ctl⟩ <;> rw [State.closeLoads_eq held]
    · exact beside.port
    · exact beside.view
    · exact (congrArg Composer.request beside.composer :)
    · exact beside.store
    · exact beside.handler
    · exact credits.1

/-- Settled, distinct and with room the state goes on so after the close, and TRUNK_BUSY's entry is as it was. -/
theorem State.closeLoads_trunkBusy {s : State} (run : s.inRun = true) (settled : s.Settled) (distinct : s.EntriesDistinct)
    (room : AtMost 15 s.supervisor.table) : s.closeLoads.Settled ∧ s.closeLoads.EntriesDistinct ∧ AtMost 23 s.closeLoads.supervisor.table ∧
      s.closeLoads.stamp = s.stamp ∧ findEntry s.closeLoads.supervisor.table .trunkBusy 0 = findEntry s.supervisor.table .trunkBusy 0 := by
  cases held : s.spread.records with
  | none =>
    have same : s.closeLoads = s.openWindows := by rw [State.closeLoads, State.spreadClose, held]
    rw [same]; exact ⟨settled.of_same rfl rfl, distinct, room.mono (by omega), rfl, rfl⟩
  | some r =>
    have judged := State.closeLoads_judged (r := r) run settled distinct (room.mono (by omega))
    rw [State.closeLoads_eq held]
    exact ⟨judged.settled.of_same rfl rfl, judged.distinct, judged.room 15 room, judged.step.stamp, judged.others .trunkBusy 0 (.inl (by decide))⟩

theorem State.jitterTop_of_run {s : State} (run : s.ctl.node = .run) : s.jitterTop = s.cfg.period / 8 := by
  simp [State.jitterTop, State.inRun, run]

theorem State.jitterTop_of_fault {s : State} (fault : s.ctl.node = .configFault) : s.jitterTop = 12 := by
  simp [State.jitterTop, State.inRun, fault]

/-- The state of an expiry in RUN before its work. -/
def State.closedEpoch (s : State) (moment : Ms) : State := (s.epochMoment moment s.cfg.period).closeLoads

/-- O27 in RUN. -/
theorem State.runExpiry_spec {s : State} {moment : Ms} (run : s.ctl.node = .run) (quiet : s.port.quiet = false) :
    s.port.RequestsOver (s.closedEpoch moment).expiryWork.port s.unsent ∧
      (∃ r, (s.closedEpoch moment).expiryWork.composer.request = some r ∧
        r.since = (s.closedEpoch moment).ctl.clock ∧ r.jitter ≤ s.cfg.period / 8) ∧
      (s.port.failures < 5 → 5 ≤ (s.closedEpoch moment).expiryWork.port.failures → s.Settled → s.EntriesDistinct →
        AtMost 15 s.supervisor.table → RaisedAmong s.supervisor.table (s.closedEpoch moment).expiryWork.supervisor.table .trunkBusy 0 s.stamp) := by
  obtain ⟨port, -, request, -, -, -, ctl⟩ := (s.epochMoment moment s.cfg.period).closeLoads_keeps
  have port' : (s.closedEpoch moment).port = s.port := port
  have node : (s.closedEpoch moment).ctl.node = .run := (congrArg StoreCtl.node ctl).trans run
  have known : (s.closedEpoch moment).ownId ≠ none := by simp [State.ownId, node]
  have cfg : (s.closedEpoch moment).cfg = s.cfg := State.cfg_of_image (congrArg StoreCtl.image ctl :)
  obtain ⟨over_, r, made, since, jitter⟩ := State.expiryWork_requests (s := s.closedEpoch moment) ((congrArg Port.quiet port').trans quiet) known
  have unsent : (s.closedEpoch moment).unsent = s.unsent := by
    rw [State.unsent, port', show (s.closedEpoch moment).composer.request = s.composer.request from request]; rfl
  rw [unsent, port'] at over_
  rw [State.jitterTop_of_run node, cfg] at jitter
  refine ⟨over_, ⟨r, made, since, jitter⟩, fun few many settled distinct room => ?_⟩
  obtain ⟨settled', distinct', room', stamp, found⟩ := State.closeLoads_trunkBusy (s := s.epochMoment moment s.cfg.period)
    (by simpa [State.inRun] using run) (settled.of_same rfl rfl) distinct room
  have raised := State.expiryWork_raises (s := s.closedEpoch moment) settled' distinct' room' (port' ▸ few) many
  rw [show (s.closedEpoch moment).stamp = s.stamp from stamp] at raised
  exact raised.of_found found.symm rfl

/-- Settles O27: the expiry's moment, in RUN the close of the loads, and then the one work of both node states. -/
theorem epochExpiriesRunTheTimerAndRequestBeacons : Obligations.EpochExpiriesRunTheTimerAndRequestBeacons := by
  intro s moment timer
  refine ⟨fun run => ?_, fun fault => ?_⟩
  · have ends : s.runExpiry = (s.closedEpoch moment).expiryWork.raiseEpoch := State.runExpiry_eq run timer
    obtain ⟨port, view, request, store, handler, credits, ctl⟩ := (s.epochMoment moment s.cfg.period).closeLoads_keeps
    have work := State.WorkStep.expiryWork (s.closedEpoch moment)
    have workCtl : (s.closedEpoch moment).expiryWork.ctl = (s.epochMoment moment s.cfg.period).ctl :=
      (State.expiryWork_ctl _).trans ctl
    obtain ⟨answers, window⟩ := (s.closedEpoch moment).expiryWork_port
    refine ⟨_, congrArg Host.Outcome.next ends, (congrArg StoreCtl.node workCtl).trans run, ?_, fun short => ?_, (congrArg StoreCtl.epochTimer workCtl :),
      (congrArg StoreCtl.image workCtl :), fun i => ?_, window, answers.trans (congrArg Port.answers port), work.table.trans (congrArg View.table view),
      work.store.trans store, work.handler.trans handler, (State.expiryWork_counted _).of_same port view credits, fun quiet => ?_, fun quiet => ?_⟩
    · exact (congrArg (fun c : StoreCtl => c.epoch + 1#32) workCtl :)
    · have clock : ((s.closedEpoch moment).expiryWork.raiseEpoch).elapsed moment = (s.advanceTo moment s.cfg.period).elapsed moment :=
        (congrArg (fun c : StoreCtl => (c.clock - moment).toNat) workCtl :)
      rw [clock]
      exact s.le_elapsed_advanceTo moment (by omega)
    · have windows : (s.closedEpoch moment).expiryWork.raiseEpoch.scanner.windows = Vector.replicate 8 ⟨0, 0⟩ :=
        congrArg Scanner.windows work.scanner
      rw [windows]; simp
    · obtain ⟨same, failures⟩ := State.expiryWork_silent (s := s.closedEpoch moment) (.inl ((congrArg Port.quiet port).trans quiet))
      exact ⟨same.trans request, failures.trans (congrArg Port.failures port)⟩
    · obtain ⟨over_, ⟨r, made, since, jitter⟩, raised⟩ := State.runExpiry_spec (moment := moment) run quiet
      exact ⟨⟨over_.failures, over_.stands, raised, over_.kept, over_.waiting, over_.online, over_.offline⟩, r, made,
        since.trans (congrArg StoreCtl.clock (State.expiryWork_ctl _)).symm, jitter⟩
  · have ends : s.configFaultExpiry = (s.epochMoment moment 100).expiryWork := by simp [State.configFaultExpiry, fault, timer]
    have work := State.WorkStep.expiryWork (s.epochMoment moment 100)
    have workCtl := (s.epochMoment moment 100).expiryWork_ctl
    obtain ⟨answers, window⟩ := (s.epochMoment moment 100).expiryWork_port
    have ownId : (s.epochMoment moment 100).ownId = s.ownId := State.ownId_of_image rfl rfl
    refine ⟨_, congrArg Host.Outcome.next ends, (congrArg StoreCtl.node workCtl).trans fault, ?_, (congrArg StoreCtl.epoch workCtl :),
      (congrArg StoreCtl.epochTimer workCtl :), window, answers, work.table, work.scanner, work.store,
      (State.expiryWork_counted _).of_same rfl rfl rfl, fun silent => ?_, fun quiet known => ?_⟩
    · have clock : ((s.epochMoment moment 100).expiryWork).elapsed moment = (s.advanceTo moment 100).elapsed moment :=
        (congrArg (fun c : StoreCtl => (c.clock - moment).toNat) workCtl :)
      rw [clock]
      exact s.le_elapsed_advanceTo moment (by omega)
    · exact State.expiryWork_silent (s := s.epochMoment moment 100) (ownId ▸ silent)
    · obtain ⟨over_, r, made, since, jitter⟩ := State.expiryWork_requests (s := s.epochMoment moment 100) quiet (ownId ▸ known)
      rw [State.jitterTop_of_fault (s := s.epochMoment moment 100) fault] at jitter
      refine ⟨⟨over_.failures, over_.stands, fun few many settled distinct room => ?_, over_.kept, over_.waiting, over_.online, over_.offline⟩,
        r, made, since.trans (congrArg StoreCtl.clock workCtl).symm, jitter⟩
      exact State.expiryWork_raises (s := s.epochMoment moment 100) (settled.of_same rfl rfl) distinct (room.mono (by omega)) few many

end Sys2Proof.Machine
end

section
/-! PROOFS. A conversion taken whole: what each part of its handling makes of the scanner, with the table's changes beside. -/

namespace Sys2Proof.Machine

/-! ### A result's handling changes the scanner and the table -/

/-- `t` holds the scanner `c`, and agrees with `s` in all else but the table's changes. -/
def State.Scans (s t : State) (c : Scanner) : Prop := (s.setScanner c).Beside t

namespace State.Scans

variable {s t u : State} {c d : Scanner}

theorem scanner (h : s.Scans t c) : t.scanner = c := State.Beside.scanner h

theorem cfg (h : s.Scans t c) : t.cfg = s.cfg := State.Beside.cfg (s := s.setScanner c) h

theorem refl (s : State) : s.Scans s s.scanner := State.Beside.refl s

theorem set (s : State) (c : Scanner) : s.Scans (s.setScanner c) c := State.Beside.refl _

theorem raise (s : State) (c : Scanner) (code : FaultCode) (subject : Nat) : s.Scans ((s.setScanner c).raise code subject) c :=
  State.raise_beside _ _ _

theorem clear (s : State) (c : Scanner) (code : FaultCode) (subject : Nat) : s.Scans ((s.setScanner c).clear code subject) c :=
  State.clear_beside _ _ _

theorem trans (h : s.Scans t c) (k : t.Scans u d) : s.Scans u d := by
  have over_ : (s.setScanner d).Beside (t.setScanner d) :=
    ⟨h.pending, h.port, h.view, rfl, h.lostCount, h.handler, h.store, h.draws, h.composer, h.mute, h.offsets, h.ramp, h.ctl⟩
  exact over_.trans k

end State.Scans

/-! ### The stuck watch (R46, R47) -/

/-- A watch whose runs have been counted, with its mark judged (R46). -/
def StuckWatch.judged (w : StuckWatch) : StuckWatch :=
  if w.raises then { w with standing := true } else if w.clears then { w with standing := false } else w

/-- The windows with that of a channel's slot started afresh (R47). -/
def windowsReset (windows : Vector Window 8) (channel : Fin 11) : Vector Window 8 :=
  match slotOf channel with
  | some slot => windows.set slot ⟨0, 0⟩
  | none => windows

/-- The scanner after the stuck watch of a result. -/
def Scanner.watched (c : Scanner) (channel : Fin 11) (code : DetectorCode) : Scanner :=
  let w := c.stuck[channel].count code
  { c with stuck := c.stuck.set channel w.judged, windows := if w.clears then windowsReset c.windows channel else c.windows }

theorem StuckWatch.not_clears_of_raises {w : StuckWatch} (raises : w.raises = true) : w.clears = false := by
  unfold StuckWatch.raises at raises
  unfold StuckWatch.clears
  cases standing : w.standing <;> simp_all

theorem State.watchStuck_raises {s : State} {channel : Fin 11} {code : DetectorCode} (raises : (s.scanner.stuck[channel].count code).raises = true) :
    s.watchStuck channel code = (s.setScanner (s.scanner.watched channel code)).raise .detStuck channel.val := by
  have watched : s.scanner.watched channel code = { s.scanner with
      stuck := s.scanner.stuck.set channel { s.scanner.stuck[channel].count code with standing := true } } := by
    rw [Scanner.watched, StuckWatch.judged, if_pos raises, StuckWatch.not_clears_of_raises raises]; rfl
  rw [State.watchStuck, if_pos raises, watched]
  rfl

theorem State.watchStuck_clears {s : State} {channel : Fin 11} {code : DetectorCode} (clears : (s.scanner.stuck[channel].count code).clears = true) :
    s.watchStuck channel code = (s.setScanner (s.scanner.watched channel code)).clear .detStuck channel.val := by
  have raises : ¬ (s.scanner.stuck[channel].count code).raises = true := fun raises => by
    cases clears.symm.trans (StuckWatch.not_clears_of_raises raises)
  have watched : s.scanner.watched channel code = { s.scanner with
      stuck := s.scanner.stuck.set channel { s.scanner.stuck[channel].count code with standing := false }
      windows := windowsReset s.scanner.windows channel } := by
    rw [Scanner.watched, StuckWatch.judged, if_neg raises, if_pos clears, if_pos clears]
  have reset : (s.setStuck channel { s.scanner.stuck[channel].count code with standing := false }).resetWindowOf channel =
      s.setScanner (s.scanner.watched channel code) := by
    rw [watched, State.resetWindowOf, windowsReset]
    cases slotOf channel <;> rfl
  rw [← reset, State.watchStuck, if_neg raises, if_pos clears]

theorem State.watchStuck_rests {s : State} {channel : Fin 11} {code : DetectorCode} (raises : (s.scanner.stuck[channel].count code).raises = false)
    (clears : (s.scanner.stuck[channel].count code).clears = false) :
    s.watchStuck channel code = s.setScanner (s.scanner.watched channel code) := by
  have watched : s.scanner.watched channel code = { s.scanner with
      stuck := s.scanner.stuck.set channel (s.scanner.stuck[channel].count code) } := by
    rw [Scanner.watched, StuckWatch.judged, raises, clears]; rfl
  rw [State.watchStuck, raises, clears, watched]
  rfl

theorem State.watchStuck_scans (s : State) (channel : Fin 11) (code : DetectorCode) :
    s.Scans (s.watchStuck channel code) (s.scanner.watched channel code) := by
  cases raises : (s.scanner.stuck[channel].count code).raises with
  | true => rw [State.watchStuck_raises raises]; exact .raise s _ _ _
  | false =>
    cases clears : (s.scanner.stuck[channel].count code).clears with
    | true => rw [State.watchStuck_clears clears]; exact .clear s _ _ _
    | false => rw [State.watchStuck_rests raises clears]; exact .set s _

/-! ### The amplifier's match (R50 to R53) -/

/-- The scanner with VSWR_WARN judged. -/
def Scanner.warnJudged (c : Scanner) : Scanner :=
  if c.badPairs = 3 ∧ !c.vswrWarn then { c with vswrWarn := true }
  else if c.goodPairs = 8 ∧ c.vswrWarn then { c with vswrWarn := false }
  else c

/-- The scanner with VSWR_TRIP judged. -/
def Scanner.tripJudged (c : Scanner) : Scanner :=
  if c.badPairs = 19 ∧ !c.vswrTrip then { c with vswrTrip := true } else c

theorem State.judgeWarn_scans (s : State) : s.Scans s.judgeWarn s.scanner.warnJudged := by
  unfold State.judgeWarn Scanner.warnJudged
  split
  · exact .raise s _ _ _
  · split
    · exact .clear s _ _ _
    · exact .refl s

theorem State.judgeTrip_scans (s : State) : s.Scans s.judgeTrip s.scanner.tripJudged := by
  unfold State.judgeTrip Scanner.tripJudged
  split
  · exact .raise s _ _ _
  · exact .refl s

/-- The scanner skips the pair of a forward result (R50). -/
def Scanner.skips (c : Scanner) (image : Image) (forward : Nat) : Bool :=
  decide (forward < image.fwdMin) || c.stuck[channelFwd].standing || c.stuck[channelRfl].standing

/-- The scanner after a pair that is evaluated. -/
def Scanner.paired (c : Scanner) (image : Image) (reflected : DetectorCode) : Scanner :=
  match c.forward with
  | none => c
  | some forward =>
    if c.skips image forward then { c with forward := none }
    else ((({ c with forward := none } : Scanner).countPair
      (decide ((forward : Int) - reflected.toNat < image.rlThreshold))).warnJudged).tripJudged

theorem State.evaluatePair_scans (s : State) (reflected : DetectorCode) :
    s.Scans (s.evaluatePair reflected) (s.scanner.paired s.cfg reflected) := by
  unfold State.evaluatePair Scanner.paired
  cases held : s.scanner.forward with
  | none => exact .refl s
  | some forward =>
    have skips : (s.setScanner { s.scanner with forward := none }).skipsPair forward = s.scanner.skips s.cfg forward := rfl
    dsimp only
    rw [skips]
    split
    · exact .set s _
    · have counted (c : Scanner) : s.Scans ((s.setScanner c).judgeWarn.judgeTrip) c.warnJudged.tripJudged := by
        have warn : s.Scans (s.setScanner c).judgeWarn c.warnJudged := (State.Scans.set s c).trans (State.judgeWarn_scans _)
        have trip := State.judgeTrip_scans (s.setScanner c).judgeWarn
        rw [warn.scanner] at trip
        exact warn.trans trip
      exact counted _

/-! ### Temperature (R55, R56) -/

/-- The scanner with the three temperature conditions judged. -/
def Scanner.heated (c : Scanner) (code : Nat) : Scanner :=
  { c with
    tempWarn := decide (500 ≤ code) || (decide (480 ≤ code) && c.tempWarn)
    tempHigh := decide (540 ≤ code) || (decide (520 ≤ code) && c.tempHigh)
    tempLimit := decide (580 ≤ code) || (decide (560 ≤ code) && c.tempLimit) }

theorem State.Scans.raise_if {s : State} {p : Prop} [Decidable p] {c d : Scanner} {code : FaultCode} {subject : Nat}
    (takes : p → d = c) (rests : ¬ p → d = s.scanner) : s.Scans (if p then (s.setScanner c).raise code subject else s) d := by
  split
  next is => rw [takes is]; exact .raise s _ _ _
  next not_ => rw [rests not_]; exact .refl s

theorem State.Scans.clear_if {s : State} {p : Prop} [Decidable p] {c d : Scanner} {code : FaultCode} {subject : Nat}
    (takes : p → d = c) (rests : ¬ p → d = s.scanner) : s.Scans (if p then (s.setScanner c).clear code subject else s) d := by
  split
  next is => rw [takes is]; exact .clear s _ _ _
  next not_ => rw [rests not_]; exact .refl s

/-- A mark once the condition is raised where it holds. -/
theorem mark_raised {hot : Prop} [Decidable hot] {mark : Bool} :
    ((hot ∧ (!mark) = true) → (decide hot || mark) = true) ∧ (¬ (hot ∧ (!mark) = true) → (decide hot || mark) = mark) := by
  cases mark <;> simp

/-- A mark once the condition is cleared where it is below its lower threshold. -/
theorem mark_cleared {code limit : Nat} {mark : Bool} :
    ((code < limit ∧ mark = true) → (decide (limit ≤ code) && mark) = false) ∧
      (¬ (code < limit ∧ mark = true) → (decide (limit ≤ code) && mark) = mark) := by
  cases mark <;> simp

theorem State.raiseWarm_scans (s : State) (code : Nat) :
    s.Scans (s.raiseWarm code) { s.scanner with tempWarn := decide (500 ≤ code) || s.scanner.tempWarn } :=
  .raise_if (fun is => by rw [mark_raised.1 is]) (fun not_ => by rw [mark_raised.2 not_])

theorem State.raiseHigh_scans (s : State) (code : Nat) :
    s.Scans (s.raiseHigh code) { s.scanner with tempHigh := decide (540 ≤ code) || s.scanner.tempHigh } :=
  .raise_if (fun is => by rw [mark_raised.1 is]) (fun not_ => by rw [mark_raised.2 not_])

theorem State.raiseLimit_scans (s : State) (code : Nat) :
    s.Scans (s.raiseLimit code) { s.scanner with tempLimit := decide (580 ≤ code) || s.scanner.tempLimit } :=
  .raise_if (fun is => by rw [mark_raised.1 is]) (fun not_ => by rw [mark_raised.2 not_])

theorem State.clearLimit_scans (s : State) (code : Nat) :
    s.Scans (s.clearLimit code) { s.scanner with tempLimit := decide (560 ≤ code) && s.scanner.tempLimit } :=
  .clear_if (fun is => by rw [mark_cleared.1 is]) (fun not_ => by rw [mark_cleared.2 not_])

theorem State.clearHigh_scans (s : State) (code : Nat) :
    s.Scans (s.clearHigh code) { s.scanner with tempHigh := decide (520 ≤ code) && s.scanner.tempHigh } :=
  .clear_if (fun is => by rw [mark_cleared.1 is]) (fun not_ => by rw [mark_cleared.2 not_])

theorem State.clearWarm_scans (s : State) (code : Nat) :
    s.Scans (s.clearWarm code) { s.scanner with tempWarn := decide (480 ≤ code) && s.scanner.tempWarn } :=
  .clear_if (fun is => by rw [mark_cleared.1 is]) (fun not_ => by rw [mark_cleared.2 not_])

/-- The scanner once the three conditions are raised, before they are cleared. -/
def Scanner.warmed (c : Scanner) (code : Nat) : Scanner :=
  { c with
    tempWarn := decide (500 ≤ code) || c.tempWarn
    tempHigh := decide (540 ≤ code) || c.tempHigh
    tempLimit := decide (580 ≤ code) || c.tempLimit }

theorem State.raiseTemperature_scans (s : State) (code : Nat) :
    s.Scans (((s.raiseWarm code).raiseHigh code).raiseLimit code) (s.scanner.warmed code) := by
  have warm := s.raiseWarm_scans code
  have high := (s.raiseWarm code).raiseHigh_scans code
  rw [warm.scanner] at high
  have both := warm.trans high
  have limit := ((s.raiseWarm code).raiseHigh code).raiseLimit_scans code
  rw [both.scanner] at limit
  exact both.trans limit

theorem Scanner.heated_eq (c : Scanner) (code : Nat) : c.heated code =
    { c.warmed code with
      tempLimit := decide (560 ≤ code) && (c.warmed code).tempLimit
      tempHigh := decide (520 ≤ code) && (c.warmed code).tempHigh
      tempWarn := decide (480 ≤ code) && (c.warmed code).tempWarn } := by
  have mark {low high : Nat} (le : low ≤ high) (m : Bool) :
      (decide (high ≤ code) || decide (low ≤ code) && m) = (decide (low ≤ code) && (decide (high ≤ code) || m)) := by
    by_cases hot : high ≤ code
    · simp [hot, le.trans hot]
    · simp [hot]
  simp only [Scanner.heated, Scanner.warmed, mark (show 480 ≤ 500 by decide), mark (show 520 ≤ 540 by decide), mark (show 560 ≤ 580 by decide)]

theorem State.judgeTemperature_scans (s : State) (code : Nat) : s.Scans (s.judgeTemperature code) (s.scanner.heated code) := by
  have raised := s.raiseTemperature_scans code
  have limit := (((s.raiseWarm code).raiseHigh code).raiseLimit code).clearLimit_scans code
  rw [raised.scanner] at limit
  have first := raised.trans limit
  have high := ((((s.raiseWarm code).raiseHigh code).raiseLimit code).clearLimit code).clearHigh_scans code
  rw [first.scanner] at high
  have second := first.trans high
  have warm := (((((s.raiseWarm code).raiseHigh code).raiseLimit code).clearLimit code).clearHigh code).clearWarm_scans code
  rw [second.scanner] at warm
  rw [Scanner.heated_eq]
  exact second.trans warm

/-- The scanner after a TEMP result. -/
def Scanner.tempered (c : Scanner) (code : DetectorCode) : Scanner :=
  let d := { c with lastTemp := some ((code.toNat : Int) - 160) }
  if c.stuck[channelTemp].standing then d else d.heated code.toNat

theorem State.takeTemperature_scans (s : State) (code : DetectorCode) : s.Scans (s.takeTemperature code) (s.scanner.tempered code) := by
  have set := State.Scans.set s { s.scanner with lastTemp := some ((code.toNat : Int) - 160) }
  have stands : (s.setScanner { s.scanner with lastTemp := some ((code.toNat : Int) - 160) }).stuckStands channelTemp =
      s.scanner.stuck[channelTemp].standing := rfl
  unfold State.takeTemperature Scanner.tempered
  dsimp only
  rw [stands]
  split
  · exact set
  · exact set.trans (State.judgeTemperature_scans _ _)

/-! ### A conversion (R44, R46, R48) -/

/-- The scanner after a U result has counted. -/
def Scanner.sampled (c : Scanner) (image : Image) (slot : Fin 8) (code : DetectorCode) : Scanner :=
  match image.slots[slot] with
  | none => c
  | some config =>
    let w := c.windows[slot]
    { c with windows := c.windows.set slot ⟨w.samples + 1, if config.threshold ≤ code.toNat then w.active + 1 else w.active⟩ }

theorem State.countSample_eq (s : State) (slot : Fin 8) (code : DetectorCode) :
    s.countSample slot code = s.setScanner (s.scanner.sampled s.cfg slot code) := by
  unfold State.countSample Scanner.sampled
  cases s.cfg.slots[slot] <;> rfl

/-- The scanner after a result has been used. -/
def Scanner.used (c : Scanner) (image : Image) (channel : Fin 11) (code : DetectorCode) : Scanner :=
  match slotOf channel with
  | some slot => c.sampled image slot code
  | none =>
    if channel = channelFwd then { c with forward := some code.toNat }
    else if channel = channelRfl then c.paired image code
    else c.tempered code

theorem State.useResult_scans (s : State) (channel : Fin 11) (code : DetectorCode) :
    s.Scans (s.useResult channel code) (s.scanner.used s.cfg channel code) := by
  unfold State.useResult Scanner.used
  cases slotOf channel with
  | some slot => dsimp only; rw [State.countSample_eq]; exact .set s _
  | none =>
    dsimp only
    split
    · exact .set s _
    · split
      exacts [s.evaluatePair_scans code, s.takeTemperature_scans code]

/-- The scanner after a result of the channel has been watched and used. -/
def Scanner.resulted (c : Scanner) (image : Image) (channel : Fin 11) (code : DetectorCode) : Scanner :=
  (c.watched channel code).used image channel code

theorem State.result_scans (s : State) (channel : Fin 11) (code : DetectorCode) :
    s.Scans ((s.watchStuck channel code).useResult channel code) (s.scanner.resulted s.cfg channel code) := by
  have watch := s.watchStuck_scans channel code
  have use := (s.watchStuck channel code).useResult_scans channel code
  rw [watch.scanner, watch.cfg] at use
  exact watch.trans use

/-- The conversion in flight completes, and the next is started. -/
theorem State.conversionEnds_eq {s : State} {i : Nat} {channel : Fin 11} (code : DetectorCode) (flight : s.scanner.conversion = some i)
    (entry : s.scanner.scanList[i]? = some channel) : s.conversionEnds code =
      ((s.watchStuck channel code).useResult channel code).setScanner
        { s.scanner.resulted s.cfg channel code with conversion := some (nextEntry s.scanner.scanList i) } := by
  rw [← (s.result_scans channel code).scanner]
  simp only [State.conversionEnds, flight, State.convert, entry]

/-! ### What the handling of a result leaves of the scanner -/

theorem Scanner.used_list (c : Scanner) (image : Image) (channel : Fin 11) (code : DetectorCode) :
    (c.used image channel code).scanList = c.scanList ∧ (c.used image channel code).stuck = c.stuck := by
  unfold Scanner.used Scanner.sampled Scanner.paired Scanner.tripJudged Scanner.warnJudged Scanner.countPair Scanner.tempered Scanner.heated
  dsimp only
  repeat' split
  all_goals exact ⟨rfl, rfl⟩

/-- Settles O31: a result's handling changes the scanner and the table, and the list goes on. -/
theorem conversionStartsTheNext : Obligations.ConversionStartsTheNext := by
  intro s code i flight inList
  obtain ⟨channel, entry⟩ : ∃ channel, s.scanner.scanList[i]? = some channel := ⟨_, List.getElem?_eq_getElem inList⟩
  have beside := s.result_scans channel code
  refine ⟨_, congrArg Host.Outcome.next (State.conversionEnds_eq code flight entry), ?_, ?_, beside.port, beside.view, beside.handler,
    beside.store, beside.draws⟩
  · exact (Scanner.used_list _ _ _ _).1
  · have next : nextEntry s.scanner.scanList i = if i + 1 = s.scanner.scanList.length then 0 else i + 1 := by
      unfold nextEntry; split <;> split <;> omega
    exact congrArg some next

end Sys2Proof.Machine
end

section
/-! PROOFS. O32 and O33: the samples of a U channel, and DET_STUCK raised and ended. -/

namespace Sys2Proof.Machine

/-! ### The runs of a channel (R46) -/

theorem isRail_iff (code : DetectorCode) : isRail code = true ↔ code = 0#10 ∨ code = 1023#10 := by simp [isRail]

theorem StuckWatch.count_rail (w : StuckWatch) {code : DetectorCode} (rail : code = 0#10 ∨ code = 1023#10) :
    w.count code = ⟨min 64 (w.railRun + 1), 0, w.standing⟩ := by
  rw [StuckWatch.count, if_pos ((isRail_iff code).mpr rail)]; rfl

theorem StuckWatch.count_inRange (w : StuckWatch) {code : DetectorCode} (low : code ≠ 0#10) (high : code ≠ 1023#10) :
    w.count code = ⟨0, min 64 (w.inRangeRun + 1), w.standing⟩ := by
  rw [StuckWatch.count, if_neg fun rail => ((isRail_iff code).mp rail).elim low high]; rfl

/-- The watch asks for nothing while neither run reaches 64 with the mark to change. -/
theorem StuckWatch.rests {w : StuckWatch} {code : DetectorCode}
    (rail : code = 0#10 ∨ code = 1023#10 → w.railRun < 63 ∨ w.standing = true)
    (inRange : code ≠ 0#10 → code ≠ 1023#10 → w.inRangeRun < 63 ∨ w.standing = false) :
    (w.count code).raises = false ∧ (w.count code).clears = false := by
  by_cases at_rail : code = 0#10 ∨ code = 1023#10
  · rw [w.count_rail at_rail]
    obtain few | stands := rail at_rail
    · have : min 64 (w.railRun + 1) ≠ 64 := by omega
      simp [StuckWatch.raises, StuckWatch.clears, this]
    · simp [StuckWatch.raises, StuckWatch.clears, stands]
  · obtain ⟨low, high⟩ := not_or.mp at_rail
    rw [w.count_inRange low high]
    obtain few | ended := inRange low high
    · have : min 64 (w.inRangeRun + 1) ≠ 64 := by omega
      simp [StuckWatch.raises, StuckWatch.clears, this]
    · simp [StuckWatch.raises, StuckWatch.clears, ended]

theorem StuckWatch.judged_of_rests {w : StuckWatch} (raises : w.raises = false) (clears : w.clears = false) : w.judged = w := by
  rw [StuckWatch.judged, raises, clears]; rfl

theorem Scanner.watched_stuck (c : Scanner) (channel : Fin 11) (code : DetectorCode) :
    (c.watched channel code).stuck[channel] = (c.stuck[channel].count code).judged := by
  show (c.stuck.set channel _)[channel] = _
  rw [Vector.getElem_set_fin, if_pos rfl]

theorem Scanner.resulted_stuck (c : Scanner) (image : Image) (channel : Fin 11) (code : DetectorCode) :
    (c.resulted image channel code).stuck[channel] = (c.stuck[channel].count code).judged := by
  rw [Scanner.resulted, (Scanner.used_list _ _ _ _).2, Scanner.watched_stuck]

theorem slotOf_channelOf (slot : Fin 8) : slotOf (channelOf slot) = some slot := by
  simp [slotOf, channelOf]

/-- Settles O32: a watch that asks for nothing changes its runs alone, and the sample is counted. -/
theorem uplinkResultCountsASample : Obligations.UplinkResultCountsASample := by
  intro s code i slot c flight entry present asks
  obtain ⟨railAsks, inRangeAsks⟩ := asks _ rfl
  obtain ⟨raises, clears⟩ := StuckWatch.rests railAsks inRangeAsks
  have runs : (s.scanner.resulted s.cfg (channelOf slot) code).stuck[channelOf slot] = s.scanner.stuck[channelOf slot].count code := by
    rw [Scanner.resulted_stuck, StuckWatch.judged_of_rests raises clears]
  have watch := State.watchStuck_rests raises clears
  have use : (s.watchStuck (channelOf slot) code).useResult (channelOf slot) code =
      s.setScanner (s.scanner.resulted s.cfg (channelOf slot) code) := by
    rw [watch, State.useResult, slotOf_channelOf]
    dsimp only
    rw [State.countSample_eq, Scanner.resulted, Scanner.used, slotOf_channelOf]
    rfl
  refine ⟨_, congrArg Host.Outcome.next (State.conversionEnds_eq code flight entry), ?_, ?_, fun rail => ?_, fun low high => ?_⟩
  · rw [use]; rfl
  · have windows : (s.scanner.watched (channelOf slot) code).windows = s.scanner.windows := by rw [Scanner.watched, clears]; rfl
    show (s.scanner.resulted s.cfg (channelOf slot) code).windows = _
    rw [Scanner.resulted, Scanner.used, slotOf_channelOf]
    dsimp only
    rw [Scanner.sampled, present, windows]
  · exact runs.trans (StuckWatch.count_rail _ rail)
  · exact runs.trans (StuckWatch.count_inRange _ low high)

end Sys2Proof.Machine
end

section
/-! PROOFS. O33: a raise into a full table, and what its raise leaves of the rest. -/

namespace Sys2Proof.Machine

/-! ### The entry that is evicted (R123, R124) -/

theorem mem_positioned_iff {t : FaultTable} {p : Fin 24} {e : FaultEntry} : (p, e) ∈ positioned t ↔ t[p] = some e := by
  rw [positioned, List.mem_filterMap]
  constructor
  · rintro ⟨i, -, eq⟩
    obtain ⟨f, held, ⟨⟩⟩ := Option.map_eq_some_iff.mp eq
    exact held
  · exact fun held => ⟨p, List.mem_finRange p, by rw [held]; rfl⟩

theorem positioned_ascending (t : FaultTable) : (positioned t).Pairwise fun x y => x.1 < y.1 := by
  rw [positioned, List.pairwise_filterMap]
  refine (List.pairwise_lt_finRange 24).imp ?_
  rintro i j lt x hx y hy
  obtain ⟨_, -, rfl⟩ := Option.map_eq_some_iff.mp hx
  obtain ⟨_, -, rfl⟩ := Option.map_eq_some_iff.mp hy
  exact lt

/-- The order of eviction: by severity, epoch and position. -/
def Evicts (epoch : FaultEntry → EpochCount) (x y : Fin 24 × FaultEntry) : Prop :=
  x.2.code.severity.number < y.2.code.severity.number ∨
    (x.2.code.severity.number = y.2.code.severity.number ∧
      ((epoch x.2).toNat < (epoch y.2).toNat ∨ ((epoch x.2).toNat = (epoch y.2).toNat ∧ x.1 < y.1)))

/-- Of an ascending list the first in the order of eviction is the evictee. -/
theorem evictee_eq_some {epoch : FaultEntry → EpochCount} {l : List (Fin 24 × FaultEntry)} {x : Fin 24 × FaultEntry}
    (ascending : l.Pairwise fun x y => x.1 < y.1) (mem : x ∈ l) (first : ∀ y ∈ l, y ≠ x → Evicts epoch x y) :
    evictee epoch l = some x := by
  induction l with
  | nil => cases mem
  | cons y rest ih =>
    obtain ⟨below, ascending⟩ := List.pairwise_cons.mp ascending
    by_cases same : y = x
    · subst same
      unfold evictee
      cases found : evictee epoch rest with
      | none => rfl
      | some z =>
        have later := below z (evictee_mem found)
        have before := first z (List.mem_cons_of_mem _ (evictee_mem found)) (by rintro rfl; exact lt_irrefl _ later)
        unfold Evicts at before
        dsimp only
        rw [if_neg (by omega)]
    · have inRest : x ∈ rest := (List.mem_cons.mp mem).resolve_left fun eq => same eq.symm
      have found := ih ascending inRest fun z hz => first z (List.mem_cons_of_mem _ hz)
      have before := first y (List.mem_cons_self ..) same
      have later := below x inRest
      unfold Evicts at before
      unfold evictee
      rw [found]
      dsimp only
      rw [if_pos (by omega)]

theorem evictee_nil {epoch : FaultEntry → EpochCount} {l : List (Fin 24 × FaultEntry)} (none_ : ∀ x, x ∉ l) : evictee epoch l = none := by
  rw [List.eq_nil_iff_forall_not_mem.mpr none_]; rfl

/-- The evictee among the positions that hold an entry of the kind `able`. -/
theorem evictee_of_able {t : FaultTable} {epoch : FaultEntry → EpochCount} {able : FaultEntry → Bool} {p : Fin 24} {e : FaultEntry}
    (held : t[p] = some e) (isAble : able e = true)
    (first : ∀ q f, t[q] = some f → able f = true → q ≠ p → EvictedBefore t epoch p q) :
    evictee epoch ((positioned t).filter fun (_, f) => able f) = some (p, e) := by
  refine evictee_eq_some ((positioned_ascending t).filter _) (List.mem_filter.mpr ⟨mem_positioned_iff.mpr held, isAble⟩) ?_
  rintro ⟨q, f⟩ mem differs
  obtain ⟨there, isAble'⟩ := List.mem_filter.mp mem
  rw [mem_positioned_iff] at there
  refine first q f there isAble' ?_ e f held there
  rintro rfl
  cases held.symm.trans there
  exact differs rfl

theorem evictee_of_none {t : FaultTable} {epoch : FaultEntry → EpochCount} {able : FaultEntry → Bool}
    (none_ : ∀ (p : Fin 24) f, t[p] = some f → able f = false) : evictee epoch ((positioned t).filter fun (_, f) => able f) = none := by
  refine evictee_nil ?_
  rintro ⟨p, f⟩ mem
  obtain ⟨there, isAble⟩ := List.mem_filter.mp mem
  cases (none_ p f (mem_positioned_iff.mp there)).symm.trans isAble

theorem evictee_cleared_none {t : FaultTable} {epoch : FaultEntry → EpochCount}
    (uncleared : ∀ (q : Fin 24) f, t[q] = some f → f.state ≠ .clearedUnacked) :
    evictee epoch ((positioned t).filter fun (_, f) => f.state == .clearedUnacked) = none :=
  evictee_of_none (able := fun f => f.state == .clearedUnacked) fun q f there => by simpa using uncleared q f there

section full

variable {t : FaultTable} {code : FaultCode} {subject : Nat} {p : Fin 24} {e : FaultEntry}
  (absent : findEntry t code subject = none) (full : firstEmpty t = none) (stamp : EpochCount)
include absent full

/-- A full table without the condition's entry takes a raise as R123 and R124 say. -/
theorem tableRaise_full : tableRaise t code subject stamp = raiseFull t (newEntry code subject stamp) := by
  simp only [tableRaise, absent, full]

/-- With a CLEARED-UNACKED entry in it, the first of those in the order of eviction goes (R123). -/
theorem tableRaise_evicts_cleared (held : t[p] = some e) (cleared : e.state = .clearedUnacked)
    (first : ∀ q f, t[q] = some f → f.state = .clearedUnacked → q ≠ p → EvictedBefore t FaultEntry.lastEpoch p q) :
    tableRaise t code subject stamp = ⟨t.set p (some (newEntry code subject stamp)), false, true⟩ := by
  have found := evictee_of_able (able := fun f => f.state == .clearedUnacked) (epoch := FaultEntry.lastEpoch) held (by simp [cleared])
    fun q f there able => first q f there (by simpa using able)
  rw [tableRaise_full absent full, raiseFull, found]

variable (uncleared : ∀ (q : Fin 24) f, t[q] = some f → f.state ≠ .clearedUnacked)
include uncleared

/-- With none such, the first of the ACTIVE entries of lower severity goes (R124). -/
theorem tableRaise_evicts_lower (held : t[p] = some e) (lower : e.code.severity.number < code.severity.number)
    (first : ∀ q f, t[q] = some f → f.code.severity.number < code.severity.number → q ≠ p → EvictedBefore t FaultEntry.firstEpoch p q) :
    tableRaise t code subject stamp = ⟨t.set p (some (newEntry code subject stamp)), true, true⟩ := by
  have active : e.active = true := by
    have := uncleared p e held
    unfold FaultEntry.active
    cases state : e.state <;> simp_all
  have found := evictee_of_able (able := fun f => f.active && decide (f.code.severity.number < (newEntry code subject stamp).code.severity.number))
    (epoch := FaultEntry.firstEpoch) held (by rw [active]; exact decide_eq_true lower)
    fun q f there able => first q f there (of_decide_eq_true (Bool.and_eq_true_iff.mp able).2)
  rw [tableRaise_full absent full, raiseFull, evictee_cleared_none uncleared, found]

/-- With none such either, the newcomer is dropped (R124). -/
theorem tableRaise_drops (none_ : ∀ (q : Fin 24) f, t[q] = some f → ¬ f.code.severity.number < code.severity.number) :
    tableRaise t code subject stamp = ⟨t, true, false⟩ := by
  have found : evictee FaultEntry.firstEpoch ((positioned t).filter fun (_, f) =>
      f.active && decide (f.code.severity.number < (newEntry code subject stamp).code.severity.number)) = none :=
    evictee_of_none (able := fun f => f.active && decide (f.code.severity.number < (newEntry code subject stamp).code.severity.number))
      fun q f there => by
        have := none_ q f there
        simp only [newEntry, this, decide_false, Bool.and_false]
  rw [tableRaise_full absent full, raiseFull, evictee_cleared_none uncleared, found]

end full

/-! ### The supervisor after an entry entered (R126, R131 to R133) -/

/-- An entry that enters ACTIVE-UNACKED with MAJOR or above is captured, or counted where a snapshot is held. -/
theorem State.raisedSupervisor_captured {s : State} {code : FaultCode} {subject : Nat} (serious : code.severity.serious = true)
    (entered : (tableRaise s.supervisor.table code subject s.stamp).entered = true) :
    s.CapturedOrCounted code subject (s.raisedSupervisor code subject) := by
  unfold State.raisedSupervisor
  dsimp only
  rw [if_pos entered, State.serious, if_pos serious]
  refine ⟨fun none_ => ?_, fun p held => ?_⟩
  · rw [none_]
    refine ⟨rfl, _, rfl, rfl, rfl, rfl, rfl, rfl, rfl, fun records => ?_, fun r records => ?_, rfl, rfl, rfl⟩ <;>
      simp [State.takeSnapshot, records]
  · rw [held]
    exact ⟨held, rfl⟩

theorem alarmLevel_set {t : FaultTable} {p : Fin 24} {e : FaultEntry} (alarms : e.alarms = true) : alarmLevel (t.set p (some e)) = true := by
  rw [alarmLevel, List.any_eq_true]
  exact ⟨e, (mem_entries_iff _ _).mpr ⟨p, by rw [Vector.getElem_set_fin, if_pos rfl]⟩, alarms⟩

theorem newEntry_alarms {code : FaultCode} (serious : code.severity.serious = true) (subject : Nat) (stamp : EpochCount) :
    (newEntry code subject stamp).alarms = true := by
  rw [FaultEntry.alarms, show (newEntry code subject stamp).code = code from rfl, serious]; rfl

/-- Only TEMP_WARN asks anything of the carriers below MAJOR. -/
theorem FaultCode.not_asks_of_lower {code : FaultCode} (lower : code.severity.number < 3) (other : code ≠ .tempWarn) : ¬ code.Asks := by
  unfold FaultCode.Asks
  cases code <;> simp_all [FaultCode.severity, Severity.number, FaultCode.derating, FaultCode.trips]

theorem sameAsks_set_new {t : FaultTable} {p : Fin 24} {e : FaultEntry} {code : FaultCode} (held : t[p] = some e) (quiet : ¬ code.Asks)
    (asksNone : e.ask = none) (subject : Nat) (stamp : EpochCount) : SameAsks t (t.set p (some (newEntry code subject stamp))) := by
  refine .set ?_
  rw [held, askAt, askAt, Option.bind_some, Option.bind_some, asksNone]
  exact FaultEntry.ask_of_not_asks quiet

theorem FaultCode.detStuck_not_asks : ¬ FaultCode.detStuck.Asks := by unfold FaultCode.Asks; decide

/-! ### An entry that no raise evicts -/

/-- Who goes for an entry that enters a full table is CLEARED-UNACKED or of lower severity (R123, R124). -/
theorem raiseFull_evicted (t : FaultTable) (e : FaultEntry) : (raiseFull t e).table = t ∨ ∃ (p : Fin 24) (f : FaultEntry),
    t[p] = some f ∧ (f.state = .clearedUnacked ∨ f.code.severity.number < e.code.severity.number) ∧
      (raiseFull t e).table = t.set p (some e) := by
  unfold raiseFull
  split
  next p f found =>
    obtain ⟨mem, able⟩ := List.mem_filter.mp (evictee_mem found)
    exact .inr ⟨p, f, mem_positioned_iff.mp mem, .inl (by simpa using able), rfl⟩
  next =>
    split
    next p f found =>
      obtain ⟨mem, able⟩ := List.mem_filter.mp (evictee_mem found)
      exact .inr ⟨p, f, mem_positioned_iff.mp mem, .inr (of_decide_eq_true (Bool.and_eq_true_iff.mp able).2), rfl⟩
    next => exact .inl rfl

/-- An ACTIVE entry stays found through the raise of another code that is no more severe. -/
theorem findEntry_tableRaise_of_held {t : FaultTable} {code other : FaultCode} {subject subject' : Nat} {p : Fin 24} {e : FaultEntry}
    (found : findEntry t code subject = some (p, e)) (active : e.state ≠ .clearedUnacked)
    (differs : other ≠ code) (mild : other.severity.number ≤ code.severity.number) (stamp : EpochCount) :
    findEntry (tableRaise t other subject' stamp).table code subject = some (p, e) := by
  by_cases room : RoomFor t other subject'
  · rw [findEntry_tableRaise_of_other stamp room fun same => differs same.1.symm]; exact found
  · obtain ⟨held, is, below⟩ := findEntry_eq_some_iff.mp found
    have raised : tableRaise t other subject' stamp = raiseFull t (newEntry other subject' stamp) := by
      unfold RoomFor at room
      rw [Classical.not_imp, not_exists] at room
      exact tableRaise_full room.1 (Option.eq_none_iff_forall_ne_some.mpr room.2) stamp
    rw [raised]
    obtain same | ⟨q, f, there, gone, put⟩ := raiseFull_evicted t (newEntry other subject' stamp)
    · rw [same]; exact found
    · have elsewhere : q ≠ p := by
        rintro rfl
        cases held.symm.trans there
        obtain cleared | lower := gone
        · exact active cleared
        · rw [is.1] at lower; exact absurd lower (by simpa [newEntry] using mild)
      rw [put]
      refine findEntry_eq_some_iff.mpr ⟨by rw [Vector.getElem_set_fin, if_neg elsewhere]; exact held, is, fun r lt f' held' => ?_⟩
      rw [Vector.getElem_set_fin] at held'
      split at held'
      · cases held'; exact fun is' => differs is'.1
      · exact below r lt f' held'

/-- The recomputes asked for keep the overflow flag set and an ACTIVE entry of MAJOR or above where it is. -/
theorem State.settle_keeps_entry {s : State} {code : FaultCode} {subject : Nat} {x : Fin 24 × FaultEntry} (other : FaultCode.floorShed ≠ code)
    (serious : 3 ≤ code.severity.number) (active : x.2.state ≠ .clearedUnacked) (overflow : s.supervisor.overflow = true)
    (found : findEntry s.supervisor.table code subject = some x) :
    s.settle.supervisor.overflow = true ∧ findEntry s.settle.supervisor.table code subject = some x := by
  have kept : KeptByRecomputes fun t => t.supervisor.overflow = true ∧ findEntry t.supervisor.table code subject = some x := {
    raiseFloor := fun _ ⟨overflow, found⟩ => by
      rw [State.raiseOnly_supervisor]
      exact ⟨by rw [State.raisedSupervisor, overflow]; rfl, findEntry_tableRaise_of_held found active other serious _⟩
    clearFloor := fun _ ⟨overflow, found⟩ => by
      rw [State.clearOnly_supervisor]
      exact ⟨overflow, (findEntry_tableClear_of_other fun same => other same.1.symm).trans found⟩
    marks := fun _ h => h
    reallocate := fun _ h => h }
  exact kept.settle ⟨overflow, found⟩

end Sys2Proof.Machine
end

section
/-! PROOFS. O33: DET_STUCK raised by the sixty-fourth rail result, and ended by the sixty-fourth in range. -/

namespace Sys2Proof.Machine

/-! ### Results whose use changes the scanner alone (R46, R47) -/

theorem channel_of_slotOf_none : ∀ {channel : Fin 11}, slotOf channel = none →
    channel = channelFwd ∨ channel = channelRfl ∨ channel = channelTemp := by decide

theorem State.useResult_of_stuck {s : State} {channel : Fin 11} (code : DetectorCode) (stuck : s.stuckStands channel = true) :
    s.useResult channel code = s.setScanner (s.scanner.used s.cfg channel code) := by
  have stands : s.scanner.stuck[channel].standing = true := stuck
  unfold State.useResult Scanner.used
  cases place : slotOf channel with
  | some slot => exact s.countSample_eq slot code
  | none =>
    dsimp only
    split
    · rfl
    · split
      next reflected =>
        subst reflected
        unfold State.evaluatePair Scanner.paired
        cases held : s.scanner.forward with
        | none => rfl
        | some forward =>
          have skips : s.scanner.skips s.cfg forward = true := by rw [Scanner.skips, stands, Bool.or_true]
          have skips' : (s.setScanner { s.scanner with forward := none }).skipsPair forward = true := skips
          dsimp only
          rw [if_pos skips, if_pos skips']
      next other reflected =>
        obtain rfl : channel = channelTemp := ((channel_of_slotOf_none place).resolve_left other).resolve_left reflected
        have stands' : (s.setScanner { s.scanner with lastTemp := some ((code.toNat : Int) - 160) }).stuckStands channelTemp = true := stuck
        unfold State.takeTemperature Scanner.tempered
        dsimp only
        rw [if_pos stands', if_pos stands]

theorem State.useResult_of_plain {s : State} {channel : Fin 11} (code : DetectorCode) (notRfl : channel ≠ channelRfl)
    (notTemp : channel ≠ channelTemp) : s.useResult channel code = s.setScanner (s.scanner.used s.cfg channel code) := by
  unfold State.useResult Scanner.used
  cases place : slotOf channel with
  | some slot => exact s.countSample_eq slot code
  | none =>
    obtain rfl : channel = channelFwd := (channel_of_slotOf_none place).resolve_right fun others => others.elim notRfl notTemp
    rfl

/-! ### A raise of DET_STUCK (R118, R123 to R126, R131 to R133) -/

/-- The supervisor after an entry entered ACTIVE-UNACKED with MAJOR or above. -/
theorem State.raisedSupervisor_entered {s : State} {code : FaultCode} {subject : Nat} {p : Fin 24} {over_ : Bool} {e : FaultEntry}
    (alarms : e.alarms = true) (raised : tableRaise s.supervisor.table code subject s.stamp = ⟨s.supervisor.table.set p (some e), over_, true⟩) :
    (s.raisedSupervisor code subject).table = s.supervisor.table.set p (some e) ∧ (s.raisedSupervisor code subject).alarm = true ∧
      (s.raisedSupervisor code subject).overflow = (s.supervisor.overflow || over_) := by
  unfold State.raisedSupervisor
  rw [raised]
  exact ⟨rfl, alarmLevel_set alarms, rfl⟩

/-- A newcomer that is dropped leaves the supervisor but for the overflow flag. -/
theorem State.raisedSupervisor_dropped {s : State} (follow : s.OutputsFollow) {code : FaultCode} {subject : Nat}
    (raised : tableRaise s.supervisor.table code subject s.stamp = ⟨s.supervisor.table, true, false⟩) :
    s.raisedSupervisor code subject = { s.supervisor with overflow := true } := by
  unfold State.raisedSupervisor
  rw [raised]
  simp [← follow.alarm]

section raise

variable {s : State} (settled : s.Settled) {subject : Nat}
include settled

/-- With an empty position (R118). -/
theorem State.raise_detStuck_of_empty (absent : findEntry s.supervisor.table .detStuck subject = none) {p : Fin 24}
    (empty : firstEmpty s.supervisor.table = some p) :
    s.QuietChange (s.raise .detStuck subject) (s.raisedSupervisor .detStuck subject) ∧
      tableRaise s.supervisor.table .detStuck subject s.stamp =
        ⟨s.supervisor.table.set p (some (newEntry .detStuck subject s.stamp)), false, true⟩ :=
  ⟨State.raise_of_room settled FaultCode.detStuck_not_asks subject (.of_empty empty _ _), by simp only [tableRaise, absent, empty]⟩

/-- In the place of an entry that asks nothing of the carriers. -/
theorem State.raise_detStuck_evicts {p : Fin 24} {e : FaultEntry} {over_ : Bool} (held : s.supervisor.table[p] = some e) (asksNone : e.ask = none)
    (raised : tableRaise s.supervisor.table .detStuck subject s.stamp =
      ⟨s.supervisor.table.set p (some (newEntry .detStuck subject s.stamp)), over_, true⟩) :
    s.QuietChange (s.raise .detStuck subject) (s.raisedSupervisor .detStuck subject) :=
  (State.raiseOnly_of_sameAsks settled rfl subject
    (raised ▸ sameAsks_set_new held FaultCode.detStuck_not_asks asksNone subject s.stamp)).settle

omit settled in
/-- In the place of any entry of lower severity, whose derating may end with it. -/
theorem State.raise_detStuck_overflows {p : Fin 24} (absent : findEntry s.supervisor.table .detStuck subject = none)
    (raised : tableRaise s.supervisor.table .detStuck subject s.stamp =
      ⟨s.supervisor.table.set p (some (newEntry .detStuck subject s.stamp)), true, true⟩) :
    (s.raise .detStuck subject).supervisor.overflow = true ∧
      findEntry (s.raise .detStuck subject).supervisor.table .detStuck subject = some (p, newEntry .detStuck subject s.stamp) := by
  refine State.settle_keeps_entry (by decide) (by decide) nofun ?_ ?_ <;> rw [State.raiseOnly_supervisor, State.raisedSupervisor, raised]
  · exact Bool.or_true _
  · exact findEntry_set_self ⟨rfl, rfl⟩ fun q _ f there => findEntry_eq_none_iff.mp absent q f there

/-- Dropped. -/
theorem State.raise_detStuck_drops (raised : tableRaise s.supervisor.table .detStuck subject s.stamp = ⟨s.supervisor.table, true, false⟩) :
    s.QuietChange (s.raise .detStuck subject) { s.supervisor with overflow := true } := by
  have quiet := (State.raiseOnly_of_sameAsks settled (code := .detStuck) rfl subject (by rw [raised]; exact .refl _)).settle
  rwa [State.raisedSupervisor_dropped settled.follow raised] at quiet

end raise

/-- The handling of a result whose use changes the scanner alone. -/
theorem State.conversionEnds_of_use {s : State} {i : Nat} {channel : Fin 11} {code : DetectorCode} (flight : s.scanner.conversion = some i)
    (entry : s.scanner.scanList[i]? = some channel)
    (use : ∃ c, (s.watchStuck channel code).useResult channel code = (s.watchStuck channel code).setScanner c) :
    s.conversionEnds code = (s.watchStuck channel code).setScanner
      { s.scanner.resulted s.cfg channel code with conversion := some (nextEntry s.scanner.scanList i) } := by
  obtain ⟨c, use⟩ := use
  rw [State.conversionEnds_eq code flight entry, use]
  rfl

theorem FaultEntry.ask_of_cleared {e : FaultEntry} (cleared : e.state = .clearedUnacked) : e.ask = none := by
  unfold FaultEntry.ask FaultEntry.active
  rw [cleared]
  simp

/-- The window of a channel whose mark ends takes this result as its first sample (R47, R48). -/
theorem Scanner.resulted_window {c : Scanner} {image : Image} {slot : Fin 8} {code : DetectorCode} {config : SlotConfig}
    (present : image.slots[slot] = some config) (clears : (c.stuck[channelOf slot].count code).clears = true) :
    (c.resulted image (channelOf slot) code).windows[slot] = ⟨1, if config.threshold ≤ code.toNat then 1 else 0⟩ := by
  have windows : (c.watched (channelOf slot) code).windows[slot] = ⟨0, 0⟩ := by
    unfold Scanner.watched windowsReset
    simp only [clears, if_true, slotOf_channelOf]
    exact (Vector.getElem_set_fin ..).trans (if_pos rfl)
  rw [Scanner.resulted, Scanner.used, slotOf_channelOf]
  dsimp only
  rw [Scanner.sampled, present]
  dsimp only
  rw [Vector.getElem_set_fin, if_pos rfl, windows]

/-- Settles O33: the sixty-fourth rail result raises DET_STUCK before its use, which then changes the scanner alone. -/
theorem sixtyFourthRailResultRaisesDetStuck : Obligations.SixtyFourthRailResultRaisesDetStuck := by
  intro s code i channel flight entry settled
  refine ⟨fun rail run ended absent => ?_, fun low high run stands => ?_⟩
  · have counted : s.scanner.stuck[channel].count code = ⟨64, 0, false⟩ := by rw [StuckWatch.count_rail _ rail, run, ended]; rfl
    have raises : (s.scanner.stuck[channel].count code).raises = true := by rw [counted]; rfl
    have watch := State.watchStuck_raises raises
    have stuck : (s.scanner.watched channel code).stuck[channel] = ⟨64, 0, true⟩ := by rw [Scanner.watched_stuck, counted]; rfl
    have stands : (s.watchStuck channel code).stuckStands channel = true := by
      rw [State.stuckStands, (s.watchStuck_scans channel code).scanner, stuck]
    have ends := State.conversionEnds_of_use flight entry ⟨_, State.useResult_of_stuck code stands⟩
    rw [watch] at ends
    have settled' : (s.setScanner (s.scanner.watched channel code)).Settled := settled.of_same rfl rfl
    refine ⟨_, congrArg Host.Outcome.next ends, (Scanner.resulted_stuck _ _ _ _).trans (by rw [counted]; rfl), fun p empty => ?_,
      fun p full cleared first => ?_, fun p full uncleared lower first => ?_, fun full uncleared none_ => ?_⟩
    · obtain ⟨quiet, raised⟩ := State.raise_detStuck_of_empty settled' absent empty
      obtain ⟨table, alarm, overflow⟩ := State.raisedSupervisor_entered (newEntry_alarms rfl _ _) raised
      rw [← quiet.supervisor] at table alarm overflow
      refine ⟨table, alarm, overflow.trans (Bool.or_false _), ?_, quiet.step.alloc, quiet.step.writer⟩
      have captured := State.raisedSupervisor_captured (s := s.setScanner (s.scanner.watched channel code)) (subject := channel.val)
        (code := .detStuck) rfl (by rw [raised])
      rw [← quiet.supervisor] at captured
      exact captured
    · obtain ⟨e, held, state⟩ := cleared
      have raised := tableRaise_evicts_cleared absent full s.stamp held state fun q f there isCleared => first q ⟨f, there, isCleared⟩
      have quiet := State.raise_detStuck_evicts settled' held (FaultEntry.ask_of_cleared state) raised
      obtain ⟨table, alarm, overflow⟩ := State.raisedSupervisor_entered (s := s.setScanner (s.scanner.watched channel code))
        (newEntry_alarms rfl _ _) raised
      rw [← quiet.supervisor] at table alarm overflow
      exact ⟨table, alarm, overflow.trans (Bool.or_false _), quiet.step.alloc, quiet.step.writer⟩
    · obtain ⟨e, held, mild⟩ := lower
      have raised := tableRaise_evicts_lower absent full s.stamp (fun q f there state => uncleared q ⟨f, there, state⟩) held mild
        fun q f there isLower => first q ⟨f, there, isLower⟩
      obtain ⟨overflow, found⟩ := State.raise_detStuck_overflows (s := s.setScanner (s.scanner.watched channel code)) absent raised
      refine ⟨overflow, found, fun other => ?_⟩
      have quiet := State.raise_detStuck_evicts settled' held
        (FaultEntry.ask_of_not_asks (FaultCode.not_asks_of_lower mild (other e held))) raised
      obtain ⟨table, -, -⟩ := State.raisedSupervisor_entered (s := s.setScanner (s.scanner.watched channel code))
        (newEntry_alarms rfl _ _) raised
      rw [← quiet.supervisor] at table
      exact ⟨table, quiet.step.alloc, quiet.step.writer⟩
    · have raised := tableRaise_drops absent full s.stamp (fun q f there state => uncleared q ⟨f, there, state⟩)
        fun q f there isLower => none_ q ⟨f, there, isLower⟩
      have quiet := State.raise_detStuck_drops settled' raised
      exact ⟨quiet.supervisor, quiet.step.alloc, quiet.step.writer, quiet.step.ctl⟩
  · have counted : s.scanner.stuck[channel].count code = ⟨0, 64, true⟩ := by rw [StuckWatch.count_inRange _ low high, run, stands]; rfl
    have clears : (s.scanner.stuck[channel].count code).clears = true := by rw [counted]; rfl
    refine ⟨_, congrArg Host.Outcome.next (State.conversionEnds_eq code flight entry), (Scanner.resulted_stuck _ _ _ _).trans (by rw [counted]; rfl),
      fun slot config place present => ?_, fun notRfl notTemp => ?_⟩
    · subst place
      exact Scanner.resulted_window present clears
    · have quiet := State.clear_of_not_asks (s := s.setScanner (s.scanner.watched channel code)) (settled.of_same rfl rfl)
        FaultCode.detStuck_not_asks channel.val
      rw [← State.watchStuck_clears clears] at quiet
      rw [State.useResult_of_plain code notRfl notTemp]
      have table : (s.watchStuck channel code).supervisor.table = tableClear s.supervisor.table .detStuck channel.val := by
        rw [quiet.supervisor]; rfl
      refine ⟨fun distinct => ?_, fun absent => ?_, quiet.step.alloc, quiet.step.writer⟩
      · exact table ▸ clearedIn_tableClear distinct _ _
      · exact table.trans (tableClear_of_absent absent)

end Sys2Proof.Machine
end

section
/-! PROOFS. The room that recomputes need: FLOOR_SHED has at most one entry for each slot, so that a few other entries leave room for
all, and every change leaves the entries of other conditions. -/

namespace Sys2Proof.Machine

/-! ### Entries that are not FLOOR_SHED of a slot -/

/-- The condition is FLOOR_SHED of a slot. -/
def IsFloor (code : FaultCode) (subject : Nat) : Prop := code = .floorShed ∧ subject < 8

theorem isFloor_slot (slot : Fin 8) : IsFloor .floorShed slot.val := ⟨rfl, slot.isLt⟩

/-- The position holds an entry that is not FLOOR_SHED of a slot. -/
def HoldsStranger (t : FaultTable) (p : Fin 24) : Prop := ∃ e, t[p] = some e ∧ ¬ IsFloor e.code e.subject

open Classical in
/-- The positions that hold an entry which is not FLOOR_SHED of a slot. -/
noncomputable def strangers (t : FaultTable) : Finset (Fin 24) := Finset.univ.filter (HoldsStranger t)

/-- At most `n` entries are not FLOOR_SHED of a slot. -/
def StrangersAtMost (n : Nat) (t : FaultTable) : Prop := (strangers t).card ≤ n

theorem mem_strangers {t : FaultTable} {p : Fin 24} : p ∈ strangers t ↔ HoldsStranger t p := by
  classical simp [strangers]

theorem StrangersAtMost.mono {n m : Nat} {t : FaultTable} (h : StrangersAtMost n t) (le : n ≤ m) : StrangersAtMost m t := Nat.le_trans h le

theorem AtMost.strangers {n : Nat} {t : FaultTable} (h : AtMost n t) : StrangersAtMost n t := by
  rw [AtMost, entries_length_eq_card] at h
  refine (Finset.card_le_card fun p mem => ?_).trans h
  obtain ⟨e, held, -⟩ := mem_strangers.mp mem
  exact Finset.mem_filter.mpr ⟨Finset.mem_univ p, by rw [held]; rfl⟩

open Classical in
/-- The positions that hold FLOOR_SHED of a slot. -/
noncomputable def floors (t : FaultTable) : Finset (Fin 24) :=
  Finset.univ.filter fun p => ∃ e, t[p] = some e ∧ IsFloor e.code e.subject

theorem mem_floors {t : FaultTable} {p : Fin 24} : p ∈ floors t ↔ ∃ e, t[p] = some e ∧ IsFloor e.code e.subject := by
  classical simp [floors]

theorem heldPositions_subset (t : FaultTable) : heldPositions t ⊆ strangers t ∪ floors t := by
  intro p mem
  obtain ⟨e, held⟩ := Option.isSome_iff_exists.mp ((Finset.mem_filter.mp mem).2)
  rw [Finset.mem_union, mem_strangers, mem_floors]
  by_cases floor : IsFloor e.code e.subject
  · exact .inr ⟨e, held, floor⟩
  · exact .inl ⟨e, held, floor⟩

/-- The subject of the entry at a position, 0 where it holds none. -/
def subjectAt (t : FaultTable) (p : Fin 24) : Nat := (t[p].map FaultEntry.subject).getD 0

/-- In a table without two entries of one condition each slot has one entry of FLOOR_SHED at most. -/
theorem floors_card {t : FaultTable} (distinct : ((entries t).map FaultEntry.key).Nodup) {subjects : Finset Nat}
    (among : ∀ (p : Fin 24) e, t[p] = some e → IsFloor e.code e.subject → e.subject ∈ subjects) : (floors t).card ≤ subjects.card := by
  refine Finset.card_le_card_of_injOn (subjectAt t) (fun p mem => ?_) fun p hp q hq same => ?_
  · obtain ⟨e, held, floor⟩ := mem_floors.mp mem
    have : subjectAt t p = e.subject := by rw [subjectAt, held]; rfl
    rw [this]; exact among p e held floor
  · obtain ⟨e, held, floor, -⟩ := mem_floors.mp hp
    obtain ⟨f, there, floor', -⟩ := mem_floors.mp hq
    have : e.subject = f.subject := by simpa [subjectAt, held, there] using same
    exact (distinct_iff t).mp distinct p q e f held there (by rw [FaultEntry.key, FaultEntry.key, floor, floor', this])

theorem StrangersAtMost.atMost {n : Nat} {t : FaultTable} (h : StrangersAtMost n t) (distinct : ((entries t).map FaultEntry.key).Nodup) :
    AtMost (n + 8) t := by
  have few : (floors t).card ≤ (Finset.range 8).card := floors_card distinct fun p e _ floor => Finset.mem_range.mpr floor.2
  rw [Finset.card_range] at few
  rw [AtMost, entries_length_eq_card]
  have := (Finset.card_le_card (heldPositions_subset t)).trans (Finset.card_union_le _ _)
  have := h
  unfold StrangersAtMost at this
  omega

/-- Sixteen other entries leave room for FLOOR_SHED of every slot. -/
theorem StrangersAtMost.roomFor_floor {t : FaultTable} (h : StrangersAtMost 16 t) (distinct : ((entries t).map FaultEntry.key).Nodup)
    (slot : Fin 8) : RoomFor t .floorShed slot.val := by
  intro absent
  have few : (floors t).card ≤ ((Finset.range 8).erase slot.val).card := floors_card distinct fun p e held floor =>
    Finset.mem_erase.mpr ⟨fun same => findEntry_eq_none_iff.mp absent p e held ⟨floor.1, same⟩, Finset.mem_range.mpr floor.2⟩
  rw [Finset.card_erase_of_mem (Finset.mem_range.mpr slot.isLt), Finset.card_range] at few
  have bound : AtMost 23 t := by
    rw [AtMost, entries_length_eq_card]
    have := (Finset.card_le_card (heldPositions_subset t)).trans (Finset.card_union_le _ _)
    have := h
    unfold StrangersAtMost at this
    omega
  exact bound.firstEmpty (by omega)

/-- A table that holds what another holds of the other conditions holds no more of them. -/
theorem StrangersAtMost.of_found {n : Nat} {t u : FaultTable} (h : StrangersAtMost n t) (distinct : ((entries u).map FaultEntry.key).Nodup)
    (others : ∀ code subject, ¬ IsFloor code subject → findEntry u code subject = findEntry t code subject) : StrangersAtMost n u := by
  refine (Finset.card_le_card fun p mem => ?_).trans h
  obtain ⟨e, held, stranger⟩ := mem_strangers.mp mem
  have found : findEntry u e.code e.subject = some (p, e) := findEntry_eq_some_iff.mpr ⟨held, ⟨rfl, rfl⟩, fun q lt f there is =>
    lt.ne ((distinct_iff u).mp distinct q p f e there held (by rw [(f.is_iff_key _ _).mp is]; rfl))⟩
  rw [others _ _ stranger] at found
  exact mem_strangers.mpr ⟨e, (findEntry_eq_some_iff.mp found).1, stranger⟩

/-- A table that holds besides at most one entry more of the other conditions. -/
theorem StrangersAtMost.of_found_but {n : Nat} {t u : FaultTable} (h : StrangersAtMost n t)
    (distinct : ((entries u).map FaultEntry.key).Nodup) (code : FaultCode) (subject : Nat)
    (others : ∀ c x, ¬ IsFloor c x → ¬ (c = code ∧ x = subject) → findEntry u c x = findEntry t c x) : StrangersAtMost (n + 1) u := by
  have among : ∀ p ∈ strangers u, p ∉ strangers t → ∃ e, findEntry u code subject = some (p, e) := fun p mem newer => by
    obtain ⟨e, held, stranger⟩ := mem_strangers.mp mem
    have found : findEntry u e.code e.subject = some (p, e) := findEntry_eq_some_iff.mpr ⟨held, ⟨rfl, rfl⟩, fun q lt f there is =>
      lt.ne ((distinct_iff u).mp distinct q p f e there held (by rw [(f.is_iff_key _ _).mp is]; rfl))⟩
    by_cases this_ : e.code = code ∧ e.subject = subject
    · exact ⟨e, by rw [← this_.1, ← this_.2]; exact found⟩
    · rw [others _ _ stranger this_] at found
      exact absurd (mem_strangers.mpr ⟨e, (findEntry_eq_some_iff.mp found).1, stranger⟩) newer
  cases found : findEntry u code subject with
  | none =>
    refine Nat.le_succ_of_le ((Finset.card_le_card fun p mem => ?_).trans h)
    by_contra newer
    obtain ⟨e, here⟩ := among p mem newer
    cases found.symm.trans here
  | some x =>
    refine (Finset.card_le_card (t := insert x.1 (strangers t)) fun p mem => ?_).trans ((Finset.card_insert_le _ _).trans (Nat.succ_le_succ h))
    by_cases newer : p ∈ strangers t
    · exact Finset.mem_insert_of_mem newer
    · obtain ⟨e, here⟩ := among p mem newer
      cases found.symm.trans here
      exact Finset.mem_insert_self _ _

/-! ### Changes that leave the entries of other conditions -/

/-- `t` is settled, and holds of every condition but FLOOR_SHED of the slots, and but those `changed`, what `s` holds. -/
structure State.LeavesOthers (changed : FaultCode → Nat → Prop) (s t : State) : Prop where
  settled : t.Settled
  distinct : t.EntriesDistinct
  stamp : t.stamp = s.stamp
  others : ∀ code subject, ¬ IsFloor code subject → ¬ changed code subject →
    findEntry t.supervisor.table code subject = findEntry s.supervisor.table code subject

theorem not_isFloor_of_code {code : FaultCode} (other : code ≠ .floorShed) (subject : Nat) : ¬ IsFloor code subject := fun h => other h.1

theorem State.floorsShed_leaves {s : State} (settled : s.Settled) (distinct : s.EntriesDistinct) (few : StrangersAtMost 16 s.supervisor.table)
    (before : Vector SlotState 8) (slots : List (Fin 8)) :
    State.LeavesOthers (fun _ _ => False) s (s.floorsShed before slots) := by
  induction slots generalizing s with
  | nil => exact ⟨settled, distinct, rfl, fun _ _ _ _ => rfl⟩
  | cons slot rest ih =>
    have first := State.floorShed_judged settled distinct (few.roomFor_floor distinct slot) before
    have same : ∀ code subject, ¬ IsFloor code subject →
        findEntry (s.floorShed before slot).supervisor.table code subject = findEntry s.supervisor.table code subject :=
      fun code subject other => first.others code subject fun ⟨floor, here⟩ => other (by rw [floor, here]; exact isFloor_slot slot)
    have later := ih first.settled first.distinct (few.of_found first.distinct same)
    exact ⟨later.settled, later.distinct, later.stamp.trans first.step.stamp, fun code subject other _ =>
      (later.others code subject other id).trans (same code subject other)⟩

/-- The recomputes asked for leave the entries of other conditions. -/
theorem State.settle_leaves {s : State} (follow : s.OutputsFollow) (distinct : s.EntriesDistinct) (few : StrangersAtMost 16 s.supervisor.table) :
    State.LeavesOthers (fun _ _ => False) s s.settle := by
  cases due : s.alloc.recomputeDue with
  | false => rw [State.settle_of_not_due _ due]; exact ⟨⟨follow, due⟩, distinct, rfl, fun _ _ _ _ => rfl⟩
  | true =>
    have settled : s.reallocate.Settled := ⟨follow.reallocate, rfl⟩
    have stamp : s.reallocate.stamp = s.stamp := rfl
    have floors : State.LeavesOthers (fun _ _ => False) s.reallocate s.recompute :=
      State.floorsShed_leaves settled distinct few s.alloc.slots (List.finRange 8)
    have judged : State.LeavesOthers (fun _ _ => False) s s.recompute :=
      ⟨floors.settled, floors.distinct, floors.stamp.trans stamp, floors.others⟩
    have settles : s.settle = s.recompute := by
      rw [State.settle, State.settleFuel, if_pos due, State.settleFuel, if_neg]
      rw [judged.settled.taken]; exact Bool.false_ne_true
    rw [settles]; exact judged

theorem State.LeavesOthers.trans {changed : FaultCode → Nat → Prop} {s t u : State} (h : State.LeavesOthers changed s t)
    (k : State.LeavesOthers changed t u) : State.LeavesOthers changed s u :=
  ⟨k.settled, k.distinct, k.stamp.trans h.stamp, fun code subject other apart =>
    (k.others code subject other apart).trans (h.others code subject other apart)⟩

theorem State.LeavesOthers.strangers {s t : State} {n : Nat} (h : State.LeavesOthers (fun _ _ => False) s t)
    (few : StrangersAtMost n s.supervisor.table) : StrangersAtMost n t.supervisor.table :=
  few.of_found h.distinct fun code subject other => h.others code subject other id

theorem State.LeavesOthers.strangers_succ {s t : State} {n : Nat} {code : FaultCode} {subject : Nat}
    (h : State.LeavesOthers (fun c x => c = code ∧ x = subject) s t) (few : StrangersAtMost n s.supervisor.table) :
    StrangersAtMost (n + 1) t.supervisor.table := few.of_found_but h.distinct code subject h.others

/-- A raise with the recompute it asks for (R118). -/
theorem State.raise_leaves {s : State} (distinct : s.EntriesDistinct) (few : StrangersAtMost 15 s.supervisor.table)
    {code : FaultCode} (other : code ≠ .floorShed) (subject : Nat) :
    State.LeavesOthers (fun c x => c = code ∧ x = subject) s (s.raise code subject) ∧
      RaisedAmong s.supervisor.table (s.raise code subject).supervisor.table code subject s.stamp := by
  have room : RoomFor s.supervisor.table code subject := (few.atMost distinct).roomFor (by omega) code subject
  have distinct' : (s.raiseOnly code subject).EntriesDistinct := entriesDistinct_changes.raiseOnly _ _ distinct
  have same : ∀ c x, ¬ (c = code ∧ x = subject) →
      findEntry (s.raiseOnly code subject).supervisor.table c x = findEntry s.supervisor.table c x := fun c x apart => by
    rw [State.raiseOnly_table]; exact findEntry_tableRaise_of_other _ room apart
  have settles := State.settle_leaves (s.raiseOnly_outputsFollow code subject) distinct'
    (few.of_found_but distinct' code subject fun c x _ apart => same c x apart)
  have raised : RaisedAmong s.supervisor.table (s.raiseOnly code subject).supervisor.table code subject s.stamp := by
    rw [State.raiseOnly_table]; exact (raisedIn_tableRaise _ _ _ _).among room
  have stamp : (s.raiseOnly code subject).stamp = s.stamp := (State.InputStep.raiseOnly s code subject).alloc.beside.stamp
  refine ⟨⟨settles.settled, settles.distinct, settles.stamp.trans stamp, fun c x stranger apart => ?_⟩, raised.of_found rfl ?_⟩
  · exact (settles.others c x stranger id).trans (same c x apart)
  · exact settles.others code subject (not_isFloor_of_code other subject) id

/-- A clear with the recompute it asks for (R119). -/
theorem State.clear_leaves {s : State} (distinct : s.EntriesDistinct) (few : StrangersAtMost 16 s.supervisor.table)
    {code : FaultCode} (other : code ≠ .floorShed) (subject : Nat) :
    State.LeavesOthers (fun c x => c = code ∧ x = subject) s (s.clear code subject) ∧
      ClearedIn s.supervisor.table (s.clear code subject).supervisor.table code subject ∧
      ∀ n, n ≤ 16 → StrangersAtMost n s.supervisor.table → StrangersAtMost n (s.clear code subject).supervisor.table := by
  have distinct' : (s.clearOnly code subject).EntriesDistinct := entriesDistinct_changes.clearOnly _ _ distinct
  have same : ∀ c x, ¬ (c = code ∧ x = subject) →
      findEntry (s.clearOnly code subject).supervisor.table c x = findEntry s.supervisor.table c x := fun c x apart => by
    rw [State.clearOnly_table]; exact findEntry_tableClear_of_other apart
  have fewer : ∀ n, StrangersAtMost n s.supervisor.table → StrangersAtMost n (s.clearOnly code subject).supervisor.table := fun n few => by
    refine (Finset.card_le_card fun p mem => ?_).trans few
    obtain ⟨e, held, stranger⟩ := mem_strangers.mp mem
    rw [State.clearOnly_table] at held
    obtain ⟨f, there, key⟩ := tableClear_keys _ _ _ p e held
    have codes : e.code = f.code := congrArg Prod.fst key
    have subjects : e.subject = f.subject := congrArg Prod.snd key
    exact mem_strangers.mpr ⟨f, there, by rwa [← codes, ← subjects]⟩
  have settles := State.settle_leaves (s.clearOnly_outputsFollow code subject) distinct' (fewer 16 few)
  have cleared : ClearedIn s.supervisor.table (s.clearOnly code subject).supervisor.table code subject := by
    rw [State.clearOnly_table]; exact clearedIn_tableClear distinct _ _
  have stamp : (s.clearOnly code subject).stamp = s.stamp := (State.InputStep.clearOnly s code subject).alloc.beside.stamp
  refine ⟨⟨settles.settled, settles.distinct, settles.stamp.trans stamp, fun c x stranger apart => ?_⟩, cleared.of_found rfl ?_, fun n _ few => ?_⟩
  · exact (settles.others c x stranger id).trans (same c x apart)
  · exact settles.others code subject (not_isFloor_of_code other subject) id
  · exact settles.strangers (fewer n few)

end Sys2Proof.Machine
end

section
/-! PROOFS. O34, its second part: the temperature judged, and what ends cleared in the table. -/

namespace Sys2Proof.Machine

/-! ### When DET_STUCK stands after a result (R46) -/

theorem StuckWatch.judged_standing_iff (w : StuckWatch) (code : DetectorCode) : (w.count code).judged.standing = true ↔
    (w.standing = true ∧ ((code = 0#10 ∨ code = 1023#10) ∨ w.inRangeRun < 63)) ∨
      (w.standing = false ∧ (code = 0#10 ∨ code = 1023#10) ∧ 63 ≤ w.railRun) := by
  by_cases rail : code = 0#10 ∨ code = 1023#10
  · rw [w.count_rail rail]
    simp only [rail, true_or, and_true, true_and]
    have run : min 64 (w.railRun + 1) = 64 ↔ 63 ≤ w.railRun := by omega
    cases w.standing <;> simp [StuckWatch.judged, StuckWatch.raises, StuckWatch.clears, apply_ite, run]
  · obtain ⟨low, high⟩ := not_or.mp rail
    rw [w.count_inRange low high]
    have run : min 64 (w.inRangeRun + 1) = 64 ↔ ¬ w.inRangeRun < 63 := by omega
    simp only [rail, false_or, false_and, and_false, or_false]
    cases w.standing <;> simp [StuckWatch.judged, StuckWatch.raises, StuckWatch.clears, apply_ite, run]

theorem Scanner.resulted_temp (c : Scanner) (image : Image) (code : DetectorCode) :
    c.resulted image channelTemp code = (c.watched channelTemp code).tempered code := rfl

theorem Scanner.tempered_lastTemp (c : Scanner) (code : DetectorCode) : (c.tempered code).lastTemp = some ((code.toNat : Int) - 160) := by
  unfold Scanner.tempered
  dsimp only
  split <;> rfl

/-! ### A judgement passes the entries of other conditions -/

/-- `t` holds of the code what `s` holds. -/
abbrev State.Passes (code : FaultCode) (s t : State) : Prop := State.LeavesOthers (fun c _ => c ≠ code) s t

section step

variable {s : State} {p : Prop} [Decidable p] {c : Scanner} {x code : FaultCode}
  (settled : s.Settled) (distinct : s.EntriesDistinct)
include settled distinct

theorem State.raise_if_passes {n : Nat} (few : StrangersAtMost n s.supervisor.table) (room : n ≤ 15) (floor : code ≠ .floorShed)
    (other : x = code → ¬ p) : State.Passes x s (if p then (s.setScanner c).raise code 0 else s) ∧
      StrangersAtMost (n + 1) (if p then (s.setScanner c).raise code 0 else s).supervisor.table := by
  split
  next is =>
    obtain ⟨leaves, -⟩ := State.raise_leaves (s := s.setScanner c) distinct (few.mono room) floor 0
    refine ⟨⟨leaves.settled, leaves.distinct, leaves.stamp, fun c' y stranger apart => leaves.others c' y stranger fun same => ?_⟩,
      leaves.strangers_succ few⟩
    exact apart fun isX => other (isX ▸ same.1) is
  next => exact ⟨⟨settled, distinct, rfl, fun _ _ _ _ => rfl⟩, few.mono (by omega)⟩

theorem State.clear_if_passes {n : Nat} (few : StrangersAtMost n s.supervisor.table) (room : n ≤ 16) (floor : code ≠ .floorShed)
    (other : x = code → ¬ p) : State.Passes x s (if p then (s.setScanner c).clear code 0 else s) ∧
      StrangersAtMost n (if p then (s.setScanner c).clear code 0 else s).supervisor.table := by
  split
  next is =>
    obtain ⟨leaves, -, fewer⟩ := State.clear_leaves (s := s.setScanner c) distinct (few.mono room) floor 0
    refine ⟨⟨leaves.settled, leaves.distinct, leaves.stamp, fun c' y stranger apart => leaves.others c' y stranger fun same => ?_⟩,
      fewer n room few⟩
    exact apart fun isX => other (isX ▸ same.1) is
  next => exact ⟨⟨settled, distinct, rfl, fun _ _ _ _ => rfl⟩, few⟩

omit settled in
theorem State.clear_if_clears {n : Nat} (few : StrangersAtMost n s.supervisor.table) (room : n ≤ 16) (floor : code ≠ .floorShed) (is : p) :
    ClearedIn s.supervisor.table (if p then (s.setScanner c).clear code 0 else s).supervisor.table code 0 ∧
      (if p then (s.setScanner c).clear code 0 else s).Settled ∧ (if p then (s.setScanner c).clear code 0 else s).EntriesDistinct ∧
      StrangersAtMost n (if p then (s.setScanner c).clear code 0 else s).supervisor.table := by
  rw [if_pos is]
  obtain ⟨leaves, cleared, fewer⟩ := State.clear_leaves (s := s.setScanner c) distinct (few.mono room) floor 0
  exact ⟨cleared, leaves.settled, leaves.distinct, fewer n room few⟩

end step

/-- The state once the temperature's raises have been judged. -/
def State.heated (s : State) (code : Nat) : State := ((s.raiseWarm code).raiseHigh code).raiseLimit code

theorem State.heated_passes {s : State} {code : Nat} {x : FaultCode} (settled : s.Settled) (distinct : s.EntriesDistinct)
    (few : StrangersAtMost 13 s.supervisor.table) (warm : x = .tempWarn → code < 500) (high : x = .tempHigh → code < 540)
    (limit : x = .tempLimit → code < 580) : State.Passes x s (s.heated code) ∧ StrangersAtMost 16 (s.heated code).supervisor.table := by
  obtain ⟨first, few1⟩ : State.Passes x s (s.raiseWarm code) ∧ StrangersAtMost 14 (s.raiseWarm code).supervisor.table :=
    State.raise_if_passes settled distinct few (by omega) (by decide) fun is => by have := warm is; omega
  obtain ⟨second, few2⟩ : State.Passes x (s.raiseWarm code) ((s.raiseWarm code).raiseHigh code) ∧
      StrangersAtMost 15 ((s.raiseWarm code).raiseHigh code).supervisor.table :=
    State.raise_if_passes first.settled first.distinct few1 (by omega) (by decide) fun is => by have := high is; omega
  obtain ⟨third, few3⟩ : State.Passes x ((s.raiseWarm code).raiseHigh code) (s.heated code) ∧
      StrangersAtMost 16 (s.heated code).supervisor.table :=
    State.raise_if_passes second.settled second.distinct few2 (by omega) (by decide) fun is => by have := limit is; omega
  exact ⟨(first.trans second).trans third, few3⟩

theorem State.judgeTemperature_eq (s : State) (code : Nat) :
    s.judgeTemperature code = (((s.heated code).clearLimit code).clearHigh code).clearWarm code := rfl

theorem State.heated_scanner (s : State) (code : Nat) : (s.heated code).scanner = s.scanner.warmed code := (s.raiseTemperature_scans code).scanner

section cleared

variable {s : State} {code : Nat} (settled : s.Settled) (distinct : s.EntriesDistinct) (few : StrangersAtMost 13 s.supervisor.table)
include settled distinct few

/-- TEMP_LIMIT ends below 560 (R56). -/
theorem State.judgeTemperature_limit (cool : code < 560) (was : s.scanner.tempLimit = true) :
    ClearedIn s.supervisor.table (s.judgeTemperature code).supervisor.table .tempLimit 0 := by
  obtain ⟨raised, few1⟩ := State.heated_passes (code := code) (x := .tempLimit) settled distinct few nofun nofun fun _ => by omega
  have mark : (s.heated code).scanner.tempLimit = true := by rw [s.heated_scanner, Scanner.warmed, was]; exact Bool.or_true _
  obtain ⟨cleared, settled2, distinct2, few2⟩ : ClearedIn (s.heated code).supervisor.table ((s.heated code).clearLimit code).supervisor.table
      .tempLimit 0 ∧ ((s.heated code).clearLimit code).Settled ∧ ((s.heated code).clearLimit code).EntriesDistinct ∧
      StrangersAtMost 16 ((s.heated code).clearLimit code).supervisor.table :=
    State.clear_if_clears raised.distinct few1 le_rfl (by decide) ⟨cool, mark⟩
  obtain ⟨third, few3⟩ : State.Passes .tempLimit ((s.heated code).clearLimit code) (((s.heated code).clearLimit code).clearHigh code) ∧
      StrangersAtMost 16 (((s.heated code).clearLimit code).clearHigh code).supervisor.table :=
    State.clear_if_passes settled2 distinct2 few2 le_rfl (by decide) nofun
  obtain ⟨fourth, -⟩ : State.Passes .tempLimit (((s.heated code).clearLimit code).clearHigh code) (s.judgeTemperature code) ∧
      StrangersAtMost 16 (s.judgeTemperature code).supervisor.table :=
    State.clear_if_passes third.settled third.distinct few3 le_rfl (by decide) nofun
  exact cleared.of_found (raised.others _ _ (not_isFloor_of_code (by decide) 0) (not_not_intro rfl)).symm
    ((third.trans fourth).others _ _ (not_isFloor_of_code (by decide) 0) (not_not_intro rfl))

/-- TEMP_HIGH ends below 520 (R56). -/
theorem State.judgeTemperature_high (cool : code < 520) (was : s.scanner.tempHigh = true) :
    ClearedIn s.supervisor.table (s.judgeTemperature code).supervisor.table .tempHigh 0 := by
  obtain ⟨raised, few1⟩ := State.heated_passes (code := code) (x := .tempHigh) settled distinct few nofun (fun _ => by omega) nofun
  obtain ⟨second, few2⟩ : State.Passes .tempHigh (s.heated code) ((s.heated code).clearLimit code) ∧
      StrangersAtMost 16 ((s.heated code).clearLimit code).supervisor.table :=
    State.clear_if_passes raised.settled raised.distinct few1 le_rfl (by decide) nofun
  have mark : ((s.heated code).clearLimit code).scanner.tempHigh = true := by
    rw [((s.heated code).clearLimit_scans code).scanner, s.heated_scanner, Scanner.warmed, was]; exact Bool.or_true _
  obtain ⟨cleared, settled3, distinct3, few3⟩ : ClearedIn ((s.heated code).clearLimit code).supervisor.table
      (((s.heated code).clearLimit code).clearHigh code).supervisor.table .tempHigh 0 ∧
      (((s.heated code).clearLimit code).clearHigh code).Settled ∧ (((s.heated code).clearLimit code).clearHigh code).EntriesDistinct ∧
      StrangersAtMost 16 (((s.heated code).clearLimit code).clearHigh code).supervisor.table :=
    State.clear_if_clears second.distinct few2 le_rfl (by decide) ⟨cool, mark⟩
  obtain ⟨fourth, -⟩ : State.Passes .tempHigh (((s.heated code).clearLimit code).clearHigh code) (s.judgeTemperature code) ∧
      StrangersAtMost 16 (s.judgeTemperature code).supervisor.table :=
    State.clear_if_passes settled3 distinct3 few3 le_rfl (by decide) nofun
  exact cleared.of_found ((raised.trans second).others _ _ (not_isFloor_of_code (by decide) 0) (not_not_intro rfl)).symm
    (fourth.others _ _ (not_isFloor_of_code (by decide) 0) (not_not_intro rfl))

/-- TEMP_WARN ends below 480 (R56). -/
theorem State.judgeTemperature_warn (cool : code < 480) (was : s.scanner.tempWarn = true) :
    ClearedIn s.supervisor.table (s.judgeTemperature code).supervisor.table .tempWarn 0 := by
  obtain ⟨raised, few1⟩ := State.heated_passes (code := code) (x := .tempWarn) settled distinct few (fun _ => by omega) nofun nofun
  obtain ⟨second, few2⟩ : State.Passes .tempWarn (s.heated code) ((s.heated code).clearLimit code) ∧
      StrangersAtMost 16 ((s.heated code).clearLimit code).supervisor.table :=
    State.clear_if_passes raised.settled raised.distinct few1 le_rfl (by decide) nofun
  obtain ⟨third, few3⟩ : State.Passes .tempWarn ((s.heated code).clearLimit code) (((s.heated code).clearLimit code).clearHigh code) ∧
      StrangersAtMost 16 (((s.heated code).clearLimit code).clearHigh code).supervisor.table :=
    State.clear_if_passes second.settled second.distinct few2 le_rfl (by decide) nofun
  have mark : (((s.heated code).clearLimit code).clearHigh code).scanner.tempWarn = true := by
    rw [(((s.heated code).clearLimit code).clearHigh_scans code).scanner, ((s.heated code).clearLimit_scans code).scanner, s.heated_scanner,
      Scanner.warmed, was]
    exact Bool.or_true _
  obtain ⟨cleared, -⟩ : ClearedIn (((s.heated code).clearLimit code).clearHigh code).supervisor.table
      (s.judgeTemperature code).supervisor.table .tempWarn 0 ∧ (s.judgeTemperature code).Settled ∧ (s.judgeTemperature code).EntriesDistinct ∧
      StrangersAtMost 16 (s.judgeTemperature code).supervisor.table :=
    State.clear_if_clears third.distinct few3 le_rfl (by decide) ⟨cool, mark⟩
  exact cleared.of_found (((raised.trans second).trans third).others _ _ (not_isFloor_of_code (by decide) 0) (not_not_intro rfl)).symm rfl

end cleared

/-! ### A TEMP result -/

/-- The state a TEMP result is judged in: the watch judged and the temperature kept. -/
def State.tempKept (s : State) (code : DetectorCode) : State :=
  let u := s.watchStuck channelTemp code
  u.setScanner { u.scanner with lastTemp := some ((code.toNat : Int) - 160) }

/-- The stuck watch of a result leaves the entries but that of its own DET_STUCK. -/
theorem State.watchStuck_leaves {s : State} (settled : s.Settled) (distinct : s.EntriesDistinct) {n : Nat}
    (few : StrangersAtMost n s.supervisor.table) {channel : Fin 11} {code : DetectorCode} (ended : (s.scanner.stuck[channel].count code).raises = false)
    (room : n ≤ 16) : State.LeavesOthers (fun c _ => c = .detStuck) s (s.watchStuck channel code) ∧
      StrangersAtMost n (s.watchStuck channel code).supervisor.table := by
  cases clears : (s.scanner.stuck[channel].count code).clears with
  | false =>
    rw [State.watchStuck_rests ended clears]
    exact ⟨⟨settled.of_same rfl rfl, distinct, rfl, fun _ _ _ _ => rfl⟩, few⟩
  | true =>
    rw [State.watchStuck_clears clears]
    obtain ⟨leaves, -, fewer⟩ := State.clear_leaves (s := s.setScanner (s.scanner.watched channel code)) distinct (few.mono room)
      (code := .detStuck) (by decide) channel.val
    exact ⟨⟨leaves.settled, leaves.distinct, leaves.stamp, fun c y stranger apart => leaves.others c y stranger fun same => apart same.1⟩,
      fewer n room few⟩

end Sys2Proof.Machine
end

section
/-! PROOFS. A raise of TEMP_LIMIT or VSWR_TRIP taken whole: DOWN, the crash write, and a recompute that leaves no slot ACTIVE or SHED. -/

namespace Sys2Proof.Machine

/-- Where no slot is SHED or ACTIVE the recompute raises and clears nothing. -/
theorem State.floorsShed_of_neither {s : State} (neither : ∀ i : Fin 8, s.alloc.slots[i] ≠ .shed ∧ s.alloc.slots[i].isActive = false)
    (before : Vector SlotState 8) (slots : List (Fin 8)) : s.floorsShed before slots = s := by
  induction slots with
  | nil => rfl
  | cons slot rest ih =>
    obtain ⟨shed, -⟩ | ⟨active, -⟩ | ⟨-, -, stays⟩ := s.floorShed_cases before slot
    · exact absurd shed (neither slot).1
    · cases (neither slot).2.symm.trans active
    · rw [State.floorsShed, stays, ih]

theorem recomputed_of_absent {image : Image} {a : Alloc} {i : Fin 8} (absent : image.slots[i] = none) :
    (recomputed image a).slots[i] = .idle := by
  rw [recomputed_slots, verdictAt_eq, absent]; rfl

/-- With DOWN a recompute leaves every present slot DOWN and every other IDLE (R86, R87). -/
theorem recomputed_slots_of_down {image : Image} {a : Alloc} (down : a.down = true) (i : Fin 8) :
    (recomputed image a).slots[i] = if image.slots[i].isSome then .down else .idle := by
  cases present : image.slots[i] with
  | none => exact recomputed_of_absent present
  | some c => exact recomputed_of_down present down

/-- A recompute that is due with DOWN is taken alone. -/
theorem State.settle_of_down {s : State} (down : s.alloc.down = true) (due : s.alloc.recomputeDue = true) : s.settle = s.reallocate := by
  have slots (i : Fin 8) : s.reallocate.alloc.slots[i] = if s.cfg.slots[i].isSome then .down else .idle := recomputed_slots_of_down down i
  have neither (i : Fin 8) : s.reallocate.alloc.slots[i] ≠ .shed ∧ s.reallocate.alloc.slots[i].isActive = false := by
    rw [slots]; split <;> exact ⟨by simp, rfl⟩
  have taken : s.recompute = s.reallocate := State.floorsShed_of_neither neither s.alloc.slots (List.finRange 8)
  have notDue : s.reallocate.alloc.recomputeDue = false := rfl
  rw [State.settle, State.settleFuel, if_pos due, taken, State.settleFuel, if_neg (by rw [notDue]; exact Bool.false_ne_true)]

theorem FaultCode.derating_of_trips {code : FaultCode} (trips : code.trips = true) : code.derating = 0 ∧ code.severity.serious = true ∧
    code ≠ .floorShed := by
  cases code <;> simp [FaultCode.trips, FaultCode.derating, FaultCode.severity, Severity.serious, Severity.number] at trips ⊢

/-- A trip's entry that enters or returns at `q`. -/
structure TripEnters (t : FaultTable) (code : FaultCode) (subject : Nat) (stamp : EpochCount) (q : Fin 24) (x : FaultEntry) : Prop where
  raised : tableRaise t code subject stamp = ⟨t.set q (some x), false, true⟩
  is : x.Is code subject
  state : x.state = .activeUnacked
  position : ∀ e, t[q] = some e → e.Is code subject

theorem tripEnters_new {t : FaultTable} {code : FaultCode} {subject : Nat} {q : Fin 24} (absent : findEntry t code subject = none)
    (empty : firstEmpty t = some q) (stamp : EpochCount) : TripEnters t code subject stamp q (newEntry code subject stamp) :=
  ⟨by simp only [tableRaise, absent, empty], ⟨rfl, rfl⟩, rfl, tableRaise_position (.inl ⟨absent, empty⟩)⟩

theorem tripEnters_returned {t : FaultTable} {code : FaultCode} {subject : Nat} {q : Fin 24} {e : FaultEntry}
    (found : findEntry t code subject = some (q, e)) (cleared : e.state = .clearedUnacked) (stamp : EpochCount) :
    TripEnters t code subject stamp q (e.returned stamp) :=
  ⟨by simp only [tableRaise, found, cleared], (findEntry_eq_some_iff.mp found).2.1, rfl, tableRaise_position (.inr ⟨e, found⟩)⟩

/-- What the raise of a trip made of the settled state `s`. -/
structure State.TripStep (s t : State) (code : FaultCode) (subject : Nat) : Prop where
  settled : t.Settled
  supervisor : t.supervisor = s.raisedSupervisor code subject
  ctl : t.ctl = s.ctl.requestWrite (s.crashRecord code subject s.stamp)
  down : t.alloc.down = true
  slots : s.inRun = true → s.alloc.down = false → ∀ k : Fin 8, t.alloc.slots[k] = if s.cfg.slots[k].isSome then .down else .idle
  beff : t.alloc.beff = s.alloc.beff

/-- The state of a raise once the table is changed. -/
def State.tableRaised (s : State) (code : FaultCode) (subject : Nat) : State :=
  let r := tableRaise s.supervisor.table code subject s.stamp
  (s.setTable r.table).setSupervisor { (s.setTable r.table).supervisor with overflow := (s.setTable r.table).supervisor.overflow || r.overflow }

theorem State.raiseOnly_eq (s : State) (code : FaultCode) (subject : Nat) : s.raiseOnly code subject =
    (if (tableRaise s.supervisor.table code subject s.stamp).entered then
      ((s.tableRaised code subject).serious code subject s.stamp).tripped code subject s.stamp
    else s.tableRaised code subject).handOutputs := rfl

theorem State.tableRaised_step (s : State) (code : FaultCode) (subject : Nat) :
    s.TableStep ((s.tableRaised code subject).serious code subject s.stamp) := by
  rw [State.serious_step]; exact ⟨rfl⟩

theorem State.TableStep.crashRecord {s t : State} (h : s.TableStep t) (code : FaultCode) (subject : Nat) (stamp : EpochCount) :
    t.crashRecord code subject stamp = s.crashRecord code subject stamp := by
  rw [State.crashRecord, h.ctl, h.alloc, h.scanner]; rfl

/-- A trip asks for a crash write, and its outputs are DOWN and ALARM (R129, R135). -/
theorem State.raiseOnly_trip {s : State} {code : FaultCode} {subject : Nat} {q : Fin 24} {x : FaultEntry} (settled : s.Settled)
    (trips : code.trips = true) (enters : TripEnters s.supervisor.table code subject s.stamp q x) :
    (s.raiseOnly code subject).ctl = s.ctl.requestWrite (s.crashRecord code subject s.stamp) ∧
      (s.raiseOnly code subject).alloc = { s.alloc with down := true, recomputeDue := !s.alloc.down && s.inRun } := by
  have step := s.tableRaised_step code subject
  have eq : s.raiseOnly code subject = (((s.tableRaised code subject).serious code subject s.stamp).tripped code subject s.stamp).handOutputs := by
    rw [State.raiseOnly_eq, enters.raised]; rfl
  have table : ((s.tableRaised code subject).serious code subject s.stamp).supervisor.table = s.supervisor.table.set q (some x) := by
    rw [State.serious_table]
    exact congrArg Raised.table enters.raised
  have ctl : (((s.tableRaised code subject).serious code subject s.stamp).tripped code subject s.stamp).ctl =
      s.ctl.requestWrite (s.crashRecord code subject s.stamp) := by
    rw [State.tripped_ctl, if_pos trips, step.ctl, step.crashRecord]
  refine ⟨by rw [eq, State.handOutputs_ctl, ctl], ?_⟩
  have alloc : (((s.tableRaised code subject).serious code subject s.stamp).tripped code subject s.stamp).alloc = s.alloc := by
    rw [State.tripped_alloc, step.alloc]
  have table' : (((s.tableRaised code subject).serious code subject s.stamp).tripped code subject s.stamp).supervisor.table =
      s.supervisor.table.set q (some x) := by rw [State.tripped_supervisor, table]
  have none_ := (FaultCode.derating_of_trips trips).1
  have level : deratingLevel (s.supervisor.table.set q (some x)) = s.alloc.derating := by
    rw [settled.follow.derating]
    refine deratingLevel_set_of_zero (fun c asks => ?_) fun c asks => ?_
    · obtain ⟨e, held, -, rfl, -⟩ := askAt_eq_some_iff.mp asks
      rw [(enters.position e held).1]; exact none_
    · obtain ⟨f, ⟨⟩, asks⟩ := Option.bind_eq_some_iff.mp asks
      rw [← (FaultEntry.ask_eq_some_iff.mp asks).2.1, enters.is.1]; exact none_
  have down : downCondition (s.supervisor.table.set q (some x)) = true := by
    refine downCondition_iff.mpr ⟨q, code, askAt_eq_some_iff.mpr ⟨x, ?_, ?_, enters.is.1, .inr trips⟩, trips⟩
    · rw [Vector.getElem_set_fin, if_pos rfl]
    · rw [FaultEntry.active, enters.state]
  have run : (((s.tableRaised code subject).serious code subject s.stamp).tripped code subject s.stamp).inRun = s.inRun :=
    (State.tripped_beside _ _ _ _).inRun.trans (congrArg (fun c : StoreCtl => c.node == NodeState.run) step.ctl)
  rw [eq]
  generalize (((s.tableRaised code subject).serious code subject s.stamp).tripped code subject s.stamp) = u at *
  unfold State.handOutputs
  dsimp only
  rw [table', level, down, State.handDerating, if_pos (by rw [State.setSupervisor_alloc, alloc]), State.handDown]
  simp only [State.setSupervisor_alloc, alloc]
  have taken := settled.taken
  cases was : s.alloc.down with
  | true =>
    rw [if_pos rfl, State.setSupervisor_alloc, alloc]
    generalize s.alloc = a at was taken
    obtain ⟨⟩ := a
    cases was; cases taken; rfl
  | false =>
    rw [if_neg (by decide)]
    show ({ s.alloc with down := true, recomputeDue := s.alloc.recomputeDue || u.inRun } : Alloc) = _
    rw [run, taken, Bool.false_or, Bool.not_false, Bool.true_and]

/-- The raise of a trip, with the recompute that its DOWN brings in RUN. -/
theorem State.raise_trip {s : State} {code : FaultCode} {subject : Nat} {q : Fin 24} {x : FaultEntry} (settled : s.Settled)
    (trips : code.trips = true) (enters : TripEnters s.supervisor.table code subject s.stamp q x) :
    s.TripStep (s.raise code subject) code subject := by
  obtain ⟨ctl, alloc⟩ := State.raiseOnly_trip settled trips enters
  have settles : (s.raise code subject).Settled :=
    ⟨s.raise_outputsFollow code subject, State.settle_settled _⟩
  have down : (s.raiseOnly code subject).alloc.down = true := by rw [alloc]
  have cfg : (s.raiseOnly code subject).cfg = s.cfg := (State.InputStep.raiseOnly s code subject).alloc.beside.cfg
  have beff : (s.raiseOnly code subject).alloc.beff = s.alloc.beff := by rw [alloc]
  cases due : (s.raiseOnly code subject).alloc.recomputeDue with
  | false =>
    have rests : s.raise code subject = s.raiseOnly code subject := State.settle_of_not_due _ due
    rw [rests] at settles ⊢
    refine ⟨settles, State.raiseOnly_supervisor _ _ _, ctl, down, fun run was => ?_, beff⟩
    rw [alloc, was, run] at due
    cases due
  | true =>
    have taken : s.raise code subject = (s.raiseOnly code subject).reallocate := State.settle_of_down down due
    have supervisor := s.raiseOnly_supervisor code subject
    rw [taken] at settles ⊢
    generalize s.raiseOnly code subject = u at *
    refine ⟨settles, supervisor, ctl, down, fun _ _ k => ?_, beff⟩
    rw [← cfg]
    exact recomputed_slots_of_down down k

end Sys2Proof.Machine
end

section
/-! PROOFS. O35: the pair judged by its return loss. -/

namespace Sys2Proof.Machine

/-! ### The scanner after a pair (R50 to R53) -/

theorem Scanner.resulted_rfl (c : Scanner) (image : Image) (code : DetectorCode) :
    c.resulted image channelRfl code = (c.watched channelRfl code).paired image code := rfl

/-- A mark that holds already is set to itself. -/
theorem Scanner.set_warn {c : Scanner} {mark : Bool} (same : mark = c.vswrWarn) : c = { c with vswrWarn := mark } := by rw [same]

theorem Scanner.set_trip {c : Scanner} {mark : Bool} (same : mark = c.vswrTrip) : c = { c with vswrTrip := mark } := by rw [same]

theorem Scanner.warnJudged_eq {c : Scanner} (one : c.goodPairs = 0 ∨ c.badPairs = 0) :
    c.warnJudged = { c with vswrWarn := if c.badPairs = 3 then true else if c.goodPairs = 8 then false else c.vswrWarn } := by
  unfold Scanner.warnJudged
  cases mark : c.vswrWarn with
  | false =>
    by_cases third : c.badPairs = 3
    · rw [if_pos ⟨third, rfl⟩, if_pos third]
    · rw [if_neg fun h => third h.1, if_neg (by simp)]
      exact Scanner.set_warn (by rw [mark, if_neg third, ite_self])
  | true =>
    rw [if_neg (by simp)]
    by_cases eighth : c.goodPairs = 8
    · rw [if_pos ⟨eighth, rfl⟩, if_neg (by omega), if_pos eighth]
    · rw [if_neg fun h => eighth h.1]
      exact Scanner.set_warn (by rw [mark, if_neg eighth, ite_self])

theorem Scanner.tripJudged_eq (c : Scanner) : c.tripJudged = { c with vswrTrip := decide (c.badPairs = 19) || c.vswrTrip } := by
  unfold Scanner.tripJudged
  cases mark : c.vswrTrip with
  | true => rw [if_neg (by simp)]; exact Scanner.set_trip (by rw [mark, Bool.or_true])
  | false =>
    by_cases last : c.badPairs = 19
    · rw [if_pos ⟨last, rfl⟩, decide_eq_true last]; rfl
    · rw [if_neg fun h => last h.1, decide_eq_false last]; exact Scanner.set_trip mark.symm

/-- What the two judgements make of the marks, with one of the counts at 0. -/
theorem Scanner.judged_marks {c : Scanner} (one : c.goodPairs = 0 ∨ c.badPairs = 0) :
    c.warnJudged.tripJudged = { c with
      vswrWarn := if c.badPairs = 3 then true else if c.goodPairs = 8 then false else c.vswrWarn
      vswrTrip := decide (c.badPairs = 19) || c.vswrTrip } := by
  rw [Scanner.tripJudged_eq, Scanner.warnJudged_eq one]

/-- The scanner with the pair of a forward result counted, before its marks are judged. -/
def Scanner.pairCounted (c : Scanner) (image : Image) (forward : Nat) (reflected : DetectorCode) : Scanner :=
  ({ c with forward := none } : Scanner).countPair (decide ((forward : Int) - reflected.toNat < image.rlThreshold))

/-- A pair that is not skipped is counted and judged. -/
theorem Scanner.paired_eq {c : Scanner} {image : Image} {forward : Nat} (reflected : DetectorCode) (held : c.forward = some forward) :
    c.paired image reflected = if c.skips image forward then { c with forward := none }
      else (c.pairCounted image forward reflected).warnJudged.tripJudged := by
  rw [Scanner.paired, held]; rfl

theorem Scanner.pairCounted_bad {c : Scanner} {image : Image} {forward : Nat} {reflected : DetectorCode}
    (bad : (forward : Int) - reflected.toNat < image.rlThreshold) : c.pairCounted image forward reflected =
      { c with forward := none, badPairs := min 255 (c.badPairs + 1), goodPairs := 0 } := by
  rw [Scanner.pairCounted, decide_eq_true bad]; rfl

theorem Scanner.pairCounted_good {c : Scanner} {image : Image} {forward : Nat} {reflected : DetectorCode}
    (good : ¬ (forward : Int) - reflected.toNat < image.rlThreshold) : c.pairCounted image forward reflected =
      { c with forward := none, goodPairs := min 255 (c.goodPairs + 1), badPairs := 0 } := by
  rw [Scanner.pairCounted, decide_eq_false good]; rfl

/-! ### A pair in the table (R52, R53) -/

/-- The pair that is not skipped, as its two judgements take it. -/
theorem State.evaluatePair_eq {s : State} {forward : Nat} (reflected : DetectorCode) (held : s.scanner.forward = some forward)
    (used : s.scanner.skips s.cfg forward = false) :
    s.evaluatePair reflected = (s.setScanner (s.scanner.pairCounted s.cfg forward reflected)).judgeWarn.judgeTrip := by
  have skips : (s.setScanner { s.scanner with forward := none }).skipsPair forward = false := used
  unfold State.evaluatePair
  rw [held]
  dsimp only
  rw [if_neg (by rw [skips]; exact Bool.false_ne_true)]
  rfl

/-- Raises and clears of FLOOR_SHED leave the other entries where there is room for one for each slot. -/
theorem State.floorsShed_apart {s : State} (settled : s.Settled) {n : Nat} (few : AtMost n s.supervisor.table) (before : Vector SlotState 8)
    {slots : List (Fin 8)} (room : n + slots.length ≤ 24) {code : FaultCode} (other : code ≠ .floorShed) (subject : Nat) :
    (s.floorsShed before slots).Settled ∧
      findEntry (s.floorsShed before slots).supervisor.table code subject = findEntry s.supervisor.table code subject := by
  induction slots generalizing s n with
  | nil => exact ⟨settled, rfl⟩
  | cons slot rest ih =>
    rw [List.length_cons] at room
    have first : (s.floorShed before slot).Settled ∧ AtMost (n + 1) (s.floorShed before slot).supervisor.table ∧
        findEntry (s.floorShed before slot).supervisor.table code subject = findEntry s.supervisor.table code subject := by
      obtain ⟨-, -, eq⟩ | ⟨-, -, eq⟩ | ⟨-, -, eq⟩ := s.floorShed_cases before slot
      · have here := few.roomFor (by omega) .floorShed slot.val
        have quiet := State.raiseOnly_of_room (s := s.setAlloc { s.alloc with shedMarks := s.alloc.shedMarks.set slot true })
          (settled.setMarks _) FaultCode.floorShed_not_asks slot.val here
        rw [← eq] at quiet
        have table : (s.floorShed before slot).supervisor.table = (tableRaise s.supervisor.table .floorShed slot.val s.stamp).table := by
          rw [quiet.supervisor]; rfl
        exact ⟨quiet.settled, table ▸ few.tableRaise _ _ _, table ▸ findEntry_tableRaise_of_other _ here fun same => other same.1⟩
      · have quiet := State.clearOnly_of_not_asks (s := s.setAlloc { s.alloc with shedMarks := s.alloc.shedMarks.set slot false })
          (settled.setMarks _) FaultCode.floorShed_not_asks slot.val
        rw [← eq] at quiet
        have table : (s.floorShed before slot).supervisor.table = tableClear s.supervisor.table .floorShed slot.val := by
          rw [quiet.supervisor]; rfl
        exact ⟨quiet.settled, table ▸ (few.tableClear _ _).mono (by omega), table ▸ findEntry_tableClear_of_other fun same => other same.1⟩
      · rw [eq]; exact ⟨settled, few.mono (by omega), rfl⟩
    obtain ⟨settled', few', same⟩ := first
    obtain ⟨last, same'⟩ := ih settled' few' (by omega)
    exact ⟨last, same'.trans same⟩

/-- The recomputes asked for leave the other entries where there is room. -/
theorem State.settle_apart {s : State} (follow : s.OutputsFollow) (few : AtMost 16 s.supervisor.table) {code : FaultCode}
    (other : code ≠ .floorShed) (subject : Nat) :
    findEntry s.settle.supervisor.table code subject = findEntry s.supervisor.table code subject := by
  cases due : s.alloc.recomputeDue with
  | false => rw [State.settle_of_not_due _ due]
  | true =>
    have settled : s.reallocate.Settled := ⟨follow.reallocate, rfl⟩
    have few' : AtMost 16 s.reallocate.supervisor.table := few
    have recompute : s.recompute = s.reallocate.floorsShed s.alloc.slots (List.finRange 8) := rfl
    have length : 16 + (List.finRange 8).length ≤ 24 := by simp
    obtain ⟨last, same⟩ := State.floorsShed_apart settled few' s.alloc.slots length other subject
    rw [← recompute] at last same
    have settles : s.settle = s.recompute := by
      rw [State.settle, State.settleFuel, if_pos due, State.settleFuel, if_neg]
      rw [last.taken]; exact Bool.false_ne_true
    rw [settles]; exact same

/-- R118 through the recompute that the raise asks for. -/
theorem State.raise_apart {s : State} (few : AtMost 15 s.supervisor.table) {code : FaultCode} (other : code ≠ .floorShed) (subject : Nat) :
    RaisedAmong s.supervisor.table (s.raise code subject).supervisor.table code subject s.stamp ∧
      RaisedIn s.supervisor.table (s.raise code subject).supervisor.table code subject s.stamp := by
  have few' : AtMost 16 (s.raiseOnly code subject).supervisor.table := by rw [State.raiseOnly_table]; exact few.tableRaise _ _ _
  have same := State.settle_apart (s.raiseOnly_outputsFollow code subject) few' other subject
  have raised : RaisedIn s.supervisor.table (s.raiseOnly code subject).supervisor.table code subject s.stamp := by
    rw [State.raiseOnly_table]; exact raisedIn_tableRaise _ _ _ _
  exact ⟨(raised.among (few.roomFor (by omega) _ _)).of_found rfl same, raised.of_found same⟩

end Sys2Proof.Machine
end

section
/-! PROOFS. O35: the marks of a pair, raised and cleared in the table. -/

namespace Sys2Proof.Machine

/-! ### A raise that derates (R85, R128) -/

theorem FaultCode.derating_le (code : FaultCode) : code.derating ≤ 24 := by cases code <;> decide

/-- An ACTIVE entry holds the derating level up. -/
theorem derating_le_level {t : FaultTable} {p : Fin 24} {e : FaultEntry} (held : t[p] = some e) (active : e.active = true) :
    e.code.derating ≤ deratingLevel t := by
  by_cases derates : 0 < e.code.derating
  · exact deratingLevel_le_iff.mp le_rfl p e.code (askAt_eq_some_iff.mpr ⟨e, held, active, rfl, .inl derates⟩)
  · omega

theorem deratingLevel_le (t : FaultTable) : deratingLevel t ≤ 24 := deratingLevel_le_iff.mpr fun _ code _ => code.derating_le

/-- Outputs that move the derating level of a node in RUN set its effective budget anew. -/
theorem State.handOutputs_moved {s : State} (run : s.inRun = true) (moved : deratingLevel s.supervisor.table ≠ s.alloc.derating) :
    s.handOutputs.alloc.beff = some (s.cfg.budget - s.handOutputs.alloc.derating) := by
  unfold State.handOutputs
  dsimp only
  obtain ⟨beff, derating⟩ := (State.handDerating (s.setSupervisor { s.supervisor with alarm := alarmLevel s.supervisor.table })
    (deratingLevel s.supervisor.table)).handDown_keeps (downCondition s.supervisor.table)
  have run' : (s.setSupervisor { s.supervisor with alarm := alarmLevel s.supervisor.table }).inRun = true := run
  have moved' : ¬ deratingLevel s.supervisor.table =
      (s.setSupervisor { s.supervisor with alarm := alarmLevel s.supervisor.table }).alloc.derating := moved
  rw [beff, derating, State.handDerating, if_neg moved', if_pos run']
  rfl

/-- A raise that moves the derating level of a node in RUN leaves its effective budget the budget less the level. -/
theorem State.raise_atFloors {s : State} (run : s.inRun = true) (code : FaultCode) (subject : Nat)
    (moved : deratingLevel (s.raiseOnly code subject).supervisor.table ≠ s.alloc.derating) : (s.raise code subject).AtFloors False := by
  have step := (State.AllocStep.raiseOnly s code subject).beside
  obtain ⟨u, raised, beside, alloc, table⟩ : ∃ u, s.raiseOnly code subject = u.handOutputs ∧ s.Beside u ∧ u.alloc = s.alloc ∧
      u.supervisor.table = (s.raiseOnly code subject).supervisor.table := by
    refine ⟨_, State.raiseOnly_eq s code subject, ?_, ?_, ?_⟩
    · split
      · exact (State.setTable_beside _ _).trans ((State.setSupervisor_beside _ _).trans
          ((State.serious_beside _ _ _ _).trans (State.tripped_beside _ _ _ _)))
      · exact (State.setTable_beside _ _).trans (State.setSupervisor_beside _ _)
    · split
      · rw [State.tripped_alloc, State.serious_alloc]; rfl
      · rfl
    · rw [State.raiseOnly_eq, State.handOutputs_supervisor]
  have here : (s.raiseOnly code subject).AtFloors False := by
    refine ⟨step.inRun.trans run, ?_, nofun⟩
    rw [step.cfg, raised, ← beside.cfg]
    exact State.handOutputs_moved (beside.inRun.trans run) (by rw [table, alloc]; exact moved)
  exact State.AtFloors.recomputes.settle here

/-- VSWR_WARN raised: its entry, ALARM, the derating and, in RUN, the effective budget (R52, R85, R128, R130). -/
theorem State.raise_vswrWarn {s : State} (few : AtMost 15 s.supervisor.table) :
    RaisedIn s.supervisor.table (s.raise .vswrWarn 0).supervisor.table .vswrWarn 0 s.stamp ∧
      (findEntry s.supervisor.table .vswrWarn 0 = none → (s.raise .vswrWarn 0).supervisor.alarm = true) ∧
      (s.raise .vswrWarn 0).alloc.derating = 24 ∧
      (s.ctl.node = .run → s.alloc.derating < 24 → (s.raise .vswrWarn 0).alloc.beff = some (s.cfg.budget - 24)) := by
  obtain ⟨among, raised⟩ := State.raise_apart few (code := .vswrWarn) (by decide) 0
  have follow := s.raise_outputsFollow .vswrWarn 0
  have level {t : FaultTable} (among : RaisedAmong s.supervisor.table t .vswrWarn 0 s.stamp) : deratingLevel t = 24 := by
    obtain ⟨p, e, held, code, active⟩ : ∃ (p : Fin 24) (e : FaultEntry), t[p] = some e ∧ e.code = .vswrWarn ∧ e.active = true := by
      cases found : findEntry s.supervisor.table .vswrWarn 0 with
      | none =>
        obtain ⟨q, entry⟩ := among.1 found
        exact ⟨q, _, (findEntry_eq_some_iff.mp entry).1, rfl, rfl⟩
      | some x =>
        obtain ⟨p, e⟩ := x
        obtain ⟨held, is, -⟩ := findEntry_eq_some_iff.mp (among.2 p e found)
        have code := (findEntry_eq_some_iff.mp found).2.1.1
        refine ⟨p, _, held, is.1, ?_⟩
        split
        next => rfl
        next active => cases state : e.state <;> simp_all [FaultEntry.active]
    have := derating_le_level held active
    have := deratingLevel_le t
    rw [code] at *
    exact le_antisymm (by assumption) (by assumption)
  have derating : (s.raise .vswrWarn 0).alloc.derating = 24 := follow.derating.trans (level among)
  refine ⟨raised, fun absent => ?_, derating, fun run below => ?_⟩
  · obtain ⟨q, entry⟩ := among.1 absent
    rw [follow.alarm, alarmLevel_iff]
    exact ⟨q, _, (findEntry_eq_some_iff.mp entry).1, rfl, .inl rfl⟩
  · have amongOnly : RaisedAmong s.supervisor.table (s.raiseOnly .vswrWarn 0).supervisor.table .vswrWarn 0 s.stamp := by
      rw [State.raiseOnly_table]
      exact (raisedIn_tableRaise _ _ _ _).among (few.roomFor (by omega) _ _)
    have floors := State.raise_atFloors (s := s) (by simp [State.inRun, run]) .vswrWarn 0 (by rw [level amongOnly]; omega)
    rw [floors.beff, derating, (s.raise_beside .vswrWarn 0).cfg]

/-! ### The pair of a reflected result -/

theorem Scanner.watched_stuck_of_other {c : Scanner} {channel other : Fin 11} (apart : channel ≠ other) (code : DetectorCode) :
    (c.watched channel code).stuck[other] = c.stuck[other] := by
  show (c.stuck.set channel _)[other] = _
  rw [Vector.getElem_set_fin, if_neg apart]

/-- When the pair is skipped, by the stuck watches as they stand after the reflected result. -/
theorem Scanner.skips_watched_iff (c : Scanner) (image : Image) (forward : Nat) (code : DetectorCode) :
    (c.watched channelRfl code).skips image forward = true ↔ forward < image.fwdMin ∨ c.stuck[channelFwd].standing = true ∨
      (c.stuck[channelRfl].standing = true ∧ ((code = 0#10 ∨ code = 1023#10) ∨ c.stuck[channelRfl].inRangeRun < 63)) ∨
      (c.stuck[channelRfl].standing = false ∧ (code = 0#10 ∨ code = 1023#10) ∧ 63 ≤ c.stuck[channelRfl].railRun) := by
  rw [Scanner.skips, Scanner.watched_stuck_of_other (by decide), Scanner.watched_stuck, Bool.or_eq_true, Bool.or_eq_true, decide_eq_true_iff,
    StuckWatch.judged_standing_iff, or_assoc]

theorem Scanner.resulted_skipped {c : Scanner} {image : Image} {forward : Nat} {code : DetectorCode} (held : c.forward = some forward)
    (skips : (c.watched channelRfl code).skips image forward = true) :
    c.resulted image channelRfl code = { c.watched channelRfl code with forward := none } := by
  rw [Scanner.resulted_rfl, Scanner.paired_eq code (show (c.watched channelRfl code).forward = some forward from held), if_pos skips]

/-- The scanner after a bad pair (R51 to R53). -/
theorem Scanner.resulted_bad {c : Scanner} {image : Image} {forward : Nat} {code : DetectorCode} (held : c.forward = some forward)
    (used : (c.watched channelRfl code).skips image forward = false) (bad : (forward : Int) - code.toNat < image.rlThreshold) :
    c.resulted image channelRfl code = { c.watched channelRfl code with
      forward := none, badPairs := min 255 (c.badPairs + 1), goodPairs := 0
      vswrWarn := if min 255 (c.badPairs + 1) = 3 then true else c.vswrWarn
      vswrTrip := decide (min 255 (c.badPairs + 1) = 19) || c.vswrTrip } := by
  rw [Scanner.resulted_rfl, Scanner.paired_eq code (show (c.watched channelRfl code).forward = some forward from held),
    if_neg (by rw [used]; exact Bool.false_ne_true), Scanner.pairCounted_bad bad, Scanner.judged_marks (.inl rfl)]
  rfl

/-- The scanner after a good pair (R51, R52). -/
theorem Scanner.resulted_good {c : Scanner} {image : Image} {forward : Nat} {code : DetectorCode} (held : c.forward = some forward)
    (used : (c.watched channelRfl code).skips image forward = false) (good : ¬ (forward : Int) - code.toNat < image.rlThreshold) :
    c.resulted image channelRfl code = { c.watched channelRfl code with
      forward := none, goodPairs := min 255 (c.goodPairs + 1), badPairs := 0
      vswrWarn := if min 255 (c.goodPairs + 1) = 8 then false else c.vswrWarn } := by
  rw [Scanner.resulted_rfl, Scanner.paired_eq code (show (c.watched channelRfl code).forward = some forward from held),
    if_neg (by rw [used]; exact Bool.false_ne_true), Scanner.pairCounted_good good, Scanner.judged_marks (.inr rfl)]
  rfl

/-! ### The judgements that ask for nothing -/

theorem State.judgeWarn_of_other {s : State} (bad : s.scanner.badPairs ≠ 3) (good : s.scanner.goodPairs ≠ 8) : s.judgeWarn = s := by
  rw [State.judgeWarn, if_neg fun h => bad h.1, if_neg fun h => good h.1]

theorem State.judgeTrip_of_other {s : State} (bad : s.scanner.badPairs ≠ 19) : s.judgeTrip = s := by
  rw [State.judgeTrip, if_neg fun h => bad h.1]

/-- The use of a reflected result after a watch that asks for nothing. -/
theorem State.useResult_rfl {s : State} {code : DetectorCode} {forward : Nat} (rests : s.watchStuck channelRfl code =
      s.setScanner (s.scanner.watched channelRfl code)) (held : s.scanner.forward = some forward)
    (used : (s.scanner.watched channelRfl code).skips s.cfg forward = false) :
    (s.watchStuck channelRfl code).useResult channelRfl code =
      (s.setScanner ((s.scanner.watched channelRfl code).pairCounted s.cfg forward code)).judgeWarn.judgeTrip := by
  rw [rests]
  exact State.evaluatePair_eq (s := s.setScanner (s.scanner.watched channelRfl code)) code held used

/-- The pair of O35's first part: a watch that asks for nothing, and neither channel stuck. -/
structure State.PairOpen (s : State) (code : DetectorCode) (forward : Nat) : Prop where
  held : s.scanner.forward = some forward
  rests : s.watchStuck channelRfl code = s.setScanner (s.scanner.watched channelRfl code)
  skips : (s.scanner.watched channelRfl code).skips s.cfg forward = decide (forward < s.cfg.fwdMin)

theorem State.pairOpen {s : State} {code : DetectorCode} {forward : Nat} (held : s.scanner.forward = some forward)
    (fwd : s.scanner.stuck[channelFwd].standing = false) (rfl_ : s.scanner.stuck[channelRfl].standing = false)
    (few : code = 0#10 ∨ code = 1023#10 → s.scanner.stuck[channelRfl].railRun < 63) : s.PairOpen code forward := by
  obtain ⟨raises, clears⟩ := StuckWatch.rests (w := s.scanner.stuck[channelRfl]) (code := code) (fun rail => .inl (few rail)) fun _ _ => .inr rfl_
  refine ⟨held, State.watchStuck_rests raises clears, ?_⟩
  rw [Bool.eq_iff_iff, Scanner.skips_watched_iff, decide_eq_true_iff, fwd, rfl_]
  simp only [Bool.false_eq_true, false_and, false_or, true_and, or_iff_left_iff_imp]
  rintro ⟨rail, many⟩
  have := few rail
  omega

/-- VSWR_WARN with the third bad pair in a run. -/
theorem State.PairOpen.third {s : State} {code : DetectorCode} {forward : Nat} (h : s.PairOpen code forward)
    (open_ : ¬ forward < s.cfg.fwdMin) (bad : (forward : Int) - code.toNat < s.cfg.rlThreshold) (run : s.scanner.badPairs = 2)
    (ended : s.scanner.vswrWarn = false) : ∃ c, (s.watchStuck channelRfl code).useResult channelRfl code =
      (s.setScanner c).raise .vswrWarn 0 := by
  have counted := Scanner.pairCounted_bad (c := s.scanner.watched channelRfl code) bad
  have warn : (s.setScanner ((s.scanner.watched channelRfl code).pairCounted s.cfg forward code)).judgeWarn =
      (s.setScanner { (s.scanner.watched channelRfl code).pairCounted s.cfg forward code with vswrWarn := true }).raise .vswrWarn 0 := by
    refine if_pos ⟨?_, ?_⟩
    · rw [State.setScanner_scanner, counted]
      show min 255 (s.scanner.badPairs + 1) = 3
      omega
    · rw [State.setScanner_scanner, counted]
      show (!s.scanner.vswrWarn) = true
      rw [ended]; rfl
  have trip : ((s.setScanner { (s.scanner.watched channelRfl code).pairCounted s.cfg forward code with vswrWarn := true }).raise
      .vswrWarn 0).scanner.badPairs ≠ 19 := by
    rw [(State.raise_beside _ _ _).scanner, counted]
    show min 255 (s.scanner.badPairs + 1) ≠ 19
    omega
  have use := State.useResult_rfl h.rests h.held (h.skips.trans (decide_eq_false open_))
  rw [warn, State.judgeTrip_of_other trip] at use
  exact ⟨_, use⟩

/-- VSWR_TRIP with the nineteenth. -/
theorem State.PairOpen.nineteenth {s : State} {code : DetectorCode} {forward : Nat} (h : s.PairOpen code forward)
    (open_ : ¬ forward < s.cfg.fwdMin) (bad : (forward : Int) - code.toNat < s.cfg.rlThreshold) (run : s.scanner.badPairs = 18)
    (ended : s.scanner.vswrTrip = false) : ∃ c : Scanner, c.lastTemp = s.scanner.lastTemp ∧
      (s.watchStuck channelRfl code).useResult channelRfl code = (s.setScanner c).raise .vswrTrip 0 := by
  have counted := Scanner.pairCounted_bad (c := s.scanner.watched channelRfl code) bad
  have warn : (s.setScanner ((s.scanner.watched channelRfl code).pairCounted s.cfg forward code)).judgeWarn =
      s.setScanner ((s.scanner.watched channelRfl code).pairCounted s.cfg forward code) := by
    refine State.judgeWarn_of_other ?_ ?_ <;> rw [State.setScanner_scanner, counted]
    · show min 255 (s.scanner.badPairs + 1) ≠ 3
      omega
    · exact nofun
  have trip : (s.setScanner ((s.scanner.watched channelRfl code).pairCounted s.cfg forward code)).judgeTrip =
      (s.setScanner { (s.scanner.watched channelRfl code).pairCounted s.cfg forward code with vswrTrip := true }).raise .vswrTrip 0 := by
    refine if_pos ⟨?_, ?_⟩
    · rw [State.setScanner_scanner, counted]
      show min 255 (s.scanner.badPairs + 1) = 19
      omega
    · rw [State.setScanner_scanner, counted]
      show (!s.scanner.vswrTrip) = true
      rw [ended]; rfl
  have use := State.useResult_rfl h.rests h.held (h.skips.trans (decide_eq_false open_))
  rw [warn, trip] at use
  exact ⟨_, by rw [counted]; rfl, use⟩

/-- The end of VSWR_WARN with the eighth good pair. -/
theorem State.PairOpen.eighth {s : State} {code : DetectorCode} {forward : Nat} (h : s.PairOpen code forward)
    (open_ : ¬ forward < s.cfg.fwdMin) (good : ¬ (forward : Int) - code.toNat < s.cfg.rlThreshold) (run : s.scanner.goodPairs = 7)
    (stands : s.scanner.vswrWarn = true) : ∃ c, (s.watchStuck channelRfl code).useResult channelRfl code =
      (s.setScanner c).clear .vswrWarn 0 := by
  have counted := Scanner.pairCounted_good (c := s.scanner.watched channelRfl code) good
  have warn : (s.setScanner ((s.scanner.watched channelRfl code).pairCounted s.cfg forward code)).judgeWarn =
      (s.setScanner { (s.scanner.watched channelRfl code).pairCounted s.cfg forward code with vswrWarn := false }).clear .vswrWarn 0 := by
    refine (if_neg ?_).trans (if_pos ⟨?_, ?_⟩) <;> rw [State.setScanner_scanner, counted]
    · exact nofun
    · show min 255 (s.scanner.goodPairs + 1) = 8
      omega
    · exact stands
  have trip : ((s.setScanner { (s.scanner.watched channelRfl code).pairCounted s.cfg forward code with vswrWarn := false }).clear
      .vswrWarn 0).scanner.badPairs ≠ 19 := by
    rw [(State.clear_beside _ _ _).scanner, counted]
    exact nofun
  have use := State.useResult_rfl h.rests h.held (h.skips.trans (decide_eq_false open_))
  rw [warn, State.judgeTrip_of_other trip] at use
  exact ⟨_, use⟩

end Sys2Proof.Machine
end

section
/-! PROOFS. O35 put together. -/

namespace Sys2Proof.Machine

/-- VSWR_TRIP raised: the table, the snapshot, ALARM, DOWN, and the crash write it asks for (R53, R129, R131, R135). -/
theorem State.raise_vswrTrip {s : State} {c : Scanner} (same : c.lastTemp = s.scanner.lastTemp) (settled : s.Settled) {q : Fin 24} {x : FaultEntry}
    (enters : TripEnters s.supervisor.table .vswrTrip 0 s.stamp q x) (t : State) (raised : t = (s.setScanner c).raise .vswrTrip 0) :
    t.supervisor.table = s.supervisor.table.set q (some x) ∧ s.CapturedOrCounted .vswrTrip 0 t.supervisor ∧
      t.supervisor.alarm = true ∧ t.alloc.down = true ∧
      (s.ctl.node = .run → s.alloc.down = false → ∀ k : Fin 8, t.alloc.slots[k] = if s.cfg.slots[k].isSome then .down else .idle) ∧
      ∃ record, WriteAnswered s.ctl t.ctl record ∧ record.code = .vswrTrip ∧ record.subject = 0 ∧ record.cause = s.ctl.cause ∧
        record.stamp = s.stamp ∧ record.beff = s.alloc.beff ∧ record.lastTemp = s.scanner.lastTemp ∧
        ∀ k : Fin 8, record.applied[k] = s.alloc.slots[k].applied := by
  have step := State.raise_trip (s := s.setScanner c) (settled.of_same rfl rfl) rfl enters
  rw [← raised] at step
  have alarms : x.alarms = true := by rw [FaultEntry.alarms, enters.state, enters.is.1]; rfl
  obtain ⟨table, alarm, -⟩ := State.raisedSupervisor_entered (s := s.setScanner c) (code := .vswrTrip) (subject := 0) alarms enters.raised
  have captured := State.raisedSupervisor_captured (s := s.setScanner c) (code := .vswrTrip) (subject := 0) rfl (congrArg Raised.entered enters.raised)
  rw [← step.supervisor] at table alarm captured
  have answered := StoreCtl.requestWrite_answered s.ctl ((s.setScanner c).crashRecord .vswrTrip 0 s.stamp)
  rw [show s.ctl.requestWrite ((s.setScanner c).crashRecord .vswrTrip 0 s.stamp) = t.ctl from step.ctl.symm] at answered
  refine ⟨table, ?_, alarm, step.down, fun run => step.slots (by simpa [State.inRun] using run), _, answered, rfl, rfl, rfl, rfl, rfl, same, fun k => ?_⟩
  · unfold State.CapturedOrCounted at captured ⊢
    rw [← same]
    exact captured
  · exact tab_getElem ..

theorem tripEnters_vswr {t : FaultTable} {stamp : EpochCount} {q : Fin 24} {x : FaultEntry}
    (how : (findEntry t .vswrTrip 0 = none ∧ firstEmpty t = some q ∧ x = ⟨.vswrTrip, 0, .activeUnacked, stamp, stamp, 1, 3⟩) ∨
      ∃ e, findEntry t .vswrTrip 0 = some (q, e) ∧ e.state = .clearedUnacked ∧
        x = { e with state := .activeUnacked, lastEpoch := stamp, count := min 255 (e.count + 1), credit := 3 }) :
    TripEnters t .vswrTrip 0 stamp q x := by
  obtain ⟨absent, empty, rfl⟩ | ⟨e, found, cleared, rfl⟩ := how
  · exact tripEnters_new absent empty stamp
  · exact tripEnters_returned found cleared stamp

/-- The forward result is used up, whatever becomes of the pair (R50). -/
theorem Scanner.resulted_forward {c : Scanner} {image : Image} {forward : Nat} {code : DetectorCode} (held : c.forward = some forward) :
    (c.resulted image channelRfl code).forward = none := by
  cases used : (c.watched channelRfl code).skips image forward with
  | true => rw [Scanner.resulted_skipped held used]
  | false =>
    by_cases bad : (forward : Int) - code.toNat < image.rlThreshold
    · rw [Scanner.resulted_bad held used bad]
    · rw [Scanner.resulted_good held used bad]

theorem State.evaluatePair_of_skipped {s : State} {forward : Nat} (reflected : DetectorCode) (held : s.scanner.forward = some forward)
    (skips : s.scanner.skips s.cfg forward = true) : s.evaluatePair reflected = s.setScanner { s.scanner with forward := none } := by
  have skips' : (s.setScanner { s.scanner with forward := none }).skipsPair forward = true := skips
  unfold State.evaluatePair
  rw [held]
  exact if_pos skips'

/-- Settles O35: the pair is judged in the scanner; the mark that it sets or ends is then raised or cleared. -/
theorem pairsAreJudgedByReturnLoss : Obligations.PairsAreJudgedByReturnLoss := by
  refine ⟨fun s code i forward flight entry held fwd rfl_ few => ?_, fun s code i forward flight entry held => ?_, fun s code i flight entry => ?_⟩
  · have pair := State.pairOpen held fwd rfl_ few
    have ends := State.conversionEnds_eq code flight entry
    refine ⟨_, congrArg Host.Outcome.next ends, Scanner.resulted_forward held, fun below => ?_, fun enough bad => ?_, fun enough good => ?_⟩
    · have skips : (s.scanner.watched channelRfl code).skips s.cfg forward = true := pair.skips.trans (decide_eq_true below)
      have scanner := Scanner.resulted_skipped held skips
      refine ⟨(congrArg Scanner.badPairs scanner :), (congrArg Scanner.goodPairs scanner :), ?_⟩
      have use : (s.watchStuck channelRfl code).useResult channelRfl code =
          (s.setScanner (s.scanner.watched channelRfl code)).setScanner { s.scanner.watched channelRfl code with forward := none } := by
        rw [pair.rests]
        exact State.evaluatePair_of_skipped (s := s.setScanner (s.scanner.watched channelRfl code)) code held skips
      rw [use]
      rfl
    · have open_ : ¬ forward < s.cfg.fwdMin := by omega
      have scanner := Scanner.resulted_bad held (pair.skips.trans (decide_eq_false open_)) bad
      refine ⟨(congrArg Scanner.badPairs scanner :), (congrArg Scanner.goodPairs scanner :), fun run => ?_, fun run => ?_, fun run => ?_, fun run => ?_,
        fun run ended _ few => ?_, fun run ended settled q x how => ?_⟩
      · exact (congrArg Scanner.vswrWarn scanner).trans (if_pos (by omega))
      · exact (congrArg Scanner.vswrTrip scanner).trans (by rw [run]; rfl)
      · exact (congrArg Scanner.vswrWarn scanner).trans (if_neg (by omega))
      · refine (congrArg Scanner.vswrTrip scanner).trans ?_
        rw [decide_eq_false (by omega)]; rfl
      · obtain ⟨c, use⟩ := pair.third open_ bad run ended
        rw [use]
        exact State.raise_vswrWarn (s := s.setScanner c) few
      · obtain ⟨c, same, use⟩ := pair.nineteenth open_ bad run ended
        rw [use]
        exact State.raise_vswrTrip same settled (tripEnters_vswr how) ((s.setScanner c).raise .vswrTrip 0) rfl
    · have open_ : ¬ forward < s.cfg.fwdMin := by omega
      have scanner := Scanner.resulted_good held (pair.skips.trans (decide_eq_false open_)) (by omega)
      refine ⟨(congrArg Scanner.goodPairs scanner :), (congrArg Scanner.badPairs scanner :), (congrArg Scanner.vswrTrip scanner :), fun run => ?_,
        fun run => ?_, fun run stands _ distinct few => ?_⟩
      · exact (congrArg Scanner.vswrWarn scanner).trans (if_pos (by omega))
      · exact (congrArg Scanner.vswrWarn scanner).trans (if_neg (by omega))
      · obtain ⟨c, use⟩ := pair.eighth open_ (by omega) run stands
        rw [use]
        exact State.clear_clearedIn (s := s.setScanner c) distinct few (by decide) 0
  · refine ⟨_, congrArg Host.Outcome.next (State.conversionEnds_eq code flight entry), Scanner.resulted_forward held, fun skipped => ?_, fun used => ?_⟩
    · have scanner := Scanner.resulted_skipped held ((Scanner.skips_watched_iff _ _ _ _).mpr skipped)
      exact ⟨(congrArg Scanner.badPairs scanner :), (congrArg Scanner.goodPairs scanner :), (congrArg Scanner.vswrWarn scanner :),
        (congrArg Scanner.vswrTrip scanner :)⟩
    · have used : (s.scanner.watched channelRfl code).skips s.cfg forward = false :=
        Bool.eq_false_iff.mpr fun skips => used ((Scanner.skips_watched_iff _ _ _ _).mp skips)
      split
      next bad =>
        have scanner := Scanner.resulted_bad held used bad
        exact congrArg (fun c : Scanner => (c.badPairs, c.goodPairs)) scanner
      next good =>
        have scanner := Scanner.resulted_good held used good
        exact congrArg (fun c : Scanner => (c.badPairs, c.goodPairs)) scanner
  · exact ⟨_, congrArg Host.Outcome.next (State.conversionEnds_eq code flight entry), rfl, rfl, rfl, rfl, rfl⟩

end Sys2Proof.Machine
end

section
/-! PROOFS. O34: a hot amplifier trips, and a cooler one is cleared. -/

namespace Sys2Proof.Machine

/-! ### The scanner after a TEMP result (R47, R55, R56) -/

theorem Scanner.resulted_temp_of_stuck {c : Scanner} {image : Image} {code : DetectorCode}
    (stuck : (c.watched channelTemp code).stuck[channelTemp].standing = true) :
    c.resulted image channelTemp code = { c.watched channelTemp code with lastTemp := some ((code.toNat : Int) - 160) } := by
  rw [Scanner.resulted_temp, Scanner.tempered]
  exact if_pos stuck

theorem Scanner.resulted_temp_of_free {c : Scanner} {image : Image} {code : DetectorCode}
    (free : (c.watched channelTemp code).stuck[channelTemp].standing = false) :
    c.resulted image channelTemp code =
      ({ c.watched channelTemp code with lastTemp := some ((code.toNat : Int) - 160) } : Scanner).heated code.toNat := by
  rw [Scanner.resulted_temp, Scanner.tempered]
  exact if_neg (by rw [free]; exact Bool.false_ne_true)

/-- The use of a TEMP result while the channel is not stuck. -/
theorem State.useResult_temp {s : State} {code : DetectorCode} (free : (s.scanner.watched channelTemp code).stuck[channelTemp].standing = false) :
    (s.watchStuck channelTemp code).useResult channelTemp code = (s.tempKept code).judgeTemperature code.toNat := by
  have free' : ((s.watchStuck channelTemp code).setScanner
      { (s.watchStuck channelTemp code).scanner with lastTemp := some ((code.toNat : Int) - 160) }).stuckStands channelTemp = false := by
    show ((s.watchStuck channelTemp code).scanner.stuck[channelTemp]).standing = false
    rw [(s.watchStuck_scans channelTemp code).scanner]; exact free
  show (s.watchStuck channelTemp code).takeTemperature code = _
  unfold State.takeTemperature
  exact if_neg (by rw [free']; exact Bool.false_ne_true)

/-- O34's second part. -/
theorem temperatureIsJudged (s : State) (code : DetectorCode) (i : Nat) (flight : s.scanner.conversion = some i)
    (entry : s.scanner.scanList[i]? = some channelTemp) {stuck : Prop}
    (stuck_iff : stuck ↔ (s.scanner.watched channelTemp code).stuck[channelTemp].standing = true) :
    ∃ t, exec (.conversionComplete code) s = .next t ∧ t.scanner.lastTemp = some ((code.toNat : Int) - 160) ∧
      (stuck → t.scanner.tempWarn = s.scanner.tempWarn ∧ t.scanner.tempHigh = s.scanner.tempHigh ∧
        t.scanner.tempLimit = s.scanner.tempLimit ∧ (s.scanner.stuck[channelTemp].standing = true → t = s.setScanner t.scanner)) ∧
      (¬ stuck →
        t.scanner.tempWarn = (decide (500 ≤ code.toNat) || (decide (480 ≤ code.toNat) && s.scanner.tempWarn)) ∧
        t.scanner.tempHigh = (decide (540 ≤ code.toNat) || (decide (520 ≤ code.toNat) && s.scanner.tempHigh)) ∧
        t.scanner.tempLimit = (decide (580 ≤ code.toNat) || (decide (560 ≤ code.toNat) && s.scanner.tempLimit))) ∧
      (¬ stuck → s.Settled → s.EntriesDistinct → AtMost 13 s.supervisor.table →
        (s.scanner.tempWarn = true → t.scanner.tempWarn = false →
          ClearedIn s.supervisor.table t.supervisor.table .tempWarn 0) ∧
        (s.scanner.tempHigh = true → t.scanner.tempHigh = false →
          ClearedIn s.supervisor.table t.supervisor.table .tempHigh 0) ∧
        (s.scanner.tempLimit = true → t.scanner.tempLimit = false →
          ClearedIn s.supervisor.table t.supervisor.table .tempLimit 0)) := by
  refine ⟨_, congrArg Host.Outcome.next (State.conversionEnds_eq code flight entry), Scanner.tempered_lastTemp _ _, fun isStuck => ?_,
    fun notStuck => ?_, fun notStuck settled distinct few => ?_⟩
  · have stands := stuck_iff.mp isStuck
    have scanner := Scanner.resulted_temp_of_stuck (image := s.cfg) stands
    refine ⟨(congrArg Scanner.tempWarn scanner :), (congrArg Scanner.tempHigh scanner :), (congrArg Scanner.tempLimit scanner :), fun before => ?_⟩
    rw [Scanner.watched_stuck, StuckWatch.judged_standing_iff, before] at stands
    have still : (code = 0#10 ∨ code = 1023#10) ∨ s.scanner.stuck[channelTemp].inRangeRun < 63 := by simpa using stands
    obtain ⟨raises, clears⟩ := StuckWatch.rests (w := s.scanner.stuck[channelTemp]) (code := code) (fun _ => .inr before)
      fun low high => .inl (still.resolve_left fun rail => rail.elim low high)
    have watch := State.watchStuck_rests raises clears
    have here : (s.watchStuck channelTemp code).stuckStands channelTemp = true := by
      rw [State.stuckStands, (s.watchStuck_scans channelTemp code).scanner]; exact stuck_iff.mp isStuck
    rw [State.useResult_of_stuck code here, watch]
    rfl
  · have scanner := Scanner.resulted_temp_of_free (image := s.cfg) (Bool.eq_false_iff.mpr fun stands => notStuck (stuck_iff.mpr stands))
    exact ⟨(congrArg Scanner.tempWarn scanner :), (congrArg Scanner.tempHigh scanner :), (congrArg Scanner.tempLimit scanner :)⟩
  · have free : (s.scanner.watched channelTemp code).stuck[channelTemp].standing = false :=
      Bool.eq_false_iff.mpr fun stands => notStuck (stuck_iff.mpr stands)
    have scanner := Scanner.resulted_temp_of_free (image := s.cfg) free
    have ended : (s.scanner.stuck[channelTemp].count code).raises = false := by
      refine Bool.eq_false_iff.mpr fun raises => ?_
      rw [Scanner.watched_stuck, StuckWatch.judged, if_pos raises] at free
      cases free
    obtain ⟨watch, few'⟩ := State.watchStuck_leaves settled distinct few.strangers ended (by omega)
    have kept : (s.tempKept code).scanner = { s.scanner.watched channelTemp code with lastTemp := some ((code.toNat : Int) - 160) } := by
      show ({ (s.watchStuck channelTemp code).scanner with lastTemp := some ((code.toNat : Int) - 160) } : Scanner) = _
      rw [(s.watchStuck_scans channelTemp code).scanner]
    have settled' : (s.tempKept code).Settled := watch.settled.of_same rfl rfl
    have before {x : FaultCode} (other : x ≠ .floorShed) (apart : x ≠ .detStuck) :
        findEntry (s.tempKept code).supervisor.table x 0 = findEntry s.supervisor.table x 0 :=
      watch.others x 0 (not_isFloor_of_code other 0) apart
    rw [State.useResult_temp free]
    refine ⟨fun was now => ?_, fun was now => ?_, fun was now => ?_⟩
    · have now : (decide (500 ≤ code.toNat) || (decide (480 ≤ code.toNat) && s.scanner.tempWarn)) = false :=
        (congrArg Scanner.tempWarn scanner).symm.trans now
      have cool : code.toNat < 480 := by simp [was] at now; omega
      exact (State.judgeTemperature_warn settled' watch.distinct few' cool (by rw [kept]; exact was)).of_found (before (by decide) (by decide)).symm rfl
    · have now : (decide (540 ≤ code.toNat) || (decide (520 ≤ code.toNat) && s.scanner.tempHigh)) = false :=
        (congrArg Scanner.tempHigh scanner).symm.trans now
      have cool : code.toNat < 520 := by simp [was] at now; omega
      exact (State.judgeTemperature_high settled' watch.distinct few' cool (by rw [kept]; exact was)).of_found (before (by decide) (by decide)).symm rfl
    · have now : (decide (580 ≤ code.toNat) || (decide (560 ≤ code.toNat) && s.scanner.tempLimit)) = false :=
        (congrArg Scanner.tempLimit scanner).symm.trans now
      have cool : code.toNat < 560 := by simp [was] at now; omega
      exact (State.judgeTemperature_limit settled' watch.distinct few' cool (by rw [kept]; exact was)).of_found (before (by decide) (by decide)).symm rfl

/-! ### The three raises of a hot amplifier (R56, R85, R86, R128, R129, R135) -/

/-- The entries of a table are those of FLOOR_SHED and of the conditions `held`. -/
def HoldsOnly (held : FaultCode → Prop) (t : FaultTable) : Prop :=
  ∀ code subject, ¬ IsFloor code subject → ¬ held code → findEntry t code subject = none

theorem HoldsOnly.code {held : FaultCode → Prop} {t : FaultTable} (h : HoldsOnly held t) {p : Fin 24} {e : FaultEntry} (there : t[p] = some e) :
    e.code = .floorShed ∨ held e.code := by
  by_cases floor : IsFloor e.code e.subject
  · exact .inl floor.1
  · refine .inr (Classical.byContradiction fun other => ?_)
    exact findEntry_eq_none_iff.mp (h e.code e.subject floor other) p e there ⟨rfl, rfl⟩

theorem HoldsOnly.deratingLevel_le {t : FaultTable} (h : HoldsOnly (fun c => c = .tempWarn ∨ c = .tempHigh) t) : deratingLevel t ≤ 12 := by
  refine deratingLevel_le_iff.mpr fun p code asks => ?_
  obtain ⟨e, there, -, rfl, -⟩ := askAt_eq_some_iff.mp asks
  obtain floor | warn | high := h.code there
  · rw [floor]; decide
  · rw [warn]; decide
  · rw [high]; decide

theorem HoldsOnly.not_down {t : FaultTable} (h : HoldsOnly (fun c => c = .tempWarn ∨ c = .tempHigh) t) : downCondition t = false := by
  refine Bool.eq_false_iff.mpr fun down => ?_
  obtain ⟨p, code, asks, trips⟩ := downCondition_iff.mp down
  obtain ⟨e, there, -, rfl, -⟩ := askAt_eq_some_iff.mp asks
  obtain floor | warn | high := h.code there
  · rw [floor] at trips; cases trips
  · rw [warn] at trips; cases trips
  · rw [high] at trips; cases trips

/-- A raise of a code not held, in a table of few other entries: its entry, with the other entries as they were. -/
theorem State.raise_beside_held {s : State} {held : FaultCode → Prop} (distinct : s.EntriesDistinct) {n : Nat}
    (few : StrangersAtMost n s.supervisor.table) (room : n ≤ 15) (only : HoldsOnly held s.supervisor.table) {code : FaultCode}
    (other : code ≠ .floorShed) (fresh : ¬ held code) (c : Scanner) :
    State.LeavesOthers (fun c x => c = code ∧ x = 0) s ((s.setScanner c).raise code 0) ∧
      StrangersAtMost (n + 1) ((s.setScanner c).raise code 0).supervisor.table ∧
      HoldsOnly (fun c => held c ∨ c = code) ((s.setScanner c).raise code 0).supervisor.table ∧
      ∃ p, findEntry ((s.setScanner c).raise code 0).supervisor.table code 0 = some (p, newEntry code 0 s.stamp) := by
  obtain ⟨leaves, raised⟩ := State.raise_leaves (s := s.setScanner c) distinct (few.mono room) other 0
  have leaves' : State.LeavesOthers (fun c x => c = code ∧ x = 0) s ((s.setScanner c).raise code 0) :=
    ⟨leaves.settled, leaves.distinct, leaves.stamp, leaves.others⟩
  refine ⟨leaves', leaves'.strangers_succ few, fun c' x stranger apart => ?_, raised.1 (only code 0 (not_isFloor_of_code other 0) fresh)⟩
  obtain ⟨notHeld, notCode⟩ := not_or.mp apart
  rw [leaves'.others c' x stranger fun same => notCode same.1]
  exact only c' x stranger notHeld

end Sys2Proof.Machine
end

section
/-! PROOFS. O34 put together: the three raises of a hot amplifier from an empty table. -/

namespace Sys2Proof.Machine

/-! ### The three raises -/

/-- The states after the first two raises and after the third, with the scanners that the judgement sets. -/
def State.raisedWarm (s : State) (c : Scanner) : State := (s.setScanner c).raise .tempWarn 0
def State.raisedHigh (s : State) (c d : Scanner) : State := ((s.raisedWarm c).setScanner d).raise .tempHigh 0

theorem State.raisedWarm_eq (s : State) (c : Scanner) : (s.setScanner c).raise .tempWarn 0 = s.raisedWarm c := rfl
theorem State.raisedHigh_eq (s : State) (c d : Scanner) : ((s.raisedWarm c).setScanner d).raise .tempHigh 0 = s.raisedHigh c d := rfl

/-- What holds once TEMP_WARN and TEMP_HIGH are raised from an empty table. -/
structure State.HotBeforeTrip (s u : State) : Prop where
  settled : u.Settled
  distinct : u.EntriesDistinct
  stamp : u.stamp = s.stamp
  few : StrangersAtMost 2 u.supervisor.table
  only : HoldsOnly (fun c => c = .tempWarn ∨ c = .tempHigh) u.supervisor.table
  warn : ∃ p, findEntry u.supervisor.table .tempWarn 0 = some (p, newEntry .tempWarn 0 s.stamp)
  high : ∃ p, findEntry u.supervisor.table .tempHigh 0 = some (p, newEntry .tempHigh 0 s.stamp)
  ctl : u.ctl = s.ctl
  safe : u.AmplifierSafe
  beff : u.alloc.beff = some (s.cfg.budget - 12)
  down : u.alloc.down = false

theorem strangers_empty : StrangersAtMost 0 (Vector.replicate 24 none) := by
  rw [StrangersAtMost, Nat.le_zero, Finset.card_eq_zero, Finset.eq_empty_iff_forall_notMem]
  intro p mem
  obtain ⟨e, held, -⟩ := mem_strangers.mp mem
  simp at held

theorem findEntry_empty (code : FaultCode) (subject : Nat) : findEntry (Vector.replicate 24 none) code subject = none :=
  findEntry_eq_none_iff.mpr fun p e held => by simp at held

theorem distinct_empty {s : State} (empty : s.supervisor.table = Vector.replicate 24 none) : s.EntriesDistinct := by
  rw [State.EntriesDistinct, empty, distinct_iff]
  intro p q e f held
  simp at held

/-- With no entry that derates, TEMP_WARN's raise sets the effective budget of a node in RUN anew. -/
theorem State.raise_tempWarn_atFloors {s : State} (run : s.inRun = true) (level : s.alloc.derating = 0)
    (absent : findEntry s.supervisor.table .tempWarn 0 = none) (room : RoomFor s.supervisor.table .tempWarn 0) :
    (s.raise .tempWarn 0).AtFloors False := by
  refine State.raise_atFloors run _ _ fun same => ?_
  rw [State.raiseOnly_table, level] at same
  obtain ⟨r, entry⟩ := ((raisedIn_tableRaise s.supervisor.table .tempWarn 0 s.stamp).among room).1 absent
  have derates := derating_le_level (findEntry_eq_some_iff.mp entry).1 rfl
  rw [same] at derates
  exact absurd (show (4 : Nat) ≤ 0 from derates) (by decide)

theorem State.derating_of_empty {s : State} (settled : s.Settled) (empty : s.supervisor.table = Vector.replicate 24 none) : s.alloc.derating = 0 := by
  have none_ : deratingLevel s.supervisor.table ≤ 0 := deratingLevel_le_iff.mpr fun p code asks => by
    obtain ⟨e, held, -⟩ := askAt_eq_some_iff.mp asks
    rw [empty] at held
    simp at held
  rw [settled.follow.derating]; omega

theorem State.raisedHigh_hot {s : State} (run : s.inRun = true) (settled : s.Settled) (safe : s.AmplifierSafe)
    (empty : s.supervisor.table = Vector.replicate 24 none) (c d : Scanner) : s.HotBeforeTrip (s.raisedHigh c d) := by
  have only : HoldsOnly (fun _ => False) s.supervisor.table := fun code subject _ _ => by rw [empty]; exact findEntry_empty code subject
  have distinct : s.EntriesDistinct := distinct_empty empty
  have few : StrangersAtMost 0 s.supervisor.table := by rw [empty]; exact strangers_empty
  have room : AtMost 8 s.supervisor.table := few.atMost distinct
  obtain ⟨first, few1, only1, p, warn⟩ := State.raise_beside_held distinct few (by omega) only (code := .tempWarn) (by decide) id c
  rw [State.raisedWarm_eq] at first few1 only1 warn
  obtain ⟨second, few2, only2, q, high⟩ := State.raise_beside_held (s := s.raisedWarm c) first.distinct few1 (by omega) only1
    (code := .tempHigh) (by decide) (by simp) d
  rw [State.raisedHigh_eq] at second few2 only2 high
  have floors1 : (s.raisedWarm c).AtFloors False := by
    rw [← State.raisedWarm_eq]
    exact State.raise_tempWarn_atFloors (s := s.setScanner c) run (State.derating_of_empty (s := s) settled empty)
      (only _ _ (not_isFloor_of_code (by decide) 0) id) (room.roomFor (by omega) _ _)
  have floors2 : (s.raisedHigh c d).AtFloors False := by
    rw [← State.raisedHigh_eq]
    have start : ((s.raisedWarm c).setScanner d).AtFloors False := ⟨floors1.inRun, floors1.beff, floors1.floors⟩
    exact State.AtFloors.recomputes.settle (start.raiseOnly .tempHigh 0)
  have only2' : HoldsOnly (fun c => c = .tempWarn ∨ c = .tempHigh) (s.raisedHigh c d).supervisor.table := fun code subject stranger apart =>
    only2 code subject stranger (by simpa using apart)
  have derating : (s.raisedHigh c d).alloc.derating = 12 := by
    rw [second.settled.follow.derating]
    exact le_antisymm only2'.deratingLevel_le (derating_le_level (findEntry_eq_some_iff.mp high).1 rfl)
  have ctl : (s.raisedHigh c d).ctl = s.ctl := by
    rw [← State.raisedHigh_eq, State.raise_ctl _ rfl, State.setScanner_ctl, ← State.raisedWarm_eq, State.raise_ctl _ rfl, State.setScanner_ctl]
  have stamp : (s.raisedHigh c d).stamp = s.stamp := second.stamp.trans first.stamp
  have high' : findEntry (s.raisedHigh c d).supervisor.table .tempHigh 0 = some (q, newEntry .tempHigh 0 s.stamp) := by
    rw [← first.stamp]; exact high
  refine ⟨second.settled, second.distinct, stamp, few2, only2', ⟨p, ?_⟩, ⟨q, high'⟩, ctl, ?_, ?_, ?_⟩
  · exact (second.others _ _ (not_isFloor_of_code (by decide) 0) (by simp)).trans warn
  · have warmSafe : (s.raisedWarm c).AmplifierSafe := by
      rw [← State.raisedWarm_eq]
      exact amplifierSafe_carriers.changes.raise (s := s.setScanner c) (safe.of_same rfl rfl) _ _
    rw [← State.raisedHigh_eq]
    exact amplifierSafe_carriers.changes.raise (s := (s.raisedWarm c).setScanner d) (warmSafe.of_same rfl rfl) _ _
  · rw [floors2.beff, derating, State.cfg_of_image (s := s) (congrArg StoreCtl.image ctl)]
  · exact second.settled.follow.down.trans only2'.not_down

/-- TEMP_LIMIT raised on top of the two (R86, R107, R129 to R131, R135). -/
theorem State.HotBeforeTrip.trips {s u : State} (h : s.HotBeforeTrip u) (run : s.inRun = true) (c : Scanner) (t : State)
    (raised : t = (u.setScanner c).raise .tempLimit 0) :
    (∀ code ∈ [FaultCode.tempWarn, .tempHigh, .tempLimit], ∃ p, findEntry t.supervisor.table code 0 = some (p, newEntry code 0 s.stamp)) ∧
      t.supervisor.alarm = true ∧ t.supervisor.snapshot ≠ none ∧ t.alloc.down = true ∧ t.alloc.beff = some (s.cfg.budget - 12) ∧
      anyActive t.alloc.slots = false ∧ t.writer.paEnable = false ∧
      ∃ record, WriteAnswered s.ctl t.ctl record ∧ record.code = .tempLimit ∧ record.subject = 0 ∧ record.cause = s.ctl.cause ∧
        record.stamp = s.stamp ∧ record.beff = some (s.cfg.budget - 12) ∧ record.lastTemp = c.lastTemp := by
  have absent : findEntry u.supervisor.table .tempLimit 0 = none := h.only _ _ (not_isFloor_of_code (by decide) 0) (by simp)
  have room : AtMost 10 u.supervisor.table := h.few.atMost h.distinct
  obtain ⟨q, empty⟩ := room.firstEmpty (by omega)
  have enters : TripEnters (u.setScanner c).supervisor.table .tempLimit 0 (u.setScanner c).stamp q (newEntry .tempLimit 0 (u.setScanner c).stamp) :=
    tripEnters_new absent empty _
  have step := State.raise_trip (s := u.setScanner c) (h.settled.of_same rfl rfl) rfl enters
  rw [← raised] at step
  have table : t.supervisor.table = (tableRaise u.supervisor.table .tempLimit 0 u.stamp).table := by rw [step.supervisor]; rfl
  have others {code : FaultCode} (other : code ≠ .tempLimit) :
      findEntry t.supervisor.table code 0 = findEntry u.supervisor.table code 0 := by
    rw [table]; exact findEntry_tableRaise_of_other _ (room.roomFor (by omega) _ _) fun same => other same.1
  obtain ⟨p1, warn⟩ := h.warn
  obtain ⟨p2, high⟩ := h.high
  have limit : findEntry t.supervisor.table .tempLimit 0 = some (q, newEntry .tempLimit 0 s.stamp) := by
    rw [table, ← h.stamp]; exact (raisedIn_tableRaise _ _ _ _).1 q absent empty
  have inRun : u.inRun = true := by rw [State.inRun, h.ctl]; exact run
  have slots := step.slots inRun h.down
  have idle : anyActive t.alloc.slots = false := anyActive_eq_false_iff.mpr fun i => by rw [slots i]; split <;> rfl
  have safe : t.AmplifierSafe := by
    rw [raised]; exact amplifierSafe_carriers.changes.raise (s := u.setScanner c) (h.safe.of_same rfl rfl) _ _
  have captured := State.raisedSupervisor_captured (s := u.setScanner c) (code := .tempLimit) (subject := 0) rfl (congrArg Raised.entered enters.raised)
  rw [← step.supervisor] at captured
  have answered := StoreCtl.requestWrite_answered u.ctl ((u.setScanner c).crashRecord .tempLimit 0 (u.setScanner c).stamp)
  rw [show u.ctl.requestWrite ((u.setScanner c).crashRecord .tempLimit 0 (u.setScanner c).stamp) = t.ctl from step.ctl.symm, h.ctl] at answered
  refine ⟨fun code mem => ?_, ?_, ?_, step.down, step.beff.trans h.beff, idle, safe.off (safe.known.trans idle), _, answered, rfl, rfl,
    congrArg StoreCtl.cause h.ctl, h.stamp, h.beff, rfl⟩
  · simp only [List.mem_cons, List.not_mem_nil, or_false] at mem
    obtain rfl | rfl | rfl := mem
    · exact ⟨p1, (others (by decide)).trans warn⟩
    · exact ⟨p2, (others (by decide)).trans high⟩
    · exact ⟨q, limit⟩
  · rw [step.settled.follow.alarm, alarmLevel_iff]
    exact ⟨q, _, (findEntry_eq_some_iff.mp limit).1, rfl, .inr rfl⟩
  · cases held : u.supervisor.snapshot with
    | none =>
      obtain ⟨-, p, taken, -⟩ := captured.1 held
      rw [taken]; simp
    | some p =>
      rw [(captured.2 p held).1]; simp

/-! ### O34 -/

theorem State.clears_of_hot {s : State} {code : Nat} (hot : 580 ≤ code) : ((s.clearLimit code).clearHigh code).clearWarm code = s := by
  have limit : s.clearLimit code = s := if_neg fun h => by omega
  have high : s.clearHigh code = s := if_neg fun h => by omega
  have warm : s.clearWarm code = s := if_neg fun h => by omega
  rw [limit, high, warm]

/-- The scanner with one of the three conditions marked. -/
def Scanner.markWarm (c : Scanner) : Scanner := { c with tempWarn := true }
def Scanner.markHigh (c : Scanner) : Scanner := { c with tempHigh := true }
def Scanner.markLimit (c : Scanner) : Scanner := { c with tempLimit := true }

/-- At 580 with no mark standing all three conditions are raised. -/
theorem State.judgeTemperature_of_hot {s : State} {code : Nat} (hot : 580 ≤ code) (warm : s.scanner.tempWarn = false)
    (high : s.scanner.tempHigh = false) (limit : s.scanner.tempLimit = false) : ∃ c d e : Scanner, e.lastTemp = s.scanner.lastTemp ∧
      s.judgeTemperature code = ((s.raisedHigh c d).setScanner e).raise .tempLimit 0 := by
  have first : s.raiseWarm code = s.raisedWarm s.scanner.markWarm := if_pos ⟨by omega, by rw [warm]; rfl⟩
  have scanner1 : (s.raisedWarm s.scanner.markWarm).scanner = s.scanner.markWarm :=
    (State.raise_beside (s.setScanner s.scanner.markWarm) .tempWarn 0).scanner
  have second : (s.raisedWarm s.scanner.markWarm).raiseHigh code =
      s.raisedHigh s.scanner.markWarm s.scanner.markWarm.markHigh := by
    unfold State.raiseHigh
    rw [scanner1]
    exact if_pos ⟨by omega, congrArg (fun mark => !mark) high⟩
  have scanner2 : (s.raisedHigh s.scanner.markWarm s.scanner.markWarm.markHigh).scanner =
      s.scanner.markWarm.markHigh := 
    (State.raise_beside ((s.raisedWarm s.scanner.markWarm).setScanner s.scanner.markWarm.markHigh) .tempHigh 0).scanner
  refine ⟨s.scanner.markWarm, s.scanner.markWarm.markHigh, s.scanner.markWarm.markHigh.markLimit, rfl, ?_⟩
  rw [State.judgeTemperature_eq, State.heated, State.clears_of_hot hot, first, second]
  unfold State.raiseLimit
  rw [scanner2]
  exact if_pos ⟨hot, congrArg (fun mark => !mark) limit⟩

/-- Settles O34: the three raises from an empty table, and the judgement of any TEMP result. -/
theorem overheatedAmplifierTrips : Obligations.OverheatedAmplifierTrips := by
  refine ⟨fun s code i flight entry node hot high free settled safe empty warmMark highMark limitMark => ?_, fun s code i flight entry => ?_⟩
  · have notRail : ¬ (code = 0#10 ∨ code = 1023#10) := by
      rintro (rfl | rfl)
      · exact absurd hot (by decide)
      · exact high rfl
    have notStuck : (s.scanner.watched channelTemp code).stuck[channelTemp].standing = false := by
      refine Bool.eq_false_iff.mpr fun stands => ?_
      rw [Scanner.watched_stuck, StuckWatch.judged_standing_iff, free] at stands
      simp [notRail] at stands
    obtain ⟨raises, clears⟩ := StuckWatch.rests (w := s.scanner.stuck[channelTemp]) (code := code) (fun rail => absurd rail notRail)
      fun _ _ => .inr free
    have kept : s.tempKept code =
        s.setScanner { s.scanner.watched channelTemp code with lastTemp := some ((code.toNat : Int) - 160) } := by
      rw [State.tempKept, State.watchStuck_rests raises clears]; rfl
    have use := State.useResult_temp notStuck
    have run : s.inRun = true := by simp [State.inRun, node]
    have stamp : s.stamp = s.ctl.epoch := by rw [State.stamp_eq, if_pos node]
    obtain ⟨c, d, e, lastTemp, judged⟩ := State.judgeTemperature_of_hot (s := s.tempKept code) hot (kept ▸ warmMark) (kept ▸ highMark) (kept ▸ limitMark)
    rw [judged, kept] at use
    have before := State.raisedHigh_hot (s := s.setScanner { s.scanner.watched channelTemp code with
      lastTemp := some ((code.toNat : Int) - 160) }) run (settled.of_same rfl rfl) (safe.of_same rfl rfl) empty c d
    obtain ⟨entries, alarm, snapshot, down, beff, idle, off, record, answered, kind, subject, cause, recordStamp, recordBeff, recordTemp⟩ :=
      before.trips run e _ rfl
    have scanner := Scanner.resulted_temp_of_free (c := s.scanner) (image := s.cfg) notStuck
    rw [kept] at lastTemp
    rw [← use] at entries alarm snapshot down beff idle off answered
    refine ⟨_, congrArg Host.Outcome.next (State.conversionEnds_eq code flight entry), (congrArg Scanner.lastTemp scanner :),
      (congrArg Scanner.tempWarn scanner).trans ?_, (congrArg Scanner.tempHigh scanner).trans ?_, (congrArg Scanner.tempLimit scanner).trans ?_,
      ?_, alarm, snapshot, down, beff, idle, off, record, answered, kind, subject, cause, recordStamp.trans stamp, recordBeff, recordTemp.trans lastTemp⟩
    · simp [Scanner.heated, show 500 ≤ code.toNat by omega]
    · simp [Scanner.heated, show 540 ≤ code.toNat by omega]
    · simp [Scanner.heated, hot]
    · rw [← stamp]; exact entries
  · refine temperatureIsJudged s code i flight entry ?_
    rw [Scanner.watched_stuck, StuckWatch.judged_standing_iff]

end Sys2Proof.Machine
end

section
/-! PROOFS. The LOST count handed to the spreading controller, and O39: the silence limits. -/

namespace Sys2Proof.Machine

/-! ### The count handed (R36, R71, R73) -/

theorem View.one_le_countAdjacent {v : View} {p : Fin 16} {state : Presence} (adjacent : p.val < 8)
    (there : v.table[p].map Neighbour.state = some state) : 1 ≤ v.countAdjacent state := by
  rw [View.countAdjacent_eq]
  exact List.countP_pos_iff.mpr ⟨p, mem_take_finRange.mpr adjacent, by simpa using there⟩

theorem lowerTo_of_within {limit : Int} {o : OperatorRecord} (within : o.offset ≤ limit) : lowerTo limit o = o := by
  rw [lowerTo, min_eq_left within]

/-- The state once the count and the limit are taken, the set of offsets still to be handed where one is lowered. -/
def State.countTaken (s : State) : State :=
  let count := s.view.countAdjacent .lost
  s.setSpread ⟨s.spread.records.map fun r => { r with
    smaxEff := smaxEffOf s.cfg r.current count, operators := r.operators.map (lowerTo (smaxEffOf s.cfg r.current count)) }, count⟩

/-- An offset stands above the limit that the count gives. -/
def State.Lowers (s : State) : Prop :=
  ∃ r, s.spread.records = some r ∧ ∃ o ∈ r.operators, smaxEffOf s.cfg r.current (s.view.countAdjacent .lost) < o.offset

theorem State.handLostCount_of_not_lowers {s : State} (within : ¬ s.Lowers) : s.handLostCount = s.countTaken := by
  unfold State.handLostCount State.countTaken
  cases held : s.spread.records with
  | none => simp [State.setSpread, held]
  | some r =>
    dsimp only
    rw [if_neg]
    · rfl
    · rw [List.any_eq_true]
      rintro ⟨o, mem, above⟩
      exact within ⟨r, held, o, mem, by simpa using above⟩

theorem State.handLostCount_of_lowers {s : State} {r : SpreadRun} (held : s.spread.records = some r) (lowers : s.Lowers) :
    s.handLostCount = s.countTaken.handOffsets (r.operators.map fun o =>
      (o.operator, min o.offset (smaxEffOf s.cfg r.current (s.view.countAdjacent .lost)))) := by
  obtain ⟨r', held', o, mem, above⟩ := lowers
  cases held.symm.trans held'
  have set : offsetSet { r with
      smaxEff := smaxEffOf s.cfg r.current (s.view.countAdjacent .lost)
      operators := r.operators.map (lowerTo (smaxEffOf s.cfg r.current (s.view.countAdjacent .lost))) } =
      r.operators.map fun o => (o.operator, min o.offset (smaxEffOf s.cfg r.current (s.view.countAdjacent .lost))) := by
    simp [offsetSet, lowerTo]
  unfold State.handLostCount State.countTaken
  rw [held]
  dsimp only
  rw [if_pos (List.any_eq_true.mpr ⟨o, mem, by simpa using above⟩), set]
  rfl

/-- With every offset within the limit the records change in the limit alone. -/
theorem State.countTaken_of_within {s : State} {r : SpreadRun} (held : s.spread.records = some r)
    (within : ∀ o ∈ r.operators, o.offset ≤ smaxEffOf s.cfg r.current (s.view.countAdjacent .lost)) :
    s.countTaken.spread.records = some { r with smaxEff := smaxEffOf s.cfg r.current (s.view.countAdjacent .lost) } := by
  have same : r.operators.map (lowerTo (smaxEffOf s.cfg r.current (s.view.countAdjacent .lost))) = r.operators := by
    conv_rhs => rw [← List.map_id r.operators]
    exact List.map_congr_left fun o mem => lowerTo_of_within (within o mem)
  simp [State.countTaken, held, same]

theorem State.not_lowers_of_within {s : State} (within : ∀ r, s.spread.records = some r → ∀ o ∈ r.operators,
    o.offset ≤ smaxEffOf s.cfg r.current (s.view.countAdjacent .lost)) : ¬ s.Lowers := by
  rintro ⟨r, held, o, mem, above⟩
  have := within r held o mem
  omega

/-- The state once a set of offsets is taken, its recompute still to come. -/
def State.offsetsTaken (s : State) (set : List (Nat × Int)) : State :=
  s.setAlloc { s.alloc with offsets := replaceOffsets s.alloc.offsets set, recomputeDue := s.inRun }

theorem State.handOffsets_eq (s : State) (set : List (Nat × Int)) : s.handOffsets set = (s.offsetsTaken set).settle := rfl

/-- The count handed, and what the hand-over leaves alone. -/
theorem State.handLostCount_keeps (s : State) : s.handLostCount.view = s.view ∧ s.handLostCount.port = s.port ∧
    s.handLostCount.scanner = s.scanner ∧ s.handLostCount.store = s.store ∧ s.handLostCount.handler = s.handler ∧
    s.handLostCount.ctl = s.ctl ∧ s.handLostCount.spread.lostCount = s.view.countAdjacent .lost := by
  by_cases lowers : s.Lowers
  · obtain ⟨r, held, -⟩ := id lowers
    have beside := State.settle_beside (s.countTaken.offsetsTaken
      (r.operators.map fun o => (o.operator, min o.offset (smaxEffOf s.cfg r.current (s.view.countAdjacent .lost)))))
    rw [State.handLostCount_of_lowers held lowers]
    refine ⟨beside.view, beside.port, beside.scanner, beside.store, beside.handler, ?_, beside.lostCount⟩
    rw [State.handOffsets_ctl]; rfl
  · rw [State.handLostCount_of_not_lowers lowers]
    exact ⟨rfl, rfl, rfl, rfl, rfl, rfl, rfl⟩

/-! ### The raise of a loss (R32) -/

theorem FaultCode.peerLost_not_asks : ¬ FaultCode.peerLost.Asks := by unfold FaultCode.Asks; decide
theorem FaultCode.supvLost_not_asks : ¬ FaultCode.supvLost.Asks := by unfold FaultCode.Asks; decide

/-- The code of a pinned position's loss. -/
def lossOf (p : Fin 16) : FaultCode := if p.val < 8 then .peerLost else .supvLost

theorem lossOf_not_asks (p : Fin 16) : ¬ (lossOf p).Asks := by
  unfold lossOf
  split
  exacts [FaultCode.peerLost_not_asks, FaultCode.supvLost_not_asks]

theorem lossCode_of_pinned {p : Fin 16} (pinned : p.val < 10) : lossCode p = some (lossOf p) := by
  unfold lossCode pinnedKind lossOf
  split <;> split <;> simp_all

theorem lossCode_of_unpinned {p : Fin 16} (unpinned : 10 ≤ p.val) : lossCode p = none := by
  rw [lossCode, pinnedKind, if_neg (by omega), if_neg (by omega)]

theorem State.raiseLoss_of_pinned (s : State) {p : Fin 16} (pinned : p.val < 10) (id : Nat) : s.raiseLoss p id = s.raise (lossOf p) id := by
  rw [State.raiseLoss, lossCode_of_pinned pinned]

theorem State.clearLoss_of_pinned (s : State) {p : Fin 16} (pinned : p.val < 10) (id : Nat) : s.clearLoss p id = s.clear (lossOf p) id := by
  rw [State.clearLoss, lossCode_of_pinned pinned]

theorem pinnedKind_eq_adjacent_iff (p : Fin 16) : pinnedKind p = .adjacent ↔ p.val < 8 := by
  unfold pinnedKind
  split
  · simp_all
  · split <;> simp_all

/-! ### A silence limit (R28, R29) -/

/-- The state at the lost limit of an entry, its new entry set and the rest still to come. -/
def State.silenced (s : State) (p : Fin 16) (h : Heard) (entry : Option Neighbour) : State :=
  (s.advanceTo h.lastHeard (8 * h.period + 1)).setEntry p entry

theorem State.lostLimit_eq {s : State} {p : Fin 16} {n : Neighbour} {h : Heard} (held : s.view.table[p] = some n)
    (heard : n.heard = some h) (suspect : n.state = .suspect) :
    (p.val < 8 → s.lostLimit p = ((s.silenced p h (some { n with state := .lost })).raise .peerLost n.id).handLostCount) ∧
      (8 ≤ p.val → p.val < 10 → s.lostLimit p = (s.silenced p h (some { n with state := .lost })).raise .supvLost n.id) ∧
      (10 ≤ p.val → s.lostLimit p = s.silenced p h none) := by
  unfold State.lostLimit State.silenced
  rw [held]
  dsimp only
  rw [suspect, heard]
  dsimp only
  refine ⟨fun adjacent => ?_, fun pinned below => ?_, fun unpinned => ?_⟩
  · have kind : pinnedKind p = .adjacent := (pinnedKind_eq_adjacent_iff p).mpr adjacent
    rw [kind]
    dsimp only
    rw [State.raiseLoss_of_pinned _ (by omega), lossOf, if_pos adjacent]
  · have kind : pinnedKind p = .supervisor := by rw [pinnedKind, if_neg (by omega), if_pos below]
    rw [kind]
    dsimp only
    rw [State.raiseLoss_of_pinned _ below, lossOf, if_neg (by omega)]
  · have kind : pinnedKind p = .unpinned := by rw [pinnedKind, if_neg (by omega), if_neg (by omega)]
    rw [kind]

/-- A new entry raised in an empty position, which asks nothing of the carriers. -/
theorem State.raise_in_empty {s : State} (settled : s.Settled) {code : FaultCode} (quiet : ¬ code.Asks) (subject : Nat) {q : Fin 24}
    (empty : firstEmpty s.supervisor.table = some q) :
    s.TableStep (s.raise code subject) ∧ (s.raise code subject).Settled ∧
      RaisedIn s.supervisor.table (s.raise code subject).supervisor.table code subject s.stamp ∧
      (findEntry s.supervisor.table code subject = none → (s.raise code subject).supervisor.table =
        s.supervisor.table.set q (some ⟨code, subject, .activeUnacked, s.stamp, s.stamp, 1, 3⟩)) := by
  have change := State.raise_of_room settled quiet subject (.of_empty empty code subject)
  have table : (s.raise code subject).supervisor.table = (tableRaise s.supervisor.table code subject s.stamp).table := by
    rw [change.supervisor]; rfl
  refine ⟨change.step, change.settled, table ▸ raisedIn_tableRaise _ _ _ _, fun absent => ?_⟩
  rw [table]
  simp only [tableRaise, absent, empty]
  rfl

/-- The limit that a lost adjacent entry gives (R71). -/
theorem smaxEffOf_of_lost {image : Image} {mode : SpreadMode} {count : Nat} (lost : 1 ≤ count) :
    smaxEffOf image mode count = if mode = .off then (image.smax : Int) else (image.smax : Int) + image.fill := by
  unfold smaxEffOf
  by_cases off : mode = .off <;> simp [off, lost]

/-- Settles O39: the limit sets the entry; a pinned one that is lost is raised, and the count of an adjacent one is handed. -/
theorem silenceLimitsJudgeAnEntry : Obligations.SilenceLimitsJudgeAnEntry := by
  intro s p n h held heard short
  refine ⟨fun live => ?_, fun suspect => ?_⟩
  · have ends : s.suspectLimit p =
        (s.advanceTo h.lastHeard (3 * h.period + 1)).setEntry p (some { n with state := .suspect }) := by
      unfold State.suspectLimit
      rw [held]
      dsimp only
      rw [live, heard]
    exact ⟨_, congrArg Host.Outcome.next ends, s.le_elapsed_advanceTo h.lastHeard (ms := 3 * h.period + 1) (by omega), rfl⟩
  · obtain ⟨adjacent, supervisor, unpinned⟩ := State.lostLimit_eq held heard suspect
    have elapsed := s.le_elapsed_advanceTo h.lastHeard (ms := 8 * h.period + 1) (by omega)
    have clock (u : State) (same : u.ctl = (s.silenced p h none).ctl) : 8 * h.period < u.elapsed h.lastHeard := by
      rw [State.elapsed, same]; exact elapsed
    by_cases low : p.val < 8
    · have raised := State.raise_beside (s.silenced p h (some { n with state := .lost })) .peerLost n.id
      obtain ⟨view, port, scanner, store, handler, ctl, count⟩ :=
        ((s.silenced p h (some { n with state := .lost })).raise .peerLost n.id).handLostCount_keeps
      have table : (s.silenced p h (some { n with state := .lost })).view =
          { s.view with table := s.view.table.set p (some { n with state := .lost }) } := rfl
      refine ⟨_, congrArg Host.Outcome.next (adjacent low), clock _ (ctl.trans (State.raise_ctl _ rfl _)), ?_, fun _ => ?_, fun _ => by omega,
        fun _ => by omega, port.trans raised.port, scanner.trans raised.scanner, store.trans raised.store, handler.trans raised.handler,
        fun q pinned settled empty within => ?_⟩
      · rw [if_pos (by omega), view, raised.view, table]
      · rw [count, view]
      · obtain ⟨step, -, raisedIn, new⟩ := State.raise_in_empty (s := s.silenced p h (some { n with state := .lost })) (settled.of_same rfl rfl)
          FaultCode.peerLost_not_asks n.id empty
        have lost : 1 ≤ ((s.silenced p h (some { n with state := .lost })).raise .peerLost n.id).view.countAdjacent .lost := by
          rw [raised.view, table]
          refine View.one_le_countAdjacent low (p := p) ?_
          show ((s.view.table.set p (some { n with state := .lost }))[p]).map Neighbour.state = some .lost
          rw [Vector.getElem_set_fin, if_pos rfl]; rfl
        have records : ((s.silenced p h (some { n with state := .lost })).raise .peerLost n.id).spread = s.spread := step.spread
        have cfg : ((s.silenced p h (some { n with state := .lost })).raise .peerLost n.id).cfg = s.cfg := raised.cfg
        have inLimit : ∀ r, s.spread.records = some r → ∀ o ∈ r.operators, o.offset ≤ smaxEffOf s.cfg r.current
            (((s.silenced p h (some { n with state := .lost })).raise .peerLost n.id).view.countAdjacent .lost) :=
          fun r there o mem => by rw [smaxEffOf_of_lost lost]; exact within low r there o mem
        have stays : ¬ ((s.silenced p h (some { n with state := .lost })).raise .peerLost n.id).Lowers := by
          refine State.not_lowers_of_within ?_
          rw [records, cfg]
          exact inLimit
        rw [State.handLostCount_of_not_lowers stays, if_pos low]
        refine ⟨raisedIn, new, step.alloc, step.writer, fun _ => by omega, fun _ r there => ?_⟩
        have taken := State.countTaken_of_within (s := (s.silenced p h (some { n with state := .lost })).raise .peerLost n.id)
          (r := r) (by rw [records]; exact there) (by rw [cfg]; exact inLimit r there)
        rw [cfg, smaxEffOf_of_lost lost] at taken
        exact taken
    · by_cases pinned : p.val < 10
      · have raised := State.raise_beside (s.silenced p h (some { n with state := .lost })) .supvLost n.id
        refine ⟨_, congrArg Host.Outcome.next (supervisor (by omega) pinned), clock _ (State.raise_ctl _ rfl _), ?_, fun _ => by omega, fun _ => raised.lostCount,
          fun _ => by omega, raised.port, raised.scanner, raised.store, raised.handler, fun q _ settled empty _ => ?_⟩
        · rw [if_pos pinned, raised.view]; rfl
        · obtain ⟨step, -, raisedIn, new⟩ := State.raise_in_empty (s := s.silenced p h (some { n with state := .lost })) (settled.of_same rfl rfl)
            FaultCode.supvLost_not_asks n.id empty
          rw [if_neg low]
          exact ⟨raisedIn, new, step.alloc, step.writer, fun _ => step.spread, fun _ => by omega⟩
      · refine ⟨_, congrArg Host.Outcome.next (unpinned (by omega)), clock _ rfl, ?_, fun _ => by omega, fun _ => rfl, fun _ => ⟨rfl, rfl, rfl⟩,
          rfl, rfl, rfl, rfl, fun q _ => by omega⟩
        rw [if_neg pinned]; rfl

end Sys2Proof.Machine
end

section
/-! PROOFS. O40: the entries given up at the start-up limit. -/

namespace Sys2Proof.Machine

/-- A raise again of an entry that was raised changes nothing of it. -/
theorem RaisedAmong.again {t u v : FaultTable} {code : FaultCode} {subject : Nat} {stamp : EpochCount}
    (h : RaisedAmong t u code subject stamp) (k : RaisedAmong u v code subject stamp) : RaisedAmong t v code subject stamp := by
  have same : findEntry v code subject = findEntry u code subject := by
    obtain ⟨p, e, found, active⟩ : ∃ p e, findEntry u code subject = some (p, e) ∧ e.state ≠ .clearedUnacked := by
      cases before : findEntry t code subject with
      | none =>
        obtain ⟨q, entry⟩ := h.1 before
        exact ⟨q, _, entry, nofun⟩
      | some x =>
        refine ⟨x.1, _, h.2 x.1 x.2 before, ?_⟩
        split
        · exact nofun
        · assumption
    rw [k.2 p e found, if_neg active, found]
  exact h.of_found rfl same

/-! ### The raises of a start-up limit (R30, R32) -/

/-- The entry at a pinned position is given up, and its loss is the condition. -/
def LostAt (before : Vector (Option Neighbour) 16) (p : Fin 16) (code : FaultCode) (id : Nat) : Prop :=
  ∃ n, before[p] = some n ∧ n.state = .absent ∧ n.id = id ∧ p.val < 10 ∧ code = lossOf p

/-- The raises for the entries given up at the positions listed. -/
structure State.LossesRaised (s t : State) (before : Vector (Option Neighbour) 16) (positions : List (Fin 16)) : Prop where
  step : s.TableStep t
  settled : t.Settled
  raised : ∀ p ∈ positions, ∀ code id, LostAt before p code id → RaisedAmong s.supervisor.table t.supervisor.table code id s.stamp
  others : ∀ code id, (∀ p ∈ positions, ¬ LostAt before p code id) →
    findEntry t.supervisor.table code id = findEntry s.supervisor.table code id

theorem State.LossesRaised.skip {s t : State} {before : Vector (Option Neighbour) 16} {p : Fin 16} {rest : List (Fin 16)}
    (none_ : ∀ code id, ¬ LostAt before p code id) (h : s.LossesRaised t before rest) : s.LossesRaised t before (p :: rest) where
  step := h.step
  settled := h.settled
  raised q mem code id lost := by
    obtain rfl | mem := List.mem_cons.mp mem
    · exact absurd lost (none_ code id)
    · exact h.raised q mem code id lost
  others code id apart := h.others code id fun q mem => apart q (List.mem_cons_of_mem _ mem)

theorem State.raiseLosses_raised {s : State} (settled : s.Settled) (before : Vector (Option Neighbour) 16) {n : Nat}
    (few : AtMost n s.supervisor.table) {positions : List (Fin 16)} (room : n + positions.countP (fun p => decide (p.val < 10)) ≤ 24) :
    s.LossesRaised (s.raiseLosses before positions) before positions := by
  induction positions generalizing s n with
  | nil => exact ⟨.refl s, settled, by simp, fun _ _ _ => rfl⟩
  | cons p rest ih =>
    rw [List.countP_cons] at room
    unfold State.raiseLosses
    cases held : before[p] with
    | none => exact .skip (by rintro code id ⟨m, there, -⟩; cases held.symm.trans there) (ih settled few (by omega))
    | some m =>
      dsimp only
      by_cases gone : m.state = .absent ∧ p.val < 10
      · obtain ⟨absent, pinned⟩ := gone
        rw [if_pos (decide_eq_true pinned)] at room
        rw [if_pos absent, State.raiseLoss_of_pinned s pinned]
        have here := few.roomFor (by omega) (lossOf p) m.id
        have change := State.raise_of_room settled (lossOf_not_asks p) m.id here
        have table : (s.raise (lossOf p) m.id).supervisor.table = (tableRaise s.supervisor.table (lossOf p) m.id s.stamp).table := by
          rw [change.supervisor]; rfl
        have first : RaisedAmong s.supervisor.table (s.raise (lossOf p) m.id).supervisor.table (lossOf p) m.id s.stamp := by
          rw [table]; exact (raisedIn_tableRaise _ _ _ _).among here
        have same : ∀ code id, ¬ (code = lossOf p ∧ id = m.id) →
            findEntry (s.raise (lossOf p) m.id).supervisor.table code id = findEntry s.supervisor.table code id := fun code id apart => by
          rw [table]; exact findEntry_tableRaise_of_other _ here apart
        have few' : AtMost (n + 1) (s.raise (lossOf p) m.id).supervisor.table := by rw [table]; exact few.tableRaise _ _ _
        have later := ih change.settled few' (by omega)
        have stamp : (s.raise (lossOf p) m.id).stamp = s.stamp := change.step.stamp
        have lostHere : LostAt before p (lossOf p) m.id := ⟨m, held, absent, rfl, pinned, rfl⟩
        refine ⟨change.step.trans later.step, later.settled, fun q mem code id lost => ?_, fun code id apart => ?_⟩
        · have here : ∀ code id, LostAt before p code id → code = lossOf p ∧ id = m.id := by
            rintro code id ⟨m', there, -, rfl, -, rfl⟩
            cases held.symm.trans there
            exact ⟨rfl, rfl⟩
          by_cases key : code = lossOf p ∧ id = m.id
          · obtain ⟨rfl, rfl⟩ := key
            by_cases again : ∃ q ∈ rest, LostAt before q (lossOf p) m.id
            · obtain ⟨q', mem', lost'⟩ := again
              exact first.again (stamp ▸ later.raised q' mem' _ _ lost')
            · exact first.of_found rfl (later.others _ _ fun q' mem' lost' => again ⟨q', mem', lost'⟩)
          · obtain rfl | mem := List.mem_cons.mp mem
            · exact absurd (here code id lost) key
            · exact (stamp ▸ later.raised q mem code id lost).of_found (same code id key).symm rfl
        · refine (later.others code id fun q mem => apart q (List.mem_cons_of_mem _ mem)).trans (same code id ?_)
          rintro ⟨rfl, rfl⟩
          exact apart p (List.mem_cons_self ..) lostHere
      · have skipped : (if m.state = .absent then (s.raiseLoss p m.id).raiseLosses before rest else s.raiseLosses before rest) =
            s.raiseLosses before rest := by
          split
          next absent =>
            have unpinned : 10 ≤ p.val := by
              by_contra pinned
              exact gone ⟨absent, by omega⟩
            rw [State.raiseLoss, lossCode_of_unpinned unpinned]
          next => rfl
        rw [skipped]
        refine .skip ?_ (ih settled few (by split at room <;> omega))
        rintro code id ⟨m', there, absent, -, pinned, -⟩
        cases held.symm.trans there
        exact gone ⟨absent, pinned⟩

theorem State.raiseLosses_beside (s : State) (before : Vector (Option Neighbour) 16) (positions : List (Fin 16)) :
    s.Beside (s.raiseLosses before positions) := by
  induction positions generalizing s with
  | nil => exact .refl s
  | cons p rest ih =>
    have raised (id : Nat) : s.Beside (s.raiseLoss p id) := by
      unfold State.raiseLoss
      split
      exacts [State.raise_beside _ _ _, .refl s]
    unfold State.raiseLosses
    split
    · split
      · exact (raised _).trans (ih _)
      · exact ih s
    · exact ih s

/-! ### The start-up limit (R30) -/

/-- The state at the start-up limit with the entries given up, their losses still to be raised. -/
def State.givenUp (s : State) (moment : Ms) : State :=
  let u := s.advanceTo moment (8 * s.cfg.period + 1)
  u.setView { u.view with table := tab 16 fun i => (s.view.table[i]).map giveUp }

/-- The state once their losses are raised, the count still to be handed. -/
def State.lossesRaised (s : State) (moment : Ms) : State := (s.givenUp moment).raiseLosses s.view.table (List.finRange 16)

theorem State.startUpLimit_eq {s : State} {moment : Ms} (listen : s.view.listenEntry = some moment) :
    s.startUpLimit = (s.lossesRaised moment).handLostCount := by
  rw [State.startUpLimit, listen]; rfl

theorem lostAt_iff (before : Vector (Option Neighbour) 16) (code : FaultCode) (id : Nat) : (∃ p, LostAt before p code id) ↔
    ∃ (p : Fin 16) (n : Neighbour), before[p] = some n ∧ n.state = .absent ∧ n.id = id ∧
      ((p.val < 8 ∧ code = .peerLost) ∨ (8 ≤ p.val ∧ p.val < 10 ∧ code = .supvLost)) := by
  refine exists_congr fun p => exists_congr fun n => and_congr_right fun _ => and_congr_right fun _ => and_congr_right fun _ => ?_
  unfold lossOf
  split
  next low => exact ⟨fun h => .inl ⟨low, h.2⟩, fun h => ⟨by omega, (h.resolve_right fun k => by omega).2⟩⟩
  next high => exact ⟨fun h => .inr ⟨by omega, h⟩, fun h => (h.resolve_left fun k => high k.1).2⟩

/-- Settles O40: the entries are given up, their losses raised one by one, and the count handed once. -/
theorem startUpLimitGivesUpAbsentEntries : Obligations.StartUpLimitGivesUpAbsentEntries := by
  intro s moment listen short
  have raised := (s.givenUp moment).raiseLosses_beside s.view.table (List.finRange 16)
  have elapsed := s.le_elapsed_advanceTo moment (ms := 8 * s.cfg.period + 1) (by omega)
  obtain ⟨view, port, scanner, store, handler, ctl, count⟩ := (s.lossesRaised moment).handLostCount_keeps
  have table : (s.lossesRaised moment).handLostCount.view =
      { s.view with table := tab 16 fun i => (s.view.table[i]).map giveUp } := view.trans raised.view
  refine ⟨_, congrArg Host.Outcome.next (State.startUpLimit_eq listen), ?_, fun p => ?_, by rw [table], by rw [count, view], port.trans raised.port,
    scanner.trans raised.scanner, store.trans raised.store, handler.trans raised.handler, fun settled few within => ?_⟩
  · have clock : (s.lossesRaised moment).handLostCount.elapsed moment = (s.advanceTo moment (8 * s.cfg.period + 1)).elapsed moment := by
      rw [State.elapsed, ctl, show (s.lossesRaised moment).ctl.clock = (s.givenUp moment).ctl.clock from raised.clock]
      rfl
    rw [clock]; exact elapsed
  · rw [table]; exact tab_getElem ..
  · have losses : (s.givenUp moment).LossesRaised (s.lossesRaised moment) s.view.table (List.finRange 16) :=
      State.raiseLosses_raised (s := s.givenUp moment) (positions := List.finRange 16) (settled.of_same rfl rfl) s.view.table few (by decide)
    have records : (s.lossesRaised moment).spread = s.spread := losses.step.spread
    have cfg : (s.lossesRaised moment).cfg = s.cfg := raised.cfg
    rw [count] at within ⊢
    have stays : ¬ (s.lossesRaised moment).Lowers := State.not_lowers_of_within (by rw [records, cfg]; exact within)
    rw [State.handLostCount_of_not_lowers stays]
    refine ⟨losses.step.alloc, losses.step.writer, fun r held => ?_, fun code id => ⟨fun given => ?_, fun kept => ?_⟩⟩
    · have taken := State.countTaken_of_within (s := s.lossesRaised moment) (r := r) (by rw [records]; exact held)
        (by rw [cfg]; exact within r held)
      rw [cfg] at taken
      exact taken
    · obtain ⟨p, lost⟩ := (lostAt_iff _ _ _).mpr given
      exact losses.raised p (List.mem_finRange p) code id lost
    · exact losses.others code id fun p _ lost => kept ((lostAt_iff _ _ _).mp ⟨p, lost⟩)

end Sys2Proof.Machine
end

section
/-! PROOFS. O15: the beacon of another station, stored in its entry or in a new one. -/

namespace Sys2Proof.Machine

/-! ### The position of a station new to the table (R26, R27) -/

/-- Of positions in ascending order it is the lowest of those of greatest silence. -/
theorem State.mostSilent_greatest (s : State) {best : Fin 16} {positions : List (Fin 16)} (ascending : (best :: positions).Pairwise (· < ·))
    {q : Fin 16} (mem : q ∈ best :: positions) (other : q ≠ s.mostSilent best positions) :
    s.silenceAt q < s.silenceAt (s.mostSilent best positions) ∨
      (s.silenceAt q = s.silenceAt (s.mostSilent best positions) ∧ s.mostSilent best positions < q) := by
  induction positions generalizing best q with
  | nil => simp_all [State.mostSilent]
  | cons p rest ih =>
    obtain ⟨bestLow, ascending'⟩ := List.pairwise_cons.mp ascending
    have skip : (best :: rest).Pairwise (· < ·) :=
      List.pairwise_cons.mpr ⟨fun q mem => bestLow q (List.mem_cons_of_mem p mem), (List.pairwise_cons.mp ascending').2⟩
    have low : best < p := bestLow p (List.mem_cons_self ..)
    unfold State.mostSilent at other ⊢
    split at other
    next greater =>
      rw [if_pos greater]
      obtain rfl | mem := List.mem_cons.mp mem
      · have atLeast : s.silenceAt p ≤ s.silenceAt (s.mostSilent p rest) := by
          by_cases same : p = s.mostSilent p rest
          · rw [← same]
          · have := ih ascending' (List.mem_cons_self ..) same
            omega
        exact .inl (by omega)
      · exact ih ascending' mem other
    next notGreater =>
      rw [if_neg notGreater]
      by_cases same : q = p
      · subst same
        by_cases first : best = s.mostSilent best rest
        · rw [← first]; omega
        · have := ih skip (List.mem_cons_self ..) first
          omega
      · exact ih skip (by simp_all) other

theorem mem_unpinnedPositions (p : Fin 16) : p ∈ unpinnedPositions ↔ 10 ≤ p.val := by
  revert p; decide

theorem unpinnedPositions_eq : unpinnedPositions = (List.finRange 16).filter fun p => decide (10 ≤ p.val) := by decide

/-- The lowest empty unpinned position, or in a full table the lowest of greatest silence. -/
theorem State.newPosition_eq {s : State} {p : Fin 16} (unpinned : 10 ≤ p.val)
    (choice : (s.view.table[p] = none ∧ ∀ q : Fin 16, 10 ≤ q.val → q.val < p.val → s.view.table[q] ≠ none) ∨
      ((∀ q : Fin 16, 10 ≤ q.val → s.view.table[q] ≠ none) ∧
        ∀ q : Fin 16, 10 ≤ q.val → q ≠ p → s.silenceAt q < s.silenceAt p ∨ (s.silenceAt q = s.silenceAt p ∧ p < q))) :
    s.newPosition = p := by
  unfold State.newPosition
  rw [unpinnedPositions_eq, List.find?_filter]
  obtain ⟨empty, lower⟩ | ⟨full, greatest⟩ := choice
  · rw [(find?_finRange_eq_some (fun q => decide (decide (10 ≤ q.val) = true ∧ s.view.table[q].isNone = true)) p).mpr ⟨by simp [unpinned, empty], fun q below => by
      by_cases high : 10 ≤ q.val
      · simpa [high] using lower q high below
      · simp [high]⟩]
  · rw [(find?_finRange_eq_none fun q => decide (decide (10 ≤ q.val) = true ∧ s.view.table[q].isNone = true)).mpr fun q => by
      by_cases high : 10 ≤ q.val
      · simpa [high] using full q high
      · simp [high]]
    have ascending : ((10 : Fin 16) :: [11, 12, 13, 14, 15]).Pairwise (· < ·) := by decide
    dsimp only
    by_contra differs
    have best := s.mostSilent_greatest ascending ((mem_unpinnedPositions p).mpr unpinned) (Ne.symm differs)
    have := greatest _ ((mem_unpinnedPositions _).mp (s.mostSilent_mem 10 _)) differs
    omega

/-! ### The count handed, record by record (R71, R73, R74) -/

theorem SpreadRun.eq_of_unflagged {r r' : SpreadRun} (same : r'.unflagged = r.unflagged) : r' = { r with operators := r'.operators } := by
  cases r; cases r'
  simp_all [SpreadRun.unflagged]

theorem State.handLostCount_unflagged (s : State) : s.handLostCount.spread.unflagged = s.countTaken.spread.unflagged := by
  by_cases lowers : s.Lowers
  · obtain ⟨r, held, -⟩ := id lowers
    rw [State.handLostCount_of_lowers held lowers, State.handOffsets_unflagged]
  · rw [State.handLostCount_of_not_lowers lowers]

/-- Each record after the hand-over: the limit taken, its offset lowered to it, the set handed where one was lowered. -/
theorem State.handLostCount_records {s : State} {r₀ r : SpreadRun} (held : s.spread.records = some r₀) (same : r₀.unflagged = r.unflagged) :
    let limit := smaxEffOf s.cfg r.current (s.view.countAdjacent .lost)
    ∃ r', s.handLostCount.spread.records = some r' ∧ r' = { r with smaxEff := limit, operators := r'.operators } ∧
      r'.operators.map (fun o => (o.operator, o.load, o.offset)) = r.operators.map (fun o => (o.operator, o.load, min o.offset limit)) ∧
      ((∃ o ∈ r.operators, limit < o.offset) → r'.OffsetsHanded s.alloc s.handLostCount.alloc) ∧
      ((∀ o ∈ r.operators, o.offset ≤ limit) → s.handLostCount.alloc.offsets = s.alloc.offsets) := by
  intro limit
  have mode : r₀.current = r.current := (congrArg SpreadRun.current same :)
  have above : (∃ o ∈ r₀.operators, limit < o.offset) ↔ ∃ o ∈ r.operators, limit < o.offset := by
    have offsets := SpreadRun.operators_map_eq_of_unflagged_eq same OperatorRecord.offset fun _ => rfl
    simpa only [List.mem_map, exists_exists_and_eq_and] using
      (show (∃ x ∈ r₀.operators.map OperatorRecord.offset, limit < x) ↔ ∃ x ∈ r.operators.map OperatorRecord.offset, limit < x by rw [offsets])
  have taken : s.countTaken.spread.records = some { r₀ with smaxEff := limit, operators := r₀.operators.map (lowerTo limit) } := by
    simp [State.countTaken, held, mode, limit]
  obtain ⟨r', records, unflagged⟩ := Spread.records_of_unflagged_eq s.handLostCount_unflagged taken
  have shape := SpreadRun.eq_of_unflagged unflagged
  refine ⟨r', records, ?_, ?_, fun lowered => ?_, fun within => ?_⟩
  · rw [shape, SpreadRun.eq_of_unflagged same]
  · rw [SpreadRun.operators_map_eq_of_unflagged_eq unflagged (fun o => (o.operator, o.load, o.offset)) fun _ => rfl, List.map_map]
    exact SpreadRun.operators_map_eq_of_unflagged_eq same (fun o => (o.operator, o.load, min o.offset limit)) fun _ => rfl
  · refine SpreadRun.offsetsHanded_of_replaced ?_
    have lowers : s.Lowers := ⟨r₀, held, by rw [mode]; exact above.mpr lowered⟩
    rw [State.handLostCount_of_lowers held lowers, offsetSet_of_unflagged unflagged, State.handOffsets_eq]
    refine (State.settle_beside _).offsets.trans ?_
    simp only [offsetSet, List.map_map, mode]
    rfl
  · rw [State.handLostCount_of_not_lowers]
    · rfl
    · rintro ⟨r₁, held₁, there⟩
      cases held.symm.trans held₁
      rw [mode] at there
      obtain ⟨o, mem, over_⟩ := above.mp there
      have := within o mem
      omega

/-- What is so right before the hand-over is so with the set taken, when the recompute is due. -/
theorem State.BeforeRecompute.offsetsTaken {s u : State} (before : s.BeforeRecompute u) (set : List (Nat × Int)) :
    s.BeforeRecompute (u.countTaken.offsetsTaken set) := ⟨before.cfg, before.slots, before.marks, before.stamp, before.found⟩

/-- With an offset lowered in RUN, the hand-over is one recompute from where it began. -/
theorem State.handLostCount_judged {s u : State} (settled : u.Settled) (distinct : u.EntriesDistinct) (room : AtMost 16 u.supervisor.table)
    (lowers : u.Lowers) (run : u.inRun = true) (before : s.BeforeRecompute u) : s.OneRecompute u.handLostCount ∧
      ∀ (code : FaultCode) (subject : Nat), code ≠ .floorShed ∨ 8 ≤ subject →
        findEntry u.handLostCount.supervisor.table code subject = findEntry u.supervisor.table code subject := by
  obtain ⟨r, held, -⟩ := id lowers
  rw [State.handLostCount_of_lowers held lowers, State.handOffsets_eq]
  generalize r.operators.map _ = set
  have follow : (u.countTaken.offsetsTaken set).OutputsFollow := settled.follow.of_same rfl rfl rfl rfl
  have judged := State.settle_of_due follow distinct room run
  exact ⟨(before.offsetsTaken set).oneRecompute judged, judged.others⟩

/-- Outside RUN the set handed is only held. -/
theorem State.handLostCount_outside {s : State} (run : s.inRun = false) (code : FaultCode) (subject : Nat) :
    findEntry s.handLostCount.supervisor.table code subject = findEntry s.supervisor.table code subject := by
  by_cases lowers : s.Lowers
  · obtain ⟨r, held, -⟩ := id lowers
    rw [State.handLostCount_of_lowers held lowers, State.handOffsets_eq, State.settle_of_not_due _ run]
    rfl
  · rw [State.handLostCount_of_not_lowers lowers]
    rfl

end Sys2Proof.Machine
end

section
/-! PROOFS. O15, continued: what the storage of a beacon does, and its fields. -/

namespace Sys2Proof.Machine

/-! ### The loss cleared, and the count handed after it (R32, R36) -/

/-- A clear that asks nothing of the carriers: its own entry changes, and nothing else but the table's flags. -/
structure State.ClearsQuietly (s t : State) (code : FaultCode) (subject : Nat) : Prop where
  step : s.TableStep t
  settled : t.Settled
  distinct : t.EntriesDistinct
  cleared : ClearedIn s.supervisor.table t.supervisor.table code subject
  others : ∀ (other : FaultCode) (subject' : Nat), ¬(other = code ∧ subject' = subject) →
    findEntry t.supervisor.table other subject' = findEntry s.supervisor.table other subject'
  room : AtMost 16 s.supervisor.table → AtMost 16 t.supervisor.table

theorem State.clear_quietly {s : State} (settled : s.Settled) (distinct : s.EntriesDistinct) {code : FaultCode} (quiet : ¬ code.Asks)
    (subject : Nat) : s.ClearsQuietly (s.clear code subject) code subject := by
  have change := State.clear_of_not_asks settled quiet subject
  have table : (s.clear code subject).supervisor.table = tableClear s.supervisor.table code subject := by rw [change.supervisor]; rfl
  refine ⟨change.step, change.settled, entriesDistinct_changes.clear distinct code subject, ?_, ?_, ?_⟩ <;> rw [table]
  exacts [clearedIn_tableClear distinct _ _, fun _ _ => findEntry_tableClear_of_other, fun few => few.tableClear _ _]

theorem State.ClearsQuietly.beforeRecompute {s u c : State} {code : FaultCode} {subject : Nat} (h : u.ClearsQuietly c code subject)
    (notFloor : code ≠ .floorShed) (before : s.BeforeRecompute u) : s.BeforeRecompute c := by
  refine ⟨?_, ?_, ?_, h.step.stamp.trans before.stamp, fun i => (h.others _ _ fun same => notFloor same.1.symm).trans (before.found i)⟩
  · rw [State.cfg, h.step.ctl]; exact before.cfg
  · rw [h.step.alloc]; exact before.slots
  · rw [h.step.alloc]; exact before.marks

theorem State.handLostCount_stays {s : State} (stays : ¬ s.Lowers) : s.handLostCount.alloc = s.alloc ∧
    s.handLostCount.writer = s.writer ∧ s.handLostCount.supervisor = s.supervisor := by
  rw [State.handLostCount_of_not_lowers stays]
  exact ⟨rfl, rfl, rfl⟩

/-- A loss cleared and the count handed: a recompute follows where an offset is lowered in RUN, and nothing else moves a carrier. -/
theorem State.ClearsQuietly.handLostCount {s u c : State} {code : FaultCode} {subject : Nat} (h : u.ClearsQuietly c code subject)
    (notFloor : code ≠ .floorShed) (before : s.BeforeRecompute u) :
    (¬ c.Lowers → c.handLostCount.alloc = u.alloc ∧ c.handLostCount.writer = u.writer) ∧
    (c.Lowers → c.inRun = true → AtMost 16 u.supervisor.table → s.OneRecompute c.handLostCount) ∧
    (¬ c.Lowers ∨ AtMost 16 u.supervisor.table →
      ClearedIn u.supervisor.table c.handLostCount.supervisor.table code subject ∧
      ∀ (other : FaultCode) (subject' : Nat), ¬(other = code ∧ subject' = subject) →
        ¬ c.Lowers ∨ other ≠ .floorShed ∨ 8 ≤ subject' →
        findEntry c.handLostCount.supervisor.table other subject' = findEntry u.supervisor.table other subject') := by
  have before' := h.beforeRecompute notFloor before
  refine ⟨fun stays => ?_, fun lowers run few => ?_, fun either => ?_⟩
  · obtain ⟨alloc, writer, -⟩ := State.handLostCount_stays stays
    exact ⟨alloc.trans h.step.alloc, writer.trans h.step.writer⟩
  · exact (State.handLostCount_judged h.settled h.distinct (h.room few) lowers run before').1
  · have found (other : FaultCode) (subject' : Nat) (spared : ¬ c.Lowers ∨ other ≠ .floorShed ∨ 8 ≤ subject') :
        findEntry c.handLostCount.supervisor.table other subject' = findEntry c.supervisor.table other subject' := by
      by_cases lowers : c.Lowers
      · cases run : c.inRun with
        | false => exact State.handLostCount_outside run other subject'
        | true =>
          exact (State.handLostCount_judged h.settled h.distinct (h.room (either.resolve_left (not_not_intro lowers))) lowers run before').2
            other subject' (spared.resolve_left (not_not_intro lowers))
      · rw [(State.handLostCount_stays lowers).2.2]
    exact ⟨h.cleared.of_found rfl (found code subject (.inr (.inl notFloor))), fun other subject' differs spared =>
      (found other subject' spared).trans (h.others other subject' differs)⟩

/-! ### The storage, case by case -/

/-- The part with a good frame received, which is still to be delivered. -/
def State.received (s : State) (wait : Ms) : State := (s.advance wait.toNat).setPort s.port.endReception

theorem State.received_eq (s : State) (wait : Ms) : s.received wait =
    (s.setPort s.port.endReception).setCtl { s.ctl with clock := s.ctl.clock + wait } := by
  simp [State.received, State.advance, State.setPort, State.setCtl]

/-- The entry of a station heard now. -/
def Neighbour.returned (n : Neighbour) (heard : Heard) : Neighbour := { n with state := .live, heard := some heard }

theorem State.takeBeacon_of_known {s : State} {source : Nat} (other : s.ownId ≠ some source) {p : Fin 16} (found : s.view.find source = some p)
    {n : Neighbour} (held : s.view.table[p] = some n) (payload : List Byte) :
    s.takeBeacon source payload = s.storeBeacon p n (heardBeacon payload s.ctl.clock) := by
  unfold State.takeBeacon
  rw [if_neg other, found]
  dsimp only
  rw [held]

theorem State.takeBeacon_of_unknown {s : State} {source : Nat} (other : s.ownId ≠ some source) (absent : s.view.find source = none)
    (payload : List Byte) : s.takeBeacon source payload = s.createUnpinned source (heardBeacon payload s.ctl.clock) := by
  unfold State.takeBeacon
  rw [if_neg other, absent]

theorem State.storeBeacon_of_present {s : State} {n : Neighbour} (present : n.state = .live ∨ n.state = .suspect) (p : Fin 16) (heard : Heard) :
    s.storeBeacon p n heard = s.setEntry p (some (n.returned heard)) := by
  unfold State.storeBeacon
  obtain state | state := present <;> rw [state] <;> rfl

/-- The return of a station: its loss is cleared, and an adjacent one that was LOST is counted out. -/
theorem State.storeBeacon_of_returned {s : State} {p : Fin 16} (pinned : p.val < 10) {n : Neighbour}
    (gone : n.state = .absent ∨ n.state = .lost) (heard : Heard) :
    (p.val < 8 ∧ n.state = .lost →
      s.storeBeacon p n heard = ((s.setEntry p (some (n.returned heard))).clear (lossOf p) n.id).handLostCount) ∧
    (¬(p.val < 8 ∧ n.state = .lost) →
      s.storeBeacon p n heard = (s.setEntry p (some (n.returned heard))).clear (lossOf p) n.id) := by
  rw [← State.clearLoss_of_pinned _ pinned]
  unfold State.storeBeacon
  obtain state | state := gone
  · rw [state]
    exact ⟨fun h => (by cases h.2), fun _ => rfl⟩
  · rw [state]
    refine ⟨fun h => if_pos ?_, fun h => if_neg ?_⟩ <;> rw [pinnedKind_eq_adjacent_iff]
    exacts [h.1, fun low => h ⟨low, rfl⟩]

end Sys2Proof.Machine
end

section
/-! PROOFS. O15, concluded: the fields of a beacon as heard (R25, R31, R199), and the storage as a whole. -/

namespace Sys2Proof.Machine

/-! ### The operator records of a payload -/

/-- The operator record number `k` in the bytes of the records. -/
def operatorAt (bytes : List Byte) (k : Nat) : OperatorSeen :=
  ⟨(byteAt bytes (5 * k)).toNat, min 1000 (number16 (byteAt bytes (5 * k + 1)) (byteAt bytes (5 * k + 2))), (byteAt bytes (5 * k + 4)).getLsbD 0⟩

theorem byteAt_drop (bytes : List Byte) (n i : Nat) : byteAt (bytes.drop n) i = byteAt bytes (n + i) := by
  simp [byteAt, List.getD_eq_getElem?_getD]

theorem operatorRecords_eq (count : Nat) (bytes : List Byte) :
    operatorRecords count bytes = (List.range count).map (operatorAt bytes) := by
  induction count generalizing bytes with
  | zero => rfl
  | succ count ih =>
    rw [operatorRecords, ih, List.range_succ_eq_map, List.map_cons, List.map_map]
    refine congrArg₂ List.cons rfl (List.map_congr_left fun k _ => ?_)
    simp only [operatorAt, byteAt_drop, Function.comp, Nat.mul_succ]
    ring_nf

/-- Record `k` is the first from `start` on of an operator 1 to 15 that is not taken. -/
def firstOf (operator : Nat → Nat) (taken : List Nat) (start k : Nat) : Bool :=
  decide (1 ≤ operator k ∧ operator k ≤ 15 ∧ operator k ∉ taken ∧ ∀ j ∈ List.range k, start ≤ j → operator j ≠ operator k)

theorem firstOf_self (operator : Nat → Nat) (taken : List Nat) (k : Nat) :
    firstOf operator taken k k = true ↔ ¬(operator k = 0 ∨ 15 < operator k ∨ operator k ∈ taken) := by
  have none_before : ∀ j ∈ List.range k, k ≤ j → operator j ≠ operator k := fun j mem from_ =>
    absurd (List.mem_range.mp mem) (by omega)
  rw [firstOf, decide_eq_true_iff, not_or, not_or]
  exact ⟨fun ⟨low, high, new, _⟩ => ⟨by omega, by omega, new⟩, fun ⟨low, high, new⟩ => ⟨by omega, by omega, new, none_before⟩⟩

/-- A record that is skipped leaves the later ones as they were judged. -/
theorem firstOf_of_skipped {operator : Nat → Nat} {taken : List Nat} {start k : Nat}
    (left : operator start = 0 ∨ 15 < operator start ∨ operator start ∈ taken) :
    firstOf operator taken (start + 1) k = firstOf operator taken start k := by
  refine decide_eq_decide.mpr (and_congr_right fun low => and_congr_right fun high => and_congr_right fun new => ⟨fun h j mem from_ => ?_, fun h j mem from_ => h j mem (by omega)⟩)
  obtain rfl | later := Nat.eq_or_lt_of_le from_
  · intro same
    rw [same] at left
    obtain zero | big | held := left
    exacts [by omega, by omega, new held]
  · exact h j mem later

/-- A record that is kept takes its operator. -/
theorem firstOf_of_kept {operator : Nat → Nat} {taken : List Nat} {start k : Nat} (above : start < k) :
    firstOf operator (operator start :: taken) (start + 1) k = firstOf operator taken start k := by
  refine decide_eq_decide.mpr (and_congr_right fun _ => and_congr_right fun _ => ?_)
  rw [List.mem_cons, not_or]
  constructor
  · rintro ⟨⟨differs, new⟩, h⟩
    refine ⟨new, fun j mem from_ => ?_⟩
    obtain rfl | later := Nat.eq_or_lt_of_le from_
    exacts [Ne.symm differs, h j mem later]
  · rintro ⟨new, h⟩
    exact ⟨⟨(h start (List.mem_range.mpr above) le_rfl).symm, new⟩, fun j mem from_ => h j mem (by omega)⟩

/-- Of each operator 1 to 15 the first record is kept. -/
theorem keepRecords_eq (record : Nat → OperatorSeen) (taken : List Nat) (start count : Nat) :
    keepRecords taken ((List.range' start count).map record) =
      ((List.range' start count).filter (firstOf (fun k => (record k).operator) taken start)).map record := by
  induction count generalizing taken start with
  | zero => rfl
  | succ count ih =>
    have later {k : Nat} (mem : k ∈ List.range' (start + 1) count) : start < k := (List.mem_range'_1.mp mem).1
    have itself := firstOf_self (fun k => (record k).operator) taken start
    rw [List.range'_succ, List.map_cons, keepRecords]
    by_cases left : (record start).operator = 0 ∨ 15 < (record start).operator ∨ (record start).operator ∈ taken
    · rw [if_pos left, ih, List.filter_cons_of_neg (by rw [itself]; exact not_not_intro left)]
      refine congrArg _ (List.filter_congr fun k _ => ?_)
      exact firstOf_of_skipped left
    · rw [if_neg left, ih, List.filter_cons_of_pos (itself.mpr left), List.map_cons]
      refine congrArg _ (congrArg _ (List.filter_congr fun k mem => ?_))
      exact firstOf_of_kept (later mem)

/-- The fields of a beacon, as they are stored. -/
theorem heardBeacon_operators (payload : List Byte) (moment : Ms) :
    let at' (i : Nat) : Nat := (byteAt payload i).toNat
    let id (k : Nat) : Nat := at' (14 + 5 * k)
    let kept := (List.range (at' 12)).filter fun k => decide (1 ≤ id k ∧ id k ≤ 15 ∧ ∀ j ∈ List.range k, id j ≠ id k)
    (heardBeacon payload moment).operators = kept.map fun k =>
      ⟨id k, min 1000 (256 * at' (15 + 5 * k) + at' (16 + 5 * k)), (byteAt payload (18 + 5 * k)).getLsbD 0⟩ := by
  intro at' id kept
  have record (k : Nat) : operatorAt (payload.drop 14) k =
      ⟨id k, min 1000 (256 * at' (15 + 5 * k) + at' (16 + 5 * k)), (byteAt payload (18 + 5 * k)).getLsbD 0⟩ := by
    simp only [operatorAt, byteAt_drop, number16, id, at', Nat.mul_comm _ 256]
    ring_nf
  show keepRecords [] (operatorRecords (at' 12) (payload.drop 14)) = _
  rw [operatorRecords_eq, List.range_eq_range', keepRecords_eq, ← List.range_eq_range']
  have chosen : (List.range (at' 12)).filter (firstOf (fun k => (operatorAt (payload.drop 14) k).operator) [] 0) = kept := by
    refine List.filter_congr fun k _ => decide_eq_decide.mpr ?_
    simp [record]
  rw [chosen]
  exact List.map_congr_left fun k _ => record k

theorem levelNumber_levelOfByte (b : Byte) : levelNumber (levelOfByte b) = min 4 b.toNat := by
  unfold levelOfByte
  split <;> simp_all [levelNumber, Severity.number]
  omega

/-! ### The storage as a whole -/

/-- A return, of which the clear and the hand-over of the count are still to come. -/
def State.relived (s : State) (wait : Ms) (p : Fin 16) (n : Neighbour) (heard : Heard) : State :=
  (s.received wait).setEntry p (some (n.returned heard))

theorem lossOf_not_floorShed (p : Fin 16) : lossOf p ≠ .floorShed := by
  unfold lossOf
  split <;> simp

/-- Settles O15: the storage sets the entry; a return is cleared, and one that was LOST is counted out after it. -/
theorem beaconIsStoredInItsEntry : Obligations.BeaconIsStoredInItsEntry := by
  refine ⟨fun s wait bytes f p receiver footing listening foreign good beacon other => ?_, fun payload moment => ?_⟩
  · intro port heard silence
    have delivered : exec (.receivedFrame wait true bytes) s = .next ((s.received wait).takeBeacon f.source.toNat f.payload) := by
      show Host.Outcome.next (s.frameEnds wait true bytes) = _
      rw [State.frameEnds_of_good receiver footing listening foreign wait good, State.deliverFrame, beacon]
      rfl
    have clock : (s.received wait).ctl.clock = s.ctl.clock + wait := by rw [State.received_eq]; rfl
    have stored (entry : Option Neighbour) : (s.received wait).setEntry p entry =
        ((s.setPort port).setCtl { s.ctl with clock := s.ctl.clock + wait }).setView { s.view with table := s.view.table.set p entry } := by
      rw [State.received_eq]; rfl
    refine ⟨fun n found held present => ?_, fun n found held gone pinned => ?_, fun absent unpinned choice => ?_⟩
    · have ends := State.takeBeacon_of_known (s := s.received wait) other found held f.payload
      rw [State.storeBeacon_of_present present, stored, clock] at ends
      exact ⟨_, delivered.trans (congrArg _ ends), rfl, rfl⟩
    · have ends := State.storeBeacon_of_returned (s := s.received wait) pinned gone heard
      rw [← State.relived] at ends
      have known := State.takeBeacon_of_known (s := s.received wait) other found held f.payload
      rw [clock] at known
      have beside := State.clear_beside (s.relived wait p n heard) (lossOf p) n.id
      have view : (s.relived wait p n heard).view = { s.view with table := s.view.table.set p (some ⟨n.id, .live, some heard⟩) } :=
        congrArg State.view (stored _)
      by_cases lost : p.val < 8 ∧ n.state = .lost
      · obtain ⟨view', port', scanner, store, handler, -, count⟩ :=
          ((s.relived wait p n heard).clear (lossOf p) n.id).handLostCount_keeps
        refine ⟨_, delivered.trans (congrArg _ (known.trans (ends.1 lost))), port'.trans beside.port, view'.trans (beside.view.trans view),
          scanner.trans beside.scanner, store.trans beside.store, handler.trans beside.handler, ?_, fun r there _ _ => ?_,
          fun settled distinct => ?_⟩
        · rw [if_pos lost, ← view'] at *; exact count
        · have same : ((s.relived wait p n heard).clear (lossOf p) n.id).spread.unflagged = s.spread.unflagged := State.clear_unflagged ..
          obtain ⟨r₀, held₀, same₀⟩ := Spread.records_of_unflagged_eq same there
          have records := State.handLostCount_records held₀ same₀
          have cfg : ((s.relived wait p n heard).clear (lossOf p) n.id).cfg = s.cfg := beside.cfg
          have offsets : ((s.relived wait p n heard).clear (lossOf p) n.id).alloc.offsets = s.alloc.offsets := beside.offsets
          rw [count]
          simp only [cfg, SpreadRun.OffsetsHanded, offsets] at records
          exact records
        · intro code lowers
          have quiet := State.clear_quietly (s := s.relived wait p n heard) (settled.of_same rfl rfl) distinct (lossOf_not_asks p) n.id
          have lowersIff : lowers ↔ ((s.relived wait p n heard).clear (lossOf p) n.id).Lowers := by
            have spread : ((s.relived wait p n heard).clear (lossOf p) n.id).spread = s.spread := quiet.step.spread
            have cfg : ((s.relived wait p n heard).clear (lossOf p) n.id).cfg = s.cfg := beside.cfg
            simp only [lowers, lost, true_and, State.Lowers, spread, cfg, count, smaxEffOf]
          have run : ((s.relived wait p n heard).clear (lossOf p) n.id).inRun = s.inRun := beside.inRun
          obtain ⟨stays, recomputes, entries⟩ := quiet.handLostCount (s := s) (lossOf_not_floorShed p) ⟨rfl, rfl, rfl, rfl, fun _ => rfl⟩
          rw [← lowersIff] at stays recomputes entries
          exact ⟨stays, fun low inRun => recomputes low (by rw [run, State.inRun, inRun]; rfl), entries⟩
      · refine ⟨_, delivered.trans (congrArg _ (known.trans (ends.2 lost))), beside.port, beside.view.trans view,
          beside.scanner, beside.store, beside.handler, ?_, fun _ _ low gone => absurd ⟨low, gone⟩ lost, fun settled distinct => ?_⟩
        · rw [if_neg lost]; exact beside.lostCount
        · have quiet := State.clear_quietly (s := s.relived wait p n heard) (settled.of_same rfl rfl) distinct (lossOf_not_asks p) n.id
          exact ⟨fun _ => ⟨quiet.step.alloc, quiet.step.writer⟩, fun lowers => absurd ⟨lowers.1, lowers.2.1⟩ lost,
            fun _ => ⟨quiet.cleared, fun other subject differs _ => quiet.others other subject differs⟩⟩
    · have ends := State.takeBeacon_of_unknown (s := s.received wait) other absent f.payload
      have position : (s.received wait).newPosition = p := State.newPosition_eq unpinned choice
      rw [State.createUnpinned, position, stored, clock] at ends
      exact ⟨_, delivered.trans (congrArg _ ends), rfl, rfl⟩
  · intro at' id kept
    refine ⟨rfl, ?_, rfl, levelNumber_levelOfByte _, heardBeacon_operators payload moment⟩
    show clampNat 50 1000 (number16 (byteAt payload 3) (byteAt payload 4)) = max 50 (min 1000 (256 * at' 3 + at' 4))
    simp only [clampNat, number16, at']
    omega

end Sys2Proof.Machine
end

section
/-! PROOFS. The frame checks (R11, R12, R198), and O13. -/

namespace Sys2Proof.Machine

/-! ### The frame check bit by bit (R198) -/

theorem crcByte_eq (register : BitVec 16) (b : Byte) :
    crcByte register b = ((List.range 8).map fun i => b.getMsbD i).foldl
      (fun (r : BitVec 16) (bit : Bool) => if r.msb = bit then r <<< 1 else (r <<< 1) ^^^ 0x1021#16) register := by
  have bit (r : BitVec 16) (x : Bool) : crcBit r x = if r.msb = x then r <<< 1 else (r <<< 1) ^^^ 0x1021#16 := by
    unfold crcBit
    by_cases same : r.msb = x <;> simp [same]
  have bits : ((List.range 8).map fun i => b.getMsbD i) = [7, 6, 5, 4, 3, 2, 1, 0].map b.getLsbD := by
    simp [List.range_succ, BitVec.getMsbD]
  rw [bits, List.foldl_map, crcByte]
  simp only [bit]

theorem crc_eq (bytes : List Byte) :
    crc bytes = (bytes.flatMap fun b => (List.range 8).map fun i => b.getMsbD i).foldl
      (fun (r : BitVec 16) (bit : Bool) => if r.msb = bit then r <<< 1 else (r <<< 1) ^^^ 0x1021#16) 0xFFFF#16 := by
  rw [crc, List.foldl_flatMap]
  exact congrArg (fun step => bytes.foldl step 0xFFFF#16) (funext fun r => funext fun b => crcByte_eq r b)

/-! ### The checks of a frame (R12) -/

theorem receivedFrame_of_short {bytes : List Byte} (short : bytes.length < 4) (whole : Bool) : receivedFrame whole bytes = none := by
  rcases bytes with _ | ⟨_, _ | ⟨_, _ | ⟨_, _ | ⟨_, _⟩⟩⟩⟩
  iterate 4 rfl
  simp at short
  omega

/-- The frame passes: each check of R12, in its order. -/
structure FramePasses (whole : Bool) (k source destination length : Byte) (rest : List Byte) (f : Frame) : Prop where
  kind : FrameKind.ofByte k = some f.kind
  sender : f.source = source
  addressee : f.destination = destination
  payload : f.payload = rest.take (rest.length - 2)
  entire : whole = true
  checked : 2 ≤ rest.length
  bounded : length.toNat ≤ 88
  fits : length.toNat + 2 = rest.length
  check : number16 (byteAt rest length.toNat) (byteAt rest (length.toNat + 1)) =
    (crc (k :: source :: destination :: length :: f.payload)).toNat
  notZero : source ≠ 0#8
  notAll : source ≠ 63#8
  shape : f.kind = .beacon → beaconShape destination f.payload = true

theorem receivedFrame_eq_some_iff {whole : Bool} {k source destination length : Byte} {rest : List Byte} {f : Frame} :
    receivedFrame whole (k :: source :: destination :: length :: rest) = some f ↔
      FramePasses whole k source destination length rest f := by
  unfold receivedFrame
  constructor
  · intro h
    dsimp only at h
    split at h
    · cases h
    next kind is =>
      split at h
      next passes =>
        cases h
        simp only [Bool.and_eq_true, Bool.or_eq_true, decide_eq_true_eq, bne_iff_ne, ne_eq] at passes
        obtain ⟨⟨⟨⟨⟨⟨⟨whole, checked⟩, bounded⟩, fits⟩, check⟩, notZero⟩, notAll⟩, shape⟩ := passes
        have fits : length.toNat + 2 = rest.length := by rw [fits, List.length_take]; omega
        rw [byteAt_drop, byteAt_drop, show rest.length - 2 = length.toNat by omega] at check
        refine ⟨is, rfl, rfl, rfl, whole, checked, bounded, fits, ?_, notZero, notAll, fun beacon => shape.resolve_left (not_not_intro beacon)⟩
        rw [← show rest.length - 2 = length.toNat by omega] at check ⊢
        exact check
      · cases h
  · obtain ⟨kind, source', destination', payload⟩ := f
    rintro ⟨is, rfl, rfl, rfl, whole, checked, bounded, fits, check, notZero, notAll, shape⟩
    dsimp only at is shape check ⊢
    rw [is]
    dsimp only
    rw [if_pos]
    simp only [Bool.and_eq_true, Bool.or_eq_true, decide_eq_true_eq, bne_iff_ne, ne_eq]
    refine ⟨⟨⟨⟨⟨⟨⟨whole, checked⟩, bounded⟩, ?_⟩, ?_⟩, notZero⟩, notAll⟩, ?_⟩
    · rw [List.length_take]; omega
    · rw [byteAt_drop, byteAt_drop, show rest.length - 2 = length.toNat by omega]
      rw [show rest.length - 2 = length.toNat by omega] at check
      exact check
    · by_cases beacon : kind = .beacon
      exacts [.inr (shape beacon), .inl beacon]

theorem FrameKind.ofByte_eq_some_iff {b : Byte} {kind : FrameKind} : FrameKind.ofByte b = some kind ↔
    (b.toNat = 1 ∨ b.toNat = 2 ∨ b.toNat = 3) ∧
      kind = if b.toNat = 1 then .beacon else if b.toNat = 2 then .directive else .answer := by
  unfold FrameKind.ofByte
  simp only [← BitVec.toNat_inj, BitVec.toNat_ofNat, Nat.reducePow, Nat.reduceMod]
  split
  · simp_all [eq_comm]
  · split
    · simp_all [eq_comm]
    · split <;> simp_all [eq_comm]

/-- Of a payload of the length announced, the shape of a beacon in the bytes of the frame. -/
theorem beaconShape_iff {k source destination length : Byte} {rest : List Byte} (fits : length.toNat + 2 = rest.length) :
    let field (i : Nat) : Nat := (byteAt (k :: source :: destination :: length :: rest) i).toNat
    beaconShape destination (rest.take length.toNat) = true ↔
      field 2 = 63 ∧ field 16 ≤ 8 ∧ field 17 ≤ 4 ∧ field 3 = 14 + 5 * field 16 + 4 * field 17 := by
  intro field
  have size : (rest.take length.toNat).length = length.toNat := by rw [List.length_take]; omega
  have addressee : destination = 63#8 ↔ field 2 = 63 := by rw [← BitVec.toNat_inj]; rfl
  have read (i : Nat) (inside : i < length.toNat) : (byteAt (rest.take length.toNat) i).toNat = field (i + 4) := by
    simp [byteAt, field, List.getD_eq_getElem?_getD, inside]
  unfold beaconShape
  simp only [Bool.and_eq_true, beq_iff_eq, decide_eq_true_eq, and_assoc, size, addressee]
  show _ ↔ field 2 = 63 ∧ field 16 ≤ 8 ∧ field 17 ≤ 4 ∧ length.toNat = 14 + 5 * field 16 + 4 * field 17
  by_cases long : 14 ≤ length.toNat
  · rw [read 12 (by omega), read 13 (by omega)]
  · constructor <;> rintro ⟨-, -, -, fields⟩ <;> omega

/-- Some frame passes: the checks of R12 without the frame. -/
theorem exists_framePasses_iff {whole : Bool} {k source destination length : Byte} {rest : List Byte} :
    (∃ f, FramePasses whole k source destination length rest f) ↔
      whole = true ∧ length.toNat ≤ 88 ∧ length.toNat + 2 = rest.length ∧
      number16 (byteAt rest length.toNat) (byteAt rest (length.toNat + 1)) =
        (crc (k :: source :: destination :: length :: rest.take length.toNat)).toNat ∧
      (k.toNat = 1 ∨ k.toNat = 2 ∨ k.toNat = 3) ∧ source.toNat ≠ 0 ∧ source.toNat ≠ 63 ∧
      (k.toNat = 1 → beaconShape destination (rest.take length.toNat) = true) := by
  rw [Ne, Ne, byte_toNat_eq_iff source (show 0 < 256 by decide), byte_toNat_eq_iff source (show 63 < 256 by decide)]
  constructor
  · rintro ⟨f, passes⟩
    obtain ⟨known, kind⟩ := FrameKind.ofByte_eq_some_iff.mp passes.kind
    have payload : f.payload = rest.take length.toNat := by rw [passes.payload, ← passes.fits]; rfl
    refine ⟨passes.entire, passes.bounded, passes.fits, payload ▸ passes.check, known, passes.notZero, passes.notAll, fun beacon => ?_⟩
    exact payload ▸ passes.shape (by rw [kind, if_pos beacon])
  · rintro ⟨entire, bounded, fits, check, known, notZero, notAll, shape⟩
    have payload : rest.take (rest.length - 2) = rest.take length.toNat := by rw [← fits]; rfl
    refine ⟨⟨if k.toNat = 1 then .beacon else if k.toNat = 2 then .directive else .answer, source, destination, rest.take length.toNat⟩,
      FrameKind.ofByte_eq_some_iff.mpr ⟨known, rfl⟩, rfl, rfl, payload.symm, entire, by omega, bounded, fits, check, notZero, notAll,
      fun beacon => shape ?_⟩
    dsimp only at beacon
    by_contra other
    rw [if_neg other] at beacon
    split at beacon <;> cases beacon

/-- The bad frames, by the bytes (R12). -/
theorem receivedFrame_eq_none_iff (whole : Bool) (bytes : List Byte) :
    let field (i : Nat) : Nat := (byteAt bytes i).toNat
    let last := bytes.length - 2
    receivedFrame whole bytes = none ↔
      whole = false ∨ bytes.length < 6 ∨ 88 < field 3 ∨ field 3 + 6 ≠ bytes.length ∨
      256 * field last + field (last + 1) ≠ (crc (bytes.take last)).toNat ∨
      (field 0 ≠ 1 ∧ field 0 ≠ 2 ∧ field 0 ≠ 3) ∨ field 1 = 0 ∨ field 1 = 63 ∨
      (field 0 = 1 ∧ (field 2 ≠ 63 ∨ 8 < field 16 ∨ 4 < field 17 ∨ field 3 ≠ 14 + 5 * field 16 + 4 * field 17)) := by
  intro field last
  by_cases short : bytes.length < 4
  · rw [receivedFrame_of_short short]
    exact ⟨fun _ => .inr (.inl (by omega)), fun _ => rfl⟩
  obtain ⟨k, source, destination, length, rest, rfl⟩ : ∃ k source destination length rest,
      bytes = k :: source :: destination :: length :: rest := by
    rcases bytes with _ | ⟨k, _ | ⟨source, _ | ⟨destination, _ | ⟨length, rest⟩⟩⟩⟩
    iterate 4 exact absurd (by simp) short
    exact ⟨k, source, destination, length, rest, rfl⟩
  have size : (k :: source :: destination :: length :: rest).length = rest.length + 4 := rfl
  rw [← not_iff_not, ← ne_eq, Option.ne_none_iff_exists']
  simp only [receivedFrame_eq_some_iff, exists_framePasses_iff]
  rw [size]
  show _ ↔ ¬(whole = false ∨ rest.length + 4 < 6 ∨ 88 < length.toNat ∨ length.toNat + 6 ≠ rest.length + 4 ∨ _)
  by_cases fits : length.toNat + 2 = rest.length
  · have lastEq : last = length.toNat + 4 := by simp only [last, List.length_cons]; omega
    have check : 256 * field last + field (last + 1) = number16 (byteAt rest length.toNat) (byteAt rest (length.toNat + 1)) := by
      rw [lastEq, Nat.mul_comm]; rfl
    have taken : (k :: source :: destination :: length :: rest).take last = k :: source :: destination :: length :: rest.take length.toNat := by
      rw [lastEq]; rfl
    have shape : beaconShape destination (rest.take length.toNat) = true ↔
        field 2 = 63 ∧ field 16 ≤ 8 ∧ field 17 ≤ 4 ∧ field 3 = 14 + 5 * field 16 + 4 * field 17 := beaconShape_iff fits
    rw [check, taken, shape]
    show _ ∧ _ ∧ _ ∧ _ ∧ (field 0 = 1 ∨ field 0 = 2 ∨ field 0 = 3) ∧ field 1 ≠ 0 ∧ field 1 ≠ 63 ∧ (field 0 = 1 → _) ↔ _
    simp only [not_or, not_and, Bool.not_eq_false, not_lt, not_not, ne_eq]
    generalize (crc _).toNat = c
    generalize number16 _ _ = d
    constructor
    · rintro ⟨entire, bounded, _, same, known, notZero, notAll, shape⟩
      exact ⟨entire, by omega, bounded, by omega, same, by omega, notZero, notAll, shape⟩
    · rintro ⟨entire, _, bounded, _, same, known, notZero, notAll, shape⟩
      exact ⟨entire, bounded, fits, same, by omega, notZero, notAll, shape⟩
  · exact ⟨fun h => absurd h.2.2.1 fits, fun h => absurd (.inr (.inr (.inr (.inl (by omega))))) h⟩

/-- The fields of a good frame, by the bytes (R198). -/
theorem receivedFrame_fields {whole : Bool} {bytes : List Byte} {f : Frame} (good : receivedFrame whole bytes = some f) :
    let field (i : Nat) : Nat := (byteAt bytes i).toNat
    f.kind = (if field 0 = 1 then .beacon else if field 0 = 2 then .directive else .answer) ∧
      f.source = byteAt bytes 1 ∧ f.destination = byteAt bytes 2 ∧ f.payload = (bytes.drop 4).take (field 3) := by
  rcases bytes with _ | ⟨k, _ | ⟨source, _ | ⟨destination, _ | ⟨length, rest⟩⟩⟩⟩
  iterate 4 cases good
  have passes := receivedFrame_eq_some_iff.mp good
  refine ⟨(FrameKind.ofByte_eq_some_iff.mp passes.kind).2, passes.sender, passes.addressee, ?_⟩
  rw [passes.payload, ← passes.fits]
  rfl

/-! ### The count of bad frames (R14) -/

theorem State.settleNoise_of_not_due {s : State} (notDue : s.port.cleanRun < 4) : s.settleNoise = s := by
  rw [State.settleNoise, if_neg fun due => by omega]

theorem State.countBadFrame_of_quiet {s : State} (notDue : s.port.cleanRun < 4)
    (quiet : s.port.badFrames ≠ 15 ∨ s.port.noiseStanding = true) :
    s.countBadFrame = s.setPort { s.port with badFrames := min 255 (s.port.badFrames + 1) } := by
  unfold State.countBadFrame
  rw [State.settleNoise_of_not_due notDue]
  refine if_neg fun sixteenth => ?_
  obtain ⟨full, few, stands⟩ := sixteenth
  simp only [saturate] at full
  obtain other | standing := quiet
  · omega
  · simp [standing] at stands

theorem State.countBadFrame_of_sixteenth {s : State} (notDue : s.port.cleanRun < 4) (fifteen : s.port.badFrames = 15)
    (quiet : s.port.noiseStanding = false) :
    s.countBadFrame = (s.setPort { s.port with badFrames := 16, noiseStanding := true }).raise .trunkNoise 0 := by
  unfold State.countBadFrame
  rw [State.settleNoise_of_not_due notDue]
  have counted : saturate 255 s.port.badFrames = 16 := by rw [fifteen]; rfl
  dsimp only
  rw [counted]
  exact if_pos ⟨rfl, by omega, by simp [quiet]⟩

/-- Settles O13: the checks of R12 on the bytes, and the count of a frame that fails them. -/
theorem badFramesAreCountedOrDiscarded : Obligations.BadFramesAreCountedOrDiscarded := by
  refine ⟨fun whole bytes => ?_, fun s wait whole bytes receiver footing listening => ⟨fun alone bad notDue quiet => ?_,
    fun alone bad notDue fifteen quiet => ?_, fun echo => ?_⟩⟩
  · intro field last bits check
    refine ⟨?_, fun f good => receivedFrame_fields good⟩
    have checked : check = crc (bytes.take last) := (crc_eq _).symm
    rw [checked]
    exact receivedFrame_eq_none_iff whole bytes
  · have ends : s.frameEnds wait whole bytes = (s.received wait).takeReception s.port.overlap whole bytes :=
      State.frameEnds_eq receiver footing listening wait whole bytes
    rw [alone, State.takeReception_of_bad _ bad, State.countBadFrame_of_quiet (s := s.received wait) notDue quiet, State.received_eq] at ends
    exact ⟨_, congrArg Host.Outcome.next ends, rfl, by simp [State.setPort, State.setCtl, Port.endReception, alone]⟩
  · have ends : s.frameEnds wait whole bytes = (s.received wait).takeReception s.port.overlap whole bytes :=
      State.frameEnds_eq receiver footing listening wait whole bytes
    rw [alone, State.takeReception_of_bad _ bad, State.countBadFrame_of_sixteenth (s := s.received wait) notDue fifteen quiet] at ends
    have beside := State.raise_beside (s.received wait |>.setPort { (s.received wait).port with badFrames := 16, noiseStanding := true }) .trunkNoise 0
    refine ⟨_, congrArg Host.Outcome.next ends, beside.port.trans ?_, beside.view, beside.scanner, beside.store, fun settled => ?_⟩
    · simp [State.received, State.setPort, Port.endReception, alone]
    · have settled' : ((s.received wait).setPort { (s.received wait).port with badFrames := 16, noiseStanding := true }).Settled :=
        settled.of_same rfl rfl
      refine ⟨State.raise_raisedIn settled' FaultCode.trunkNoise_not_asks 0, fun few => ?_⟩
      have quietly := State.raise_of_room settled' FaultCode.trunkNoise_not_asks 0 (few.roomFor (by omega) _ _)
      exact ⟨quietly.step.alloc, quietly.step.writer⟩
  · have ends : s.frameEnds wait whole bytes = (s.received wait).takeReception s.port.overlap whole bytes :=
      State.frameEnds_eq receiver footing listening wait whole bytes
    have ends : s.frameEnds wait whole bytes = s.received wait := by
      obtain clean | ⟨collided, bad⟩ := echo
      · rw [ends, clean, State.takeReception_of_clean]
      · rw [ends, collided, State.takeReception_of_collided _ bad]
    rw [State.received_eq] at ends
    exact ⟨_, congrArg Host.Outcome.next ends, rfl, rfl⟩

end Sys2Proof.Machine
end

section
/-! PROOFS. O14: frames laid out and received, the beacon's payload, the choice of its summaries. -/

namespace Sys2Proof.Machine

/-! ### A frame laid out (R1, R198) -/

theorem number16_halves (x : BitVec 16) : number16 (x.extractLsb' 8 8) (x.extractLsb' 0 8) = x.toNat := by
  have := x.isLt
  simp only [number16, BitVec.extractLsb'_toNat, Nat.shiftRight_eq_div_pow]
  omega

/-- A frame as the part lays it out passes the checks and comes out as it went in. -/
theorem receivedFrame_frameBytes {kindByte source destination : Byte} {kind : FrameKind} {payload : List Byte}
    (is : FrameKind.ofByte kindByte = some kind) (notZero : source ≠ 0#8) (notAll : source ≠ 63#8) (fits : payload.length ≤ 88)
    (shape : kind = .beacon → beaconShape destination payload = true) :
    receivedFrame true (frameBytes kindByte source destination payload) = some ⟨kind, source, destination, payload⟩ := by
  have length : (byteOf payload.length).toNat = payload.length := by
    rw [byteOf, BitVec.toNat_ofNat]; omega
  have laid : frameBytes kindByte source destination payload =
      kindByte :: source :: destination :: byteOf payload.length :: (payload ++
        [(crc (kindByte :: source :: destination :: byteOf payload.length :: payload)).extractLsb' 8 8,
          (crc (kindByte :: source :: destination :: byteOf payload.length :: payload)).extractLsb' 0 8]) := rfl
  rw [laid, receivedFrame_eq_some_iff]
  refine ⟨is, rfl, rfl, ?_, rfl, by simp, by omega, by simp [length], ?_, notZero, notAll, shape⟩
  · simp
  · rw [length, ← number16_halves (crc _)]
    refine congrArg₂ number16 ?_ ?_
    · exact byteAt_append_right (i := 0) rfl _
    · exact byteAt_append_right (i := 1) rfl _

theorem frameBytes_length (kindByte source destination : Byte) (payload : List Byte) :
    (frameBytes kindByte source destination payload).length = payload.length + 6 := by
  simp [frameBytes]

/-! ### The choice of the summaries (R148, R149) -/

/-- The order of R149 on entries with their positions. -/
def PlacedBefore (x y : Fin 24 × FaultEntry) : Prop :=
  y.2.code.severity.number < x.2.code.severity.number ∨
    (x.2.code.severity.number = y.2.code.severity.number ∧
      (x.2.firstEpoch.toNat < y.2.firstEpoch.toNat ∨ (x.2.firstEpoch.toNat = y.2.firstEpoch.toNat ∧ x.1 < y.1)))

theorem PlacedBefore.trans {x y z : Fin 24 × FaultEntry} (h : PlacedBefore x y) (k : PlacedBefore y z) : PlacedBefore x z := by
  unfold PlacedBefore at *
  omega

theorem carriedBefore_iff (e f : FaultEntry) : carriedBefore e f = true ↔ f.code.severity.number < e.code.severity.number ∨
    (e.code.severity.number = f.code.severity.number ∧ e.firstEpoch.toNat < f.firstEpoch.toNat) := by
  simp [carriedBefore]

/-- `insertOrdered` with the positions kept. -/
def insertPlaced (x : Fin 24 × FaultEntry) : List (Fin 24 × FaultEntry) → List (Fin 24 × FaultEntry)
  | [] => [x]
  | y :: rest => if carriedBefore y.2 x.2 then y :: insertPlaced x rest else x :: y :: rest

/-- `orderEntries` with the positions kept. -/
def orderPlaced : List (Fin 24 × FaultEntry) → List (Fin 24 × FaultEntry)
  | [] => []
  | x :: rest => insertPlaced x (orderPlaced rest)

theorem insertPlaced_entries (x : Fin 24 × FaultEntry) (l : List (Fin 24 × FaultEntry)) :
    (insertPlaced x l).map Prod.snd = insertOrdered x.2 (l.map Prod.snd) := by
  induction l with
  | nil => rfl
  | cons y rest ih =>
    rw [insertPlaced, List.map_cons, insertOrdered]
    split
    · rw [List.map_cons, ih]
    · rfl

theorem orderPlaced_entries (l : List (Fin 24 × FaultEntry)) : (orderPlaced l).map Prod.snd = orderEntries (l.map Prod.snd) := by
  induction l with
  | nil => rfl
  | cons x rest ih => rw [orderPlaced, insertPlaced_entries, ih]; rfl

theorem mem_insertPlaced {x y : Fin 24 × FaultEntry} {l : List (Fin 24 × FaultEntry)} : y ∈ insertPlaced x l ↔ y = x ∨ y ∈ l := by
  induction l with
  | nil => simp [insertPlaced]
  | cons z rest ih =>
    rw [insertPlaced]
    split
    · simp only [List.mem_cons, ih]; tauto
    · simp

theorem mem_orderPlaced {y : Fin 24 × FaultEntry} {l : List (Fin 24 × FaultEntry)} : y ∈ orderPlaced l ↔ y ∈ l := by
  induction l with
  | nil => rfl
  | cons x rest ih => rw [orderPlaced, mem_insertPlaced, ih, List.mem_cons]

theorem insertPlaced_ordered {x : Fin 24 × FaultEntry} {l : List (Fin 24 × FaultEntry)} (ordered : l.Pairwise PlacedBefore)
    (lowest : ∀ y ∈ l, x.1 < y.1) : (insertPlaced x l).Pairwise PlacedBefore := by
  induction l with
  | nil => simp [insertPlaced]
  | cons y rest ih =>
    obtain ⟨first, ordered'⟩ := List.pairwise_cons.mp ordered
    have low : x.1 < y.1 := lowest y (List.mem_cons_self ..)
    have carried := carriedBefore_iff y.2 x.2
    rw [insertPlaced]
    split
    next before =>
      refine List.pairwise_cons.mpr ⟨fun z mem => ?_, ih ordered' fun z mem => lowest z (List.mem_cons_of_mem _ mem)⟩
      obtain rfl | mem := mem_insertPlaced.mp mem
      · exact (carried.mp before).imp id fun ⟨same, earlier⟩ => ⟨same, .inl earlier⟩
      · exact first z mem
    next after =>
      have before : PlacedBefore x y := by
        have := mt carried.mpr after
        unfold PlacedBefore
        omega
      refine List.pairwise_cons.mpr ⟨fun z mem => ?_, ordered⟩
      obtain rfl | mem := List.mem_cons.mp mem
      exacts [before, before.trans (first z mem)]

theorem orderPlaced_ordered {l : List (Fin 24 × FaultEntry)} (ascending : l.Pairwise fun x y => x.1 < y.1) :
    (orderPlaced l).Pairwise PlacedBefore := by
  induction l with
  | nil => exact .nil
  | cons x rest ih =>
    obtain ⟨first, ascending'⟩ := List.pairwise_cons.mp ascending
    exact insertPlaced_ordered (ih ascending') fun y mem => first y (mem_orderPlaced.mp mem)

theorem positioned_entries (t : FaultTable) : (positioned t).map Prod.snd = entries t := by
  rw [positioned, entries, Vector.toList_eq_finRange, List.filterMap_map, List.map_filterMap]
  exact List.filterMap_congr fun p _ => by simp

/-- The eligible entries of the table, in the order of R149. -/
def placedInOrder (t : FaultTable) (floor : Severity) : List (Fin 24 × FaultEntry) :=
  orderPlaced ((positioned t).filter fun x => eligible floor x.2)

theorem mem_placedInOrder {t : FaultTable} {floor : Severity} {p : Fin 24} {e : FaultEntry} :
    (p, e) ∈ placedInOrder t floor ↔ t[p] = some e ∧ 0 < e.credit ∧ floor.number ≤ e.code.severity.number := by
  rw [placedInOrder, mem_orderPlaced, List.mem_filter, mem_positioned_iff]
  simp [eligible]

theorem State.summarised_eq {s : State} {floor : Severity} (held : s.composer.floor = some floor) :
    s.summarised = ((placedInOrder s.supervisor.table floor).take 4).map Prod.snd := by
  rw [State.summarised, held]
  dsimp only
  rw [placedInOrder, List.map_take, orderPlaced_entries, ← positioned_entries, List.filter_map]
  rfl

theorem placedInOrder_ordered (t : FaultTable) (floor : Severity) : (placedInOrder t floor).Pairwise PlacedBefore :=
  orderPlaced_ordered ((positioned_ascending t).filter _)

theorem SummarisedBefore.of_placed {t : FaultTable} {x y : Fin 24 × FaultEntry} (here : t[x.1] = some x.2) (there : t[y.1] = some y.2)
    (before : PlacedBefore x y) : SummarisedBefore t x.1 y.1 := by
  intro e f held held'
  cases here.symm.trans held
  cases there.symm.trans held'
  exact before

/-- The first four eligible entries are the ones chosen. -/
theorem State.summarised_chosen {s : State} {floor : Severity} (held : s.composer.floor = some floor) :
    ∃ chosen : List (Fin 24),
      s.summarised.map some = chosen.map (fun p => s.supervisor.table[p]) ∧ chosen.length ≤ 4 ∧
      chosen.Pairwise (SummarisedBefore s.supervisor.table) ∧ (∀ p ∈ chosen, EligibleAt s.supervisor.table floor p) ∧
      ∀ p : Fin 24, EligibleAt s.supervisor.table floor p → p ∉ chosen →
        chosen.length = 4 ∧ ∀ q ∈ chosen, SummarisedBefore s.supervisor.table q p := by
  have place {x : Fin 24 × FaultEntry} (mem : x ∈ placedInOrder s.supervisor.table floor) := (mem_placedInOrder (p := x.1) (e := x.2)).mp mem
  have ordered := placedInOrder_ordered s.supervisor.table floor
  refine ⟨((placedInOrder s.supervisor.table floor).take 4).map Prod.fst, ?_, by simp, ?_, fun p mem => ?_, fun p able left => ?_⟩
  · rw [State.summarised_eq held, List.map_map, List.map_map]
    exact List.map_congr_left fun x mem => (place (List.mem_of_mem_take mem)).1.symm
  · rw [List.pairwise_map]
    refine (ordered.sublist (List.take_sublist ..)).imp_of_mem fun here there before => ?_
    exact .of_placed (place (List.mem_of_mem_take here)).1 (place (List.mem_of_mem_take there)).1 before
  · obtain ⟨x, early, rfl⟩ := List.mem_map.mp mem
    exact ⟨x.2, place (List.mem_of_mem_take early)⟩
  · obtain ⟨e, there, able⟩ := able
    have mem : (p, e) ∈ placedInOrder s.supervisor.table floor := mem_placedInOrder.mpr ⟨there, able⟩
    have late : (p, e) ∈ (placedInOrder s.supervisor.table floor).drop 4 := by
      rw [← List.take_append_drop 4 (placedInOrder _ _), List.mem_append] at mem
      exact mem.resolve_left fun early => left (List.mem_map.mpr ⟨_, early, rfl⟩)
    refine ⟨?_, fun q chosen => ?_⟩
    · have := List.length_pos_of_mem late
      rw [List.length_drop] at this
      rw [List.length_map, List.length_take]
      omega
    · obtain ⟨x, early, rfl⟩ := List.mem_map.mp chosen
      rw [← List.take_append_drop 4 (placedInOrder _ _), List.pairwise_append] at ordered
      exact .of_placed (place (List.mem_of_mem_take early)).1 there (ordered.2.2 x early _ late)

theorem State.summarised_length (s : State) : s.summarised.length ≤ 4 := by
  unfold State.summarised
  split <;> simp

/-! ### The level of the ACTIVE entries (R147) -/

theorem severityCount_pos_iff (t : FaultTable) (severity : Severity) :
    0 < severityCount t severity ↔ ∃ e ∈ activeEntries t, e.code.severity = severity := by
  simp [severityCount, List.countP_pos_iff]

/-- The level is the severity of an ACTIVE entry that none exceeds, or none where no entry is ACTIVE. -/
theorem faultLevel_spec (t : FaultTable) :
    (∀ e ∈ activeEntries t, e.code.severity.number ≤ levelNumber (faultLevel t)) ∧
      ((activeEntries t = [] ∧ faultLevel t = none) ∨ ∃ e ∈ activeEntries t, faultLevel t = some e.code.severity) := by
  have bound (e : FaultEntry) (mem : e ∈ activeEntries t) : 0 < severityCount t e.code.severity :=
    (severityCount_pos_iff t _).mpr ⟨e, mem, rfl⟩
  have least {level : Severity} (none_above : ∀ severity : Severity, level.number < severity.number → ¬ 0 < severityCount t severity)
      (e : FaultEntry) (mem : e ∈ activeEntries t) : e.code.severity.number ≤ levelNumber (some level) :=
    not_lt.mp fun above => none_above _ above (bound e mem)
  have found {level : Severity} (some_ : 0 < severityCount t level) : ∃ e ∈ activeEntries t, some level = some e.code.severity := by
    obtain ⟨e, mem, severity⟩ := (severityCount_pos_iff t level).mp some_
    exact ⟨e, mem, severity ▸ rfl⟩
  unfold faultLevel
  split_ifs with critical major minor note
  · refine ⟨least fun severity above => ?_, .inr (found critical)⟩
    cases severity <;> simp [Severity.number] at above
  · refine ⟨least fun severity above => ?_, .inr (found major)⟩
    cases severity <;> simp [Severity.number] at above
    exact critical
  · refine ⟨least fun severity above => ?_, .inr (found minor)⟩
    cases severity <;> simp [Severity.number] at above
    exacts [major, critical]
  · refine ⟨least fun severity above => ?_, .inr (found note)⟩
    cases severity <;> simp [Severity.number] at above
    exacts [minor, major, critical]
  · have quiet (e : FaultEntry) (mem : e ∈ activeEntries t) : False := by
      have := bound e mem
      cases severity : e.code.severity <;> rw [severity] at this
      exacts [note this, minor this, major this, critical this]
    exact ⟨fun e mem => (quiet e mem).elim, .inl ⟨List.eq_nil_iff_forall_not_mem.mpr quiet, rfl⟩⟩

theorem levelNumber_small (level : Option Severity) : levelNumber level < 2 ^ 8 := by
  rcases level with _ | _ | _ | _ | _ <;> decide

/-! ### The payload byte by byte (R145, R199) -/

theorem operatorBytes_length (o : OperatorRecord) : (operatorBytes o).length = 5 := rfl
theorem summaryBytes_length (e : FaultEntry) : (summaryBytes e).length = 4 := rfl

theorem State.beaconPayload_length (s : State) :
    s.beaconPayload.length = 14 + 5 * s.announcedOperators.length + 4 * s.summarised.length := by
  unfold State.beaconPayload
  rw [List.length_append, List.length_append, flatMap_length operatorBytes_length, flatMap_length summaryBytes_length]
  rfl

/-- The fourteen bytes before the operator records. -/
def State.beaconHead (s : State) : List Byte :=
  let t := s.supervisor.table
  [byteOf 1, byteOf s.ctl.node.number, byteOf s.ctl.cause.number] ++ bytes16 s.epochInterval ++
    [byteOrAbsent s.alloc.beff, s.beaconFlags, byteOf (levelNumber (faultLevel t)),
     byteOf (severityCount t .note), byteOf (severityCount t .minor), byteOf (severityCount t .major),
     byteOf (severityCount t .critical),
     byteOf s.announcedOperators.length, byteOf s.summarised.length]

theorem State.beaconPayload_eq (s : State) : s.beaconPayload =
    s.beaconHead ++ s.announcedOperators.flatMap operatorBytes ++ s.summarised.flatMap summaryBytes := rfl

theorem State.beaconPayload_head (s : State) {i : Nat} (low : i < 14) : byteAt s.beaconPayload i = byteAt s.beaconHead i := by
  rw [State.beaconPayload_eq, List.append_assoc, byteAt_append_left (by exact low)]

theorem State.beaconPayload_operator (s : State) {k j : Nat} {o : OperatorRecord} (there : s.announcedOperators[k]? = some o)
    (within : j < 5) : byteAt s.beaconPayload (14 + (5 * k + j)) = byteAt (operatorBytes o) j := by
  have size : (s.announcedOperators.flatMap operatorBytes).length = 5 * s.announcedOperators.length := flatMap_length operatorBytes_length _
  have inside := (List.getElem?_eq_some_iff.mp there).1
  rw [State.beaconPayload_eq, List.append_assoc, byteAt_append_right (n := 14) rfl, byteAt_append_left (by omega),
    byteAt_flatMap operatorBytes_length there within]

theorem State.beaconPayload_summary (s : State) {k j : Nat} {e : FaultEntry} (there : s.summarised[k]? = some e) (within : j < 4) :
    byteAt s.beaconPayload (14 + 5 * s.announcedOperators.length + (4 * k + j)) = byteAt (summaryBytes e) j := by
  have size : (s.beaconHead ++ s.announcedOperators.flatMap operatorBytes).length = 14 + 5 * s.announcedOperators.length := by
    rw [List.length_append, flatMap_length operatorBytes_length]; rfl
  rw [State.beaconPayload_eq, byteAt_append_right size, byteAt_flatMap summaryBytes_length there within]

theorem State.beaconPayload_shape (s : State) (few : s.announcedOperators.length ≤ 8) : beaconShape 63#8 s.beaconPayload = true := by
  have summaries := s.summarised_length
  have operators : (byteAt s.beaconPayload 12).toNat = s.announcedOperators.length := by
    rw [s.beaconPayload_head (by decide)]
    show (byteOf s.announcedOperators.length).toNat = _
    rw [byteOf, BitVec.toNat_ofNat]; omega
  have carried : (byteAt s.beaconPayload 13).toNat = s.summarised.length := by
    rw [s.beaconPayload_head (by decide)]
    show (byteOf s.summarised.length).toNat = _
    rw [byteOf, BitVec.toNat_ofNat]; omega
  unfold beaconShape
  rw [operators, carried, s.beaconPayload_length]
  simp [few, summaries]

/-- Settles O14: the layout, read back check by check; the beacon byte by byte; the insertion order with the positions kept. -/
theorem sentFramesAreReceivedAsSent : Obligations.SentFramesAreReceivedAsSent := by
  refine ⟨fun _ _ _ _ _ is notZero notAll fits shape => receivedFrame_frameBytes is notZero notAll fits shape,
    fun s id own low high few => ?_, fun s => ?_, fun s floor held => s.summarised_chosen held⟩
  · have frame : s.beaconFrame = frameBytes 1#8 (byteOf id) 63#8 s.beaconPayload := by
      rw [State.beaconFrame, State.ownIdByte, own]; rfl
    have size := s.beaconPayload_length
    have summaries := s.summarised_length
    have value : (byteOf id).toNat = id := by rw [byteOf, BitVec.toNat_ofNat]; omega
    have other {n : Nat} (differs : id ≠ n) (small : n < 256) : byteOf id ≠ BitVec.ofNat 8 n := by
      rw [Ne, ← byte_toNat_eq_iff _ small, value]; exact differs
    rw [frame, frameBytes_length]
    refine ⟨receivedFrame_frameBytes rfl (other (by omega) (by decide)) (other (by omega) (by decide)) (by omega) fun _ =>
      s.beaconPayload_shape few, by omega, by omega⟩
  · intro at' active m
    have head {i : Nat} (low : i < 14) : at' i = byteAt s.beaconHead i := s.beaconPayload_head low
    obtain ⟨bound, level⟩ := faultLevel_spec s.supervisor.table
    have flags (i : Nat) : (at' 6).getLsbD i = [s.supervisor.overflow, decide (0 < s.alloc.derating), s.alloc.down].getD i false := by
      rw [head (by decide)]
      exact flagByte_bit (by simp) i
    have at7 : at' 7 = byteOf (levelNumber (faultLevel s.supervisor.table)) := head (by decide)
    refine ⟨s.beaconPayload_length, head (by decide), head (by decide), head (by decide), ?_, head (by decide), flags 0, flags 1, flags 2,
      fun i above => ?_, fun e mem => ?_, ?_, fun severity => ?_, head (by decide), head (by decide), fun none_ => ?_, fun r held => ?_,
      fun k o there => ?_, fun k e there => ?_⟩
    · rw [head (by decide), head (by decide)]
      show bytes16 s.epochInterval = _
      rw [State.epochInterval]
      simp only [State.inRun, beq_iff_eq]
    · rw [flags, List.getD_eq_default _ _ (by simpa using above)]
    · rw [at7, byteOf, BitVec.toNat_ofNat, Nat.mod_eq_of_lt (levelNumber_small _)]
      exact bound e mem
    · rw [at7]
      obtain ⟨none_, is⟩ | ⟨e, mem, is⟩ := level
      · exact .inl ⟨none_, by rw [is]; rfl⟩
      · exact .inr ⟨e, mem, by rw [is]; rfl⟩
    · rw [← List.countP_eq_length_filter]
      cases severity <;> exact head (by decide)
    · show s.announcedOperators.length = 0
      rw [State.announcedOperators, none_]; rfl
    · rw [State.announcedOperators, held]
    · have byte {j : Nat} (within : j < 5) : at' (14 + j + 5 * k) = byteAt (operatorBytes o) j := by
        rw [← s.beaconPayload_operator there within]; exact congrArg (byteAt s.beaconPayload) (by ring)
      have flag : flagByte [o.constrained] = if o.constrained then 1#8 else 0#8 := by cases o.constrained <;> rfl
      rw [← flag, byte (j := 0) (by decide), byte (j := 1) (by decide), byte (j := 2) (by decide), byte (j := 3) (by decide),
        byte (j := 4) (by decide)]
      rfl
    · have byte {j : Nat} (within : j < 4) : at' (14 + j + 5 * m + 4 * k) = byteAt (summaryBytes e) j := by
        rw [← s.beaconPayload_summary there within]; exact congrArg (byteAt s.beaconPayload) (by ring)
      rw [Nat.mul_comm 16, byte (j := 0) (by decide), byte (j := 1) (by decide), byte (j := 2) (by decide), byte (j := 3) (by decide)]
      rfl

end Sys2Proof.Machine
end

section
/-! PROOFS. The judgement of an image (R185 to R187), and O7. -/

namespace Sys2Proof.Machine

/-! ### The listed ids (R186, R201) -/

theorem supervisorIds_eq (image : List Byte) :
    supervisorIds image = [imageByte image 8, imageByte image 9].take (imageByte image 7) := by
  rw [supervisorIds, List.map_take]; rfl

theorem adjacentIds_eq (image : List Byte) :
    adjacentIds image = [imageByte image 11, imageByte image 12, imageByte image 13, imageByte image 14, imageByte image 15,
      imageByte image 16, imageByte image 17, imageByte image 18].take (imageByte image 10) := by
  rw [adjacentIds, List.map_take]; rfl

theorem validId_iff (id : Nat) : validId id = true ↔ 1 ≤ id ∧ id ≤ 62 := by simp [validId]

theorem goodIds_iff (own : Nat) (others ids : List Nat) : goodIds own others ids = true ↔
    ids.Nodup ∧ ∀ id ∈ ids, (1 ≤ id ∧ id ≤ 62) ∧ id ≠ own ∧ id ∉ others := by
  induction ids with
  | nil => simp [goodIds]
  | cons id rest ih =>
    simp only [goodIds, Bool.and_eq_true, ih, validId_iff, bne_iff_ne, Bool.not_eq_true', List.contains_eq_mem, decide_eq_false_iff_not,
      List.nodup_cons, List.forall_mem_cons]
    tauto

/-- The structure passes: each check of R186. -/
theorem structureFailure_eq_none_iff (image : List Byte) : structureFailure image = none ↔
    validId (imageByte image 4) = true ∧
      (imageByte image 7 ≤ 2 ∧ goodIds (imageByte image 4) [] (supervisorIds image) = true) ∧
      (imageByte image 10 ≤ 8 ∧ goodIds (imageByte image 4) (supervisorIds image) (adjacentIds image) = true) ∧
      slotFailure image 8 0 = none := by
  unfold structureFailure
  simp only [Bool.or_eq_true, Bool.not_eq_true', decide_eq_true_eq]
  split_ifs with own supervisors adjacents
  · exact ⟨nofun, fun h => by simp [own] at h⟩
  · exact ⟨nofun, fun ⟨_, ⟨few, good⟩, _⟩ => by simp [good] at supervisors; omega⟩
  · exact ⟨nofun, fun ⟨_, _, ⟨few, good⟩, _⟩ => by simp [good] at adjacents; omega⟩
  · simp only [not_or, not_lt, Bool.not_eq_false] at own supervisors adjacents
    exact ⟨fun slots => ⟨own, supervisors, adjacents, slots⟩, fun h => h.2.2.2⟩

/-- The image judged usable: the checks passed, and what is held is the judged image. -/
theorem judgeRead_usable {bytes : List Byte} {im : Image} (usable : (judgeRead bytes).held = .usable im) :
    structureFailure bytes = none ∧ im = (judgeImage bytes).1 ∧ (judgeRead bytes).clamped = (judgeImage bytes).2 := by
  unfold judgeRead at usable ⊢
  split at usable
  · cases usable
  next framed =>
    split at usable
    · cases usable
    next passes =>
      cases usable
      exact ⟨passes, rfl, rfl⟩

/-! ### The judged fields (R187) -/

theorem judge_value {lo hi : Nat} (range : lo ≤ hi) (v : Nat) : (judge lo hi v).value = max lo (min hi v) := by
  simp only [judge, clampNat]; omega

theorem judge_clamped_iff (lo hi v : Nat) : (judge lo hi v).clamped = true ↔ (judge lo hi v).value ≠ v := by simp [judge]

theorem judgeOr_value {lo hi : Nat} (range : lo ≤ hi) (code dflt v : Nat) :
    (judgeOr lo hi code dflt v).value = if v = code then dflt else max lo (min hi v) := by
  unfold judgeOr
  split
  · rfl
  · exact judge_value range v

theorem judgeOr_clamped_iff (lo hi code dflt v : Nat) :
    (judgeOr lo hi code dflt v).clamped = true ↔ v ≠ code ∧ (judgeOr lo hi code dflt v).value ≠ v := by
  unfold judgeOr
  split <;> simp_all [judge]

theorem judgeInt_value {lo hi : Int} (range : lo ≤ hi) (v : Int) : (judgeInt lo hi v).value = max lo (min hi v) := by
  simp only [judgeInt, clampInt]; omega

theorem judgeInt_clamped_iff (lo hi v : Int) : (judgeInt lo hi v).clamped = true ↔ (judgeInt lo hi v).value ≠ v := by simp [judgeInt]

theorem judgeSmin_value (v : Int) : (judgeSmin v).value = if v = -128 then -40 else max (-80) (min 0 v) := by
  unfold judgeSmin
  split
  · rfl
  · exact judgeInt_value (by decide) v

theorem judgeSmin_clamped_iff (v : Int) : (judgeSmin v).clamped = true ↔ v ≠ -128 ∧ (judgeSmin v).value ≠ v := by
  unfold judgeSmin
  split <;> simp_all [judgeInt]

theorem judgeFill_value (smax v : Nat) : (judgeFill smax v).value = min (if v = 255 then 12 else min 24 v) (36 - smax) := by
  show min (judgeOr 0 24 255 12 v).value (36 - smax) = _
  rw [judgeOr_value (by decide)]
  simp

/-- With Smax in its range the default of F is never lowered. -/
theorem judgeFill_clamped_iff {smax : Nat} (small : smax ≤ 24) (v : Nat) :
    (judgeFill smax v).clamped = true ↔ v ≠ 255 ∧ (judgeFill smax v).value ≠ v := by
  have lowered : (judgeFill smax v).clamped = true ↔ (judgeOr 0 24 255 12 v).clamped = true ∨
      (judgeFill smax v).value ≠ (judgeOr 0 24 255 12 v).value := by simp [judgeFill]
  rw [lowered, judgeOr_clamped_iff, judgeFill_value, judgeOr_value (by decide)]
  split <;> omega

theorem startModeOf_number {v : Nat} (range : v ≤ 3) : (startModeOf v).number = v := by
  interval_cases v <;> rfl

theorem reportFloorOf_number {v : Nat} (low : 1 ≤ v) (high : v ≤ 4) : (reportFloorOf v).number = v := by
  interval_cases v <;> rfl

/-! ### The clamped fields named -/

/-- The indices marked in a list of them. -/
def marked (fields : List (Nat × Bool)) : List Nat := fields.filterMap fun (index, clamped) => if clamped then some index else none

theorem mem_marked {fields : List (Nat × Bool)} {index : Nat} : index ∈ marked fields ↔ (index, true) ∈ fields := by
  simp only [marked, List.mem_filterMap]
  constructor
  · rintro ⟨⟨i, clamped⟩, mem, is⟩
    cases clamped
    · cases is
    · cases is; exact mem
  · exact fun mem => ⟨_, mem, rfl⟩

theorem marked_sublist (fields : List (Nat × Bool)) : (marked fields).Sublist (fields.map Prod.fst) := by
  induction fields with
  | nil => exact .slnil
  | cons field rest ih =>
    obtain ⟨index, clamped⟩ := field
    cases clamped
    · exact ih.cons _
    · exact ih.cons_cons _

theorem marked_ascending {fields : List (Nat × Bool)} (ascending : (fields.map Prod.fst).Pairwise (· < ·)) : (marked fields).Pairwise (· < ·) :=
  ascending.sublist (marked_sublist fields)

/-- The fields before the slot records. -/
def plainFields (image : List Byte) : List (Nat × Bool) :=
  let smax := judgeOr 0 24 255 12 (imageByte image 23)
  let band (k : Nat) := judgeInt (-16) 16 (imageSigned image (29 + k))
  [(4, (judgeOr 50 1000 65535 100 (imageWord image 5)).clamped), (7, (judge 0 143 (imageByte image 19)).clamped),
    (8, (judge 0 3 (imageByte image 20)).clamped), (9, (judgeOr 10 250 255 50 (imageByte image 21)).clamped),
    (10, (judgeSmin (imageSigned image 22)).clamped), (11, smax.clamped), (12, (judgeFill smax.value (imageByte image 24)).clamped),
    (13, (judgeOr 1 4 255 2 (imageByte image 25)).clamped), (14, (judgeOr 0 1023 65535 200 (imageWord image 26)).clamped),
    (15, (judgeOr 8 160 255 40 (imageByte image 28)).clamped),
    (16, (band 0).clamped), (17, (band 1).clamped), (18, (band 2).clamped), (19, (band 3).clamped)]

theorem judgeImage_clamped (image : List Byte) :
    (judgeImage image).2 = marked (plainFields image) ++ (List.range 8).flatMap fun k => (judgeSlot image k).2 := rfl

/-- The fields of one slot record. -/
def slotFields (image : List Byte) (k : Nat) : List (Nat × Bool) :=
  let floor := judge 0 143 (imageByte image (37 + 8 * k))
  let ceiling := judge 0 143 (imageByte image (38 + 8 * k))
  [(32 + 8 * k + 1, (judge 1 15 (imageByte image (34 + 8 * k))).clamped), (32 + 8 * k + 2, (judge 0 3 (imageByte image (35 + 8 * k))).clamped),
    (32 + 8 * k + 3, (judge floor.value ceiling.value (imageByte image (36 + 8 * k))).clamped), (32 + 8 * k + 4, floor.clamped),
    (32 + 8 * k + 5, ceiling.clamped), (32 + 8 * k + 6, (judge 0 1023 (imageWord image (39 + 8 * k))).clamped)]

theorem judgeSlot_of_absent {image : List Byte} {k : Nat} (absent : slotPresent image k = false) : judgeSlot image k = (none, []) := by
  rw [judgeSlot, absent]; rfl

theorem judgeSlot_of_present {image : List Byte} {k : Nat} (present : slotPresent image k = true) :
    (judgeSlot image k).1 = some ⟨(judge 1 15 (imageByte image (34 + 8 * k))).value, (judge 0 3 (imageByte image (35 + 8 * k))).value,
      (judge (judge 0 143 (imageByte image (37 + 8 * k))).value (judge 0 143 (imageByte image (38 + 8 * k))).value
        (imageByte image (36 + 8 * k))).value,
      (judge 0 143 (imageByte image (37 + 8 * k))).value, (judge 0 143 (imageByte image (38 + 8 * k))).value,
      (judge 0 1023 (imageWord image (39 + 8 * k))).value⟩ ∧ (judgeSlot image k).2 = marked (slotFields image k) := by
  rw [judgeSlot, present]; exact ⟨rfl, rfl⟩

/-- The indices of a slot's fields. -/
theorem judgeSlot_index {image : List Byte} {k index : Nat} (mem : index ∈ (judgeSlot image k).2) :
    slotPresent image k = true ∧ 33 + 8 * k ≤ index ∧ index ≤ 38 + 8 * k := by
  cases present : slotPresent image k with
  | false => rw [judgeSlot_of_absent present] at mem; cases mem
  | true =>
    rw [(judgeSlot_of_present present).2] at mem
    have named := List.mem_map_of_mem (f := Prod.fst) (mem_marked.mp mem)
    simp [slotFields] at named
    exact ⟨rfl, by omega, by omega⟩

theorem judgeSlot_ascending (image : List Byte) (k : Nat) : (judgeSlot image k).2.Pairwise (· < ·) := by
  cases present : slotPresent image k with
  | false => rw [judgeSlot_of_absent present]; exact .nil
  | true =>
    rw [(judgeSlot_of_present present).2]
    exact marked_ascending (by simp [slotFields])

theorem plainFields_index {image : List Byte} {index : Nat} (mem : index ∈ marked (plainFields image)) :
    index = 4 ∨ (7 ≤ index ∧ index ≤ 19) := by
  have named := List.mem_map_of_mem (f := Prod.fst) (mem_marked.mp mem)
  simp [plainFields] at named
  omega

theorem judgeImage_ascending (image : List Byte) : (judgeImage image).2.Pairwise (· < ·) := by
  rw [judgeImage_clamped, List.pairwise_append]
  refine ⟨marked_ascending (by simp [plainFields]), ?_, fun a plain b slot => ?_⟩
  · rw [List.pairwise_flatMap]
    refine ⟨fun k _ => judgeSlot_ascending image k, List.pairwise_lt_range.imp fun {j k} low a ha b hb => ?_⟩
    have := judgeSlot_index ha
    have := judgeSlot_index hb
    omega
  · obtain ⟨k, -, mem⟩ := List.mem_flatMap.mp slot
    have := plainFields_index plain
    have := judgeSlot_index mem
    omega

/-- A field before the slot records is clamped where its mark is set. -/
theorem plain_mem_iff {image : List Byte} {index : Nat} (plain : index ≤ 19) :
    index ∈ (judgeImage image).2 ↔ (index, true) ∈ plainFields image := by
  rw [judgeImage_clamped, List.mem_append, mem_marked]
  refine or_iff_left fun slot => ?_
  obtain ⟨k, -, mem⟩ := List.mem_flatMap.mp slot
  have := judgeSlot_index mem
  omega

/-- A field of a present slot is clamped where its mark is set. -/
theorem slot_mem_iff {image : List Byte} (i : Fin 8) (present : slotPresent image i.val = true) {index : Nat} (low : 33 + 8 * i.val ≤ index)
    (high : index ≤ 38 + 8 * i.val) : index ∈ (judgeImage image).2 ↔ (index, true) ∈ slotFields image i.val := by
  rw [judgeImage_clamped, List.mem_append, List.mem_flatMap, ← mem_marked, ← (judgeSlot_of_present present).2]
  constructor
  · rintro (plain | ⟨k, -, mem⟩)
    · have := plainFields_index plain
      omega
    · have := judgeSlot_index mem
      obtain rfl : k = i.val := by omega
      exact mem
  · exact fun mem => .inr ⟨i.val, List.mem_range.mpr i.isLt, mem⟩

end Sys2Proof.Machine
end

section
/-! PROOFS. O7: the fields of a usable image. -/

namespace Sys2Proof.Machine

variable {bytes : List Byte}

/-- A slot of the judged image is one that is present, with its fields judged. -/
theorem judgeImage_slot (i : Fin 8) : (judgeImage bytes).1.slots[i] = (judgeSlot bytes i.val).1 :=
  tab_getElem (fun k : Fin 8 => (judgeSlot bytes k.val).1) i

theorem judgeImage_slot_none_iff (i : Fin 8) : (judgeImage bytes).1.slots[i] = none ↔ imageByte bytes (33 + 8 * i.val) ≠ 1 := by
  rw [judgeImage_slot]
  cases present : slotPresent bytes i.val with
  | false => rw [judgeSlot_of_absent present]; simpa [slotPresent] using present
  | true => rw [(judgeSlot_of_present present).1]; simpa [slotPresent] using present

theorem judgeImage_band (i : Fin 4) : (judgeImage bytes).1.bandOffsets[i] = (judgeInt (-16) 16 (imageSigned bytes (29 + i.val))).value :=
  tab_getElem (fun k : Fin 4 => (judgeInt (-16) 16 (imageSigned bytes (29 + k.val))).value) i

theorem slotPresent_of_some {i : Fin 8} {c : SlotConfig} (held : (judgeImage bytes).1.slots[i] = some c) : slotPresent bytes i.val = true := by
  by_contra absent
  rw [judgeImage_slot, judgeSlot_of_absent (by simpa using absent)] at held
  cases held

/-- The fields of a present slot, as read and brought into their ranges (R187). -/
theorem judgeImage_slot_fields {i : Fin 8} {c : SlotConfig} (held : (judgeImage bytes).1.slots[i] = some c)
    (named : imageByte bytes (34 + 8 * i.val) ≠ 0) :
    c.operator = min 15 (imageByte bytes (34 + 8 * i.val)) ∧ c.band = min 3 (imageByte bytes (35 + 8 * i.val)) ∧
      c.request = min c.ceiling (max c.floor (imageByte bytes (36 + 8 * i.val))) ∧ c.floor = min 143 (imageByte bytes (37 + 8 * i.val)) ∧
      c.ceiling = min 143 (imageByte bytes (38 + 8 * i.val)) ∧ c.threshold = min 1023 (imageWord bytes (39 + 8 * i.val)) := by
  have present := slotPresent_of_some held
  rw [judgeImage_slot, (judgeSlot_of_present present).1] at held
  cases held
  exact ⟨(judge_value (by decide) _).trans (by omega), (judge_value (by decide) _).trans (by omega), rfl,
    (judge_value (by decide) _).trans (by omega), (judge_value (by decide) _).trans (by omega), (judge_value (by decide) _).trans (by omega)⟩

/-- The clamped fields of a present slot are those that are not as read. -/
theorem judgeImage_slot_clamped {i : Fin 8} {c : SlotConfig} (held : (judgeImage bytes).1.slots[i] = some c) :
    let clamped := (judgeImage bytes).2
    (33 + 8 * i.val ∈ clamped ↔ c.operator ≠ imageByte bytes (34 + 8 * i.val)) ∧
      (34 + 8 * i.val ∈ clamped ↔ c.band ≠ imageByte bytes (35 + 8 * i.val)) ∧
      (35 + 8 * i.val ∈ clamped ↔ c.request ≠ imageByte bytes (36 + 8 * i.val)) ∧
      (36 + 8 * i.val ∈ clamped ↔ c.floor ≠ imageByte bytes (37 + 8 * i.val)) ∧
      (37 + 8 * i.val ∈ clamped ↔ c.ceiling ≠ imageByte bytes (38 + 8 * i.val)) ∧
      (38 + 8 * i.val ∈ clamped ↔ c.threshold ≠ imageWord bytes (39 + 8 * i.val)) := by
  have present := slotPresent_of_some held
  rw [judgeImage_slot, (judgeSlot_of_present present).1] at held
  cases held
  have field {index : Nat} (j : Nat) (is : index = 32 + 8 * i.val + j) (inside : 1 ≤ j ∧ j ≤ 6) :
      index ∈ (judgeImage bytes).2 ↔ (32 + 8 * i.val + j, true) ∈ slotFields bytes i.val := by
    rw [is]; exact slot_mem_iff i present (by omega) (by omega)
  refine ⟨(field 1 (by omega) (by decide)).trans ?_, (field 2 (by omega) (by decide)).trans ?_, (field 3 (by omega) (by decide)).trans ?_,
    (field 4 (by omega) (by decide)).trans ?_, (field 5 (by omega) (by decide)).trans ?_, (field 6 (by omega) (by decide)).trans ?_⟩
  all_goals rw [← judge_clamped_iff]; simp [slotFields]

/-- The fields before the slot records, as read, by default or brought into their ranges (R187). -/
theorem judgeImage_plain (bytes : List Byte) :
    let im := (judgeImage bytes).1
    let b := imageByte bytes
    let w := imageWord bytes
    let signed := imageSigned bytes
    im.period = (if w 5 = 65535 then 100 else max 50 (min 1000 (w 5))) ∧ im.budget = min 143 (b 19) ∧
      im.startMode.number = min 3 (b 20) ∧ im.deadBand = (if b 21 = 255 then 50 else max 10 (min 250 (b 21))) ∧
      im.smin = (if signed 22 = -128 then -40 else max (-80) (min 0 (signed 22))) ∧
      im.smax = (if b 23 = 255 then 12 else min 24 (b 23)) ∧
      im.fill = min (if b 24 = 255 then 12 else min 24 (b 24)) (36 - im.smax) ∧
      im.reportFloor.number = (if b 25 = 255 then 2 else max 1 (min 4 (b 25))) ∧
      im.fwdMin = (if w 26 = 65535 then 200 else min 1023 (w 26)) ∧
      im.rlThreshold = (if b 28 = 255 then 40 else max 8 (min 160 (b 28))) ∧
      (∀ i : Fin 4, im.bandOffsets[i] = max (-16) (min 16 (signed (29 + i.val)))) := by
  intro im b w signed
  have mode : im.startMode.number = (judge 0 3 (b 20)).value := startModeOf_number (judge_bounds 0 3 _ (by decide)).2
  have floor := judgeOr_value (show 1 ≤ 4 by decide) 255 2 (b 25)
  have floorRange : 1 ≤ (judgeOr 1 4 255 2 (b 25)).value ∧ (judgeOr 1 4 255 2 (b 25)).value ≤ 4 := by
    rw [floor]; split <;> omega
  refine ⟨judgeOr_value (by decide) .., (judge_value (by decide) _).trans (Nat.zero_max _), mode.trans ((judge_value (by decide) _).trans (Nat.zero_max _)),
    judgeOr_value (by decide) .., judgeSmin_value _, ?_, judgeFill_value _ _,
    (reportFloorOf_number floorRange.1 floorRange.2).trans floor, ?_, judgeOr_value (by decide) .., fun i => ?_⟩
  · exact (judgeOr_value (by decide) ..).trans (by rw [Nat.zero_max])
  · exact (judgeOr_value (by decide) ..).trans (by rw [Nat.zero_max])
  · rw [judgeImage_band]; exact judgeInt_value (by decide) _

/-- The clamped fields before the slot records are those that are not as read and not by default. -/
theorem judgeImage_plain_clamped (bytes : List Byte) :
    let im := (judgeImage bytes).1
    let clamped := (judgeImage bytes).2
    let b := imageByte bytes
    let w := imageWord bytes
    let signed := imageSigned bytes
    (4 ∈ clamped ↔ w 5 ≠ 65535 ∧ im.period ≠ w 5) ∧ (7 ∈ clamped ↔ im.budget ≠ b 19) ∧
      (8 ∈ clamped ↔ im.startMode.number ≠ b 20) ∧ (9 ∈ clamped ↔ b 21 ≠ 255 ∧ im.deadBand ≠ b 21) ∧
      (10 ∈ clamped ↔ signed 22 ≠ -128 ∧ im.smin ≠ signed 22) ∧ (11 ∈ clamped ↔ b 23 ≠ 255 ∧ im.smax ≠ b 23) ∧
      (12 ∈ clamped ↔ b 24 ≠ 255 ∧ im.fill ≠ b 24) ∧ (13 ∈ clamped ↔ b 25 ≠ 255 ∧ im.reportFloor.number ≠ b 25) ∧
      (14 ∈ clamped ↔ w 26 ≠ 65535 ∧ im.fwdMin ≠ w 26) ∧ (15 ∈ clamped ↔ b 28 ≠ 255 ∧ im.rlThreshold ≠ b 28) ∧
      (∀ i : Fin 4, 16 + i.val ∈ clamped ↔ im.bandOffsets[i] ≠ signed (29 + i.val)) := by
  intro im clamped b w signed
  obtain ⟨-, -, mode, -, -, smax, -, floor, -⟩ := judgeImage_plain bytes
  have smallMax : (judgeOr 0 24 255 12 (b 23)).value ≤ 24 := by rw [judgeOr_value (by decide)]; split <;> omega
  have modeEq : im.startMode.number = (judge 0 3 (b 20)).value := mode.trans (by rw [judge_value (by decide)]; exact (Nat.zero_max _).symm)
  have floorEq : im.reportFloor.number = (judgeOr 1 4 255 2 (b 25)).value := floor.trans (judgeOr_value (by decide) ..).symm
  have field {index : Nat} (plain : index ≤ 19) {mark : Bool} (is : (index, true) ∈ plainFields bytes ↔ mark = true) :
      index ∈ clamped ↔ mark = true := (plain_mem_iff plain).trans is
  refine ⟨?_, ?_, ?_, ?_, ?_, ?_, ?_, ?_, ?_, ?_, fun i => ?_⟩
  · exact (field (by decide) (by simp [plainFields, w])).trans (judgeOr_clamped_iff ..)
  · exact (field (by decide) (by simp [plainFields])).trans (judge_clamped_iff ..)
  · rw [modeEq]; exact (field (by decide) (by simp [plainFields, b])).trans (judge_clamped_iff ..)
  · exact (field (by decide) (by simp [plainFields, b])).trans (judgeOr_clamped_iff ..)
  · exact (field (by decide) (by simp [plainFields, signed])).trans (judgeSmin_clamped_iff ..)
  · exact (field (by decide) (by simp [plainFields, b])).trans (judgeOr_clamped_iff ..)
  · exact (field (by decide) (by simp [plainFields, b])).trans (judgeFill_clamped_iff smallMax _)
  · rw [floorEq]; exact (field (by decide) (by simp [plainFields, b])).trans (judgeOr_clamped_iff ..)
  · exact (field (by decide) (by simp [plainFields, w])).trans (judgeOr_clamped_iff ..)
  · exact (field (by decide) (by simp [plainFields, b])).trans (judgeOr_clamped_iff ..)
  · rw [judgeImage_band]
    refine (field (by omega) ?_).trans (judgeInt_clamped_iff ..)
    fin_cases i <;> simp [plainFields]

/-- What the structure checks leave of the ids (R186). -/
theorem judged_ids {image : List Byte} (passes : structureFailure image = none) :
    (1 ≤ imageByte image 4 ∧ imageByte image 4 ≤ 62) ∧ (supervisorIds image).length ≤ 2 ∧ (adjacentIds image).length ≤ 8 ∧
      (imageByte image 4 :: supervisorIds image ++ adjacentIds image).Nodup ∧
      ∀ id ∈ supervisorIds image ++ adjacentIds image, 1 ≤ id ∧ id ≤ 62 := by
  obtain ⟨own, ⟨-, supervisors⟩, ⟨-, adjacents⟩, -⟩ := (structureFailure_eq_none_iff image).mp passes
  rw [goodIds_iff] at supervisors adjacents
  obtain ⟨once, supervisors⟩ := supervisors
  obtain ⟨once', adjacents⟩ := adjacents
  refine ⟨(validId_iff _).mp own, by simp [supervisorIds], by simp [adjacentIds], ?_, fun id mem => ?_⟩
  · rw [List.cons_append, List.nodup_cons, List.mem_append, List.nodup_append]
    refine ⟨?_, once, once', fun a mem b mem' same => (adjacents b mem').2.2 (same ▸ mem)⟩
    rintro (mem | mem)
    exacts [(supervisors _ mem).2.1 rfl, (adjacents _ mem).2.1 rfl]
  · obtain mem | mem := List.mem_append.mp mem
    exacts [(supervisors id mem).1, (adjacents id mem).1]

/-- The judged fields lie in their ranges (R184, R187). -/
theorem judgeImage_ranges (bytes : List Byte) :
    let im := (judgeImage bytes).1
    (imageWord bytes 5 = 65535 → im.period = 100) ∧ (50 ≤ imageWord bytes 5 ∧ imageWord bytes 5 ≤ 1000 → im.period = imageWord bytes 5) ∧
      50 ≤ im.period ∧ im.period ≤ 1000 ∧ im.budget ≤ 143 ∧ 10 ≤ im.deadBand ∧ im.deadBand ≤ 250 ∧ -80 ≤ im.smin ∧ im.smin ≤ 0 ∧
      im.smax ≤ 24 ∧ im.fill ≤ 24 ∧ im.smax + im.fill ≤ 36 ∧ im.fwdMin ≤ 1023 ∧ 8 ≤ im.rlThreshold ∧ im.rlThreshold ≤ 160 ∧
      ∀ i : Fin 4, -16 ≤ im.bandOffsets[i] ∧ im.bandOffsets[i] ≤ 16 := by
  obtain ⟨period, budget, -, deadBand, smin, smax, fill, -, fwdMin, rl, bands⟩ := judgeImage_plain bytes
  intro im
  change im.fill = min _ (36 - im.smax) at fill
  refine ⟨fun byDefault => period.trans (if_pos byDefault), fun inside => ?_, ?_⟩
  · rw [period, if_neg (by omega)]; omega
  · have period : 50 ≤ im.period ∧ im.period ≤ 1000 := by rw [period]; split <;> omega
    have deadBand : 10 ≤ im.deadBand ∧ im.deadBand ≤ 250 := by rw [deadBand]; split <;> omega
    have smin : -80 ≤ im.smin ∧ im.smin ≤ 0 := by rw [smin]; split <;> omega
    have smax : im.smax ≤ 24 := by rw [smax]; split <;> omega
    have fill : im.fill ≤ 24 ∧ im.fill ≤ 36 - im.smax := by rw [fill]; split <;> omega
    have rl : 8 ≤ im.rlThreshold ∧ im.rlThreshold ≤ 160 := by rw [rl]; split <;> omega
    refine ⟨period.1, period.2, by rw [budget]; exact min_le_left _ _, deadBand.1, deadBand.2, smin.1, smin.2, smax, fill.1, by omega,
      ?_, rl.1, rl.2, fun i => by rw [bands]; omega⟩
    rw [fwdMin]; split <;> omega

/-- The fields of a present slot lie in their ranges (R187). -/
theorem judgeImage_slot_ranges {i : Fin 8} {c : SlotConfig} (held : (judgeImage bytes).1.slots[i] = some c)
    (named : imageByte bytes (34 + 8 * i.val) ≠ 0) (order : imageByte bytes (37 + 8 * i.val) ≤ imageByte bytes (38 + 8 * i.val)) :
    1 ≤ c.operator ∧ c.operator ≤ 15 ∧ c.band ≤ 3 ∧ c.floor ≤ c.request ∧ c.request ≤ c.ceiling ∧ c.ceiling ≤ 143 ∧ c.threshold ≤ 1023 := by
  obtain ⟨operator, band, request, floor, ceiling, threshold⟩ := judgeImage_slot_fields held named
  clear held
  omega

/-- Settles O7: the checks give the ids, and each field is its judgement. -/
theorem usableImageIsInRange : Obligations.UsableImageIsInRange := by
  intro bytes im usable
  obtain ⟨passes, rfl, clamped⟩ := judgeRead_usable usable
  rw [clamped]
  obtain ⟨own, fewSupervisors, fewAdjacents, once, ids⟩ := judged_ids passes
  obtain ⟨byDefault, asRead, lowP, highP, budget, lowDead, highDead, lowMin, highMin, smax, fill, allowance, fwdMin, lowRl, highRl, bands⟩ :=
    judgeImage_ranges bytes
  obtain ⟨c4, c7, c8, c9, c10, c11, c12, c13, c14, c15, cBands⟩ := judgeImage_plain_clamped bytes
  have slot {i : Fin 8} {c : SlotConfig} (held : (judgeImage bytes).1.slots[i] = some c) :=
    slotFailure_none (((structureFailure_eq_none_iff bytes).mp passes).2.2.2) (Nat.zero_le i.val) (by omega) (slotPresent_of_some held)
  have named : ∀ index ∈ (judgeImage bytes).2, index = 4 ∨ (7 ≤ index ∧ index ≤ 19) ∨
      ∃ i : Fin 8, (judgeImage bytes).1.slots[i] ≠ none ∧ 33 + 8 * i.val ≤ index ∧ index ≤ 38 + 8 * i.val := by
    intro index mem
    rw [judgeImage_clamped, List.mem_append] at mem
    obtain plain | slots := mem
    · exact (plainFields_index plain).imp_right .inl
    · obtain ⟨k, below, mem⟩ := List.mem_flatMap.mp slots
      obtain ⟨present, bounds⟩ := judgeSlot_index mem
      refine .inr (.inr ⟨⟨k, List.mem_range.mp below⟩, fun absent => ?_, bounds⟩)
      rw [judgeImage_slot, (judgeSlot_of_present present).1] at absent
      cases absent
  obtain ⟨period, budget', mode, deadBand, smin, smax', fill', floor, fwdMin', rl, bands'⟩ := judgeImage_plain bytes
  exact ⟨rfl, own.1, own.2, byDefault, asRead, lowP, highP, fewSupervisors, fewAdjacents, once, ids, budget, lowDead, highDead, lowMin, highMin,
    smax, fill, allowance, fwdMin, lowRl, highRl, bands, fun i c held => judgeImage_slot_ranges held (slot held).1 (slot held).2,
    supervisorIds_eq bytes, adjacentIds_eq bytes, period, budget', mode, deadBand, smin, smax', fill', floor, fwdMin', rl, bands',
    judgeImage_slot_none_iff, fun i c held => (by
      obtain ⟨operator, band, request, floor, ceiling, threshold⟩ := judgeImage_slot_fields held (slot held).1
      exact ⟨operator, band, request, floor, ceiling, threshold, judgeImage_slot_clamped held⟩),
    judgeImage_ascending bytes, c4, c7, c8, c9, c10, c11, c12, c13, c14, c15, cBands, named⟩

end Sys2Proof.Machine
end

section
/-! PROOFS. What a raise does outside RUN, and O8. -/

namespace Sys2Proof.Machine

/-! ### A raise outside RUN -/

/-- A change of the fault table outside RUN, where no recompute falls due: the carriers and the blocks beside keep their places. -/
structure State.StillStep (s t : State) : Prop where
  step : s.AllocStep t
  taken : t.alloc.recomputeDue = false
  ctl : t.ctl = s.ctl

namespace State.StillStep

variable {s t u : State}

theorem trans (h : s.StillStep t) (k : t.StillStep u) : s.StillStep u := ⟨h.step.trans k.step, k.taken, k.ctl.trans h.ctl⟩

theorem inRun (h : s.StillStep t) : t.inRun = s.inRun := by rw [State.inRun, h.ctl]; rfl

theorem raise (still : s.inRun = false) (taken : s.alloc.recomputeDue = false) {code : FaultCode} (mild : code.trips = false) (subject : Nat) :
    s.StillStep (s.raise code subject) ∧ s.raise code subject = s.raiseOnly code subject := by
  have step := State.AllocStep.raiseOnly s code subject
  have taken' : (s.raiseOnly code subject).alloc.recomputeDue = false := by
    by_contra due
    obtain due | run := step.due (by simpa using due)
    · cases taken.symm.trans due
    · cases still.symm.trans run
  have settles : s.raise code subject = s.raiseOnly code subject := State.settle_of_not_due _ taken'
  rw [settles]
  exact ⟨⟨step, taken', State.raiseOnly_ctl s mild subject⟩, rfl⟩

end State.StillStep

theorem State.stamp_outside {s : State} (still : s.inRun = false) : s.stamp = 0#32 := by rw [State.stamp, still]; rfl

/-- The table after the raise of what has no entry, with room. -/
theorem tableRaise_new {t : FaultTable} {code : FaultCode} {subject : Nat} {q : Fin 24} (absent : findEntry t code subject = none)
    (empty : firstEmpty t = some q) (stamp : EpochCount) :
    (tableRaise t code subject stamp).table = t.set q (some ⟨code, subject, .activeUnacked, stamp, stamp, 1, 3⟩) := by
  simp only [tableRaise, absent, empty]
  rfl

/-! ### The crash read's end (R191, R202) -/

/-- What the markers say of the region. -/
def markedRegion (marker : Byte) : RegionStatus :=
  if marker.getLsbD 0 = false then .foundTorn (!marker.getLsbD 1) else if marker.getLsbD 1 = false then .foundValid else .empty

theorem inProgressSet_iff (marker : Byte) : inProgressSet marker = true ↔ marker.getLsbD 0 = false := by simp [inProgressSet]
theorem validSet_iff (marker : Byte) : validSet marker = true ↔ marker.getLsbD 1 = false := by simp [validSet]

/-- The judgement of the markers: the region, and PRIOR_TRIP where a record was found. -/
theorem State.judgeMarkers_spec {s : State} (still : s.inRun = false) (taken : s.alloc.recomputeDue = false) :
    (s.setCtl { s.ctl with region := markedRegion (s.store.read 128) }).StillStep s.judgeMarkers ∧
      s.judgeMarkers.supervisor.table = (if (s.store.read 128).getLsbD 0 = false then
          (tableRaise s.supervisor.table .priorTrip 1 s.stamp).table
        else if (s.store.read 128).getLsbD 1 = false then (tableRaise s.supervisor.table .priorTrip 0 s.stamp).table
        else s.supervisor.table) := by
  have marker : s.marker = s.store.read 128 := rfl
  have raised (r : RegionStatus) (subject : Nat) := State.StillStep.raise (s := s.setCtl { s.ctl with region := r }) still taken
    (code := .priorTrip) rfl subject
  unfold State.judgeMarkers markedRegion
  simp only [inProgressSet_iff, validSet_iff, marker]
  split
  · obtain ⟨step, eq⟩ := raised (.foundTorn (validSet (s.store.read 128))) 1
    exact ⟨step, by rw [eq, State.raiseOnly_table]; rfl⟩
  · split
    · obtain ⟨step, eq⟩ := raised .foundValid 0
      exact ⟨step, by rw [eq, State.raiseOnly_table]; rfl⟩
    · exact ⟨⟨.of_sameAlloc (.refl _) rfl rfl rfl, taken, rfl⟩, rfl⟩

/-- The way out of LOAD leaves the table, the carriers and the blocks beside it alone, and switches the receiver on. -/
theorem State.leaveLoad_rest (s : State) : s.leaveLoad.port.receiver = true ∧ s.leaveLoad.store = s.store ∧
    s.leaveLoad.scanner = s.scanner ∧ s.leaveLoad.spread = s.spread ∧ s.leaveLoad.alloc = s.alloc ∧ s.leaveLoad.handler = s.handler ∧
    s.leaveLoad.draws = s.draws ∧ s.leaveLoad.supervisor = s.supervisor ∧
    s.leaveLoad.ctl.clock = s.ctl.clock ∧ s.leaveLoad.ctl.operation = s.ctl.operation ∧ s.leaveLoad.ctl.region = s.ctl.region := by
  unfold State.leaveLoad
  split <;> exact ⟨rfl, rfl, rfl, rfl, rfl, rfl, rfl, rfl, rfl, rfl, rfl⟩

theorem builtTable_getElem (image : Image) (p : Fin 16) : (builtTable image)[p] =
    (if p.val < 8 then image.adjacents[p.val]? else if p.val < 10 then image.supervisors[p.val - 8]? else none).map
      fun id => ⟨id, .absent, none⟩ := by
  rw [builtTable, tab_getElem]
  by_cases low : p.val < 8
  · simp [configuredId, pinnedKind, low]
  · by_cases pinned : p.val < 10 <;> simp [configuredId, pinnedKind, low, pinned]

/-- Settles O8: the markers judged with no operation in flight, then the way out of LOAD that the image held gives. -/
theorem crashReadLeavesLoad : Obligations.CrashReadLeavesLoad := by
  intro s op flight read load taken
  have still : s.inRun = false := by simp [State.inRun, load]
  obtain ⟨judged, table⟩ := State.judgeMarkers_spec (s := s.noOperation) still taken
  have ends : s.crashReadEnd = s.noOperation.judgeMarkers.leaveLoad := by rw [State.crashReadEnd, flight]; simp [read]
  have beside := judged.step.beside
  obtain ⟨receiver, store, scanner, spread, alloc, handler, draws, supervisor, clock, operation, region⟩ :=
    s.noOperation.judgeMarkers.leaveLoad_rest
  have image : s.noOperation.judgeMarkers.ctl.image = s.ctl.image := by rw [judged.ctl]; rfl
  have now : s.noOperation.judgeMarkers.ctl.clock = s.ctl.clock := by rw [judged.ctl]; rfl
  refine ⟨_, congrArg Host.Outcome.next ends, operation.trans (by rw [judged.ctl]; rfl), region.trans (by rw [judged.ctl]; rfl),
    fun im usable => ?_, fun id unusable => ?_, receiver, store.trans beside.store, scanner.trans beside.scanner,
    spread.trans judged.step.spread, (congrArg Alloc.slots alloc).trans judged.step.slots, handler.trans beside.handler,
    draws.trans beside.draws, clock.trans now, fun q none0 none1 empty => ?_⟩
  · have leaves : s.noOperation.judgeMarkers.leaveLoad = s.noOperation.judgeMarkers.enterListen im := by
      rw [State.leaveLoad, image, usable]
    rw [leaves]
    refine ⟨rfl, congrArg some now, congrArg some now, ?_, beside.floor, builtTable_getElem im⟩
    show s.noOperation.judgeMarkers.port.tx = s.port.tx
    rw [beside.port]; rfl
  · have leaves : s.noOperation.judgeMarkers.leaveLoad = s.noOperation.judgeMarkers.enterConfigFault id := by
      rw [State.leaveLoad, image, unusable]
    rw [leaves]
    exact ⟨rfl, congrArg some now, beside.view, rfl, rfl⟩
  · have stamp : s.noOperation.stamp = 0#32 := State.stamp_outside still
    rw [supervisor, table, stamp]
    show (if _ then (tableRaise s.supervisor.table _ _ _).table else if _ then (tableRaise s.supervisor.table _ _ _).table else _) = _
    rw [tableRaise_new none1 empty, tableRaise_new none0 empty]
    rfl

end Sys2Proof.Machine
end

section
/-! PROOFS. The raises of CFG_CLAMPED into an empty table (R118, R124, R187). -/

namespace Sys2Proof.Machine

/-- The entry of a field that was clamped. -/
def clampedEntry (index : Nat) : FaultEntry := ⟨.cfgClamped, index, .activeUnacked, 0#32, 0#32, 1, 3⟩

/-- The table holds CFG_CLAMPED for the first 24 of the indices, in their order, and nothing else. -/
def HoldsClamped (t : FaultTable) (done : List Nat) : Prop := ∀ q : Fin 24, t[q] = done[q.val]?.map clampedEntry

namespace HoldsClamped

variable {t : FaultTable} {done : List Nat}

theorem of_held (h : HoldsClamped t done) {q : Fin 24} {e : FaultEntry} (held : t[q] = some e) :
    ∃ index ∈ done, e = clampedEntry index := by
  obtain ⟨index, there, rfl⟩ := Option.map_eq_some_iff.mp ((h q).symm.trans held)
  exact ⟨index, List.mem_of_getElem? there, rfl⟩

theorem absent (h : HoldsClamped t done) {index : Nat} (new : index ∉ done) : findEntry t .cfgClamped index = none := by
  refine findEntry_eq_none_iff.mpr fun q e held is => ?_
  obtain ⟨other, mem, rfl⟩ := h.of_held held
  exact new (is.2 ▸ mem)

/-- With room the next index takes the next position. -/
theorem raise_next (h : HoldsClamped t done) {index : Nat} (new : index ∉ done) (room : done.length < 24) :
    ∃ u, tableRaise t .cfgClamped index 0#32 = ⟨u, false, true⟩ ∧ HoldsClamped u (done ++ [index]) := by
  have empty : firstEmpty t = some ⟨done.length, room⟩ := by
    refine firstEmpty_eq_some_iff.mpr ⟨?_, fun q below => ?_⟩
    · rw [h]; simp
    · rw [h, List.getElem?_eq_getElem below]; simp
  refine ⟨t.set (⟨done.length, room⟩ : Fin 24) (some (clampedEntry index)), ?_, fun q => ?_⟩
  · simp only [tableRaise, h.absent new, empty]
    rfl
  · rw [Vector.getElem_set_fin]
    split
    next same => subst same; simp
    next other =>
      rw [h q, List.getElem?_append]
      split
      · rfl
      · have : q.val ≠ done.length := fun same => other (Fin.ext same.symm)
        rw [List.getElem?_eq_none (by omega), List.getElem?_eq_none (by simp; omega)]

/-- In a full table the newcomer is dropped. -/
theorem raise_full (h : HoldsClamped t done) {index : Nat} (new : index ∉ done) (full : 24 ≤ done.length) :
    tableRaise t .cfgClamped index 0#32 = ⟨t, true, false⟩ ∧ HoldsClamped t (done ++ [index]) := by
  refine ⟨tableRaise_drops (h.absent new) (firstEmpty_eq_none_iff.mpr fun q => ?_) _ (fun q e held => ?_) (fun q e held => ?_), fun q => ?_⟩
  · rw [h, List.getElem?_eq_getElem (by omega)]; simp
  · obtain ⟨_, -, rfl⟩ := h.of_held held
    simp [clampedEntry]
  · obtain ⟨_, -, rfl⟩ := h.of_held held
    exact lt_irrefl _
  · rw [h, List.getElem?_append_left (by omega)]

/-- Either way the raise leaves the table with the index last, and the overflow flag is set where there was no room. -/
theorem raise (h : HoldsClamped t done) {index : Nat} (new : index ∉ done) :
    HoldsClamped (tableRaise t .cfgClamped index 0#32).table (done ++ [index]) ∧
      (tableRaise t .cfgClamped index 0#32).overflow = decide (24 ≤ done.length) := by
  by_cases full : 24 ≤ done.length
  · obtain ⟨raised, holds⟩ := h.raise_full new full
    rw [raised]
    exact ⟨holds, by simpa using full⟩
  · obtain ⟨u, raised, holds⟩ := h.raise_next new (by omega)
    rw [raised]
    exact ⟨holds, by simpa using full⟩

end HoldsClamped

/-- The raises one after another outside RUN. -/
theorem State.raiseEach_clamped {s : State} (still : s.inRun = false) (taken : s.alloc.recomputeDue = false) {done todo : List Nat}
    (once : (done ++ todo).Nodup) (holds : HoldsClamped s.supervisor.table done) {overflow : Bool}
    (flag : s.supervisor.overflow = (overflow || decide (24 < done.length))) :
    s.StillStep (s.raiseEach .cfgClamped todo) ∧ HoldsClamped (s.raiseEach .cfgClamped todo).supervisor.table (done ++ todo) ∧
      (s.raiseEach .cfgClamped todo).supervisor.overflow = (overflow || decide (24 < (done ++ todo).length)) := by
  induction todo generalizing s done with
  | nil =>
    rw [List.append_nil]
    exact ⟨⟨.of_sameAlloc (.refl _) rfl rfl rfl, taken, rfl⟩, holds, flag⟩
  | cons index rest ih =>
    have new : index ∉ done := fun mem => (List.nodup_append.mp once).2.2 index mem index (List.mem_cons_self ..) rfl
    obtain ⟨step, eq⟩ := State.StillStep.raise still taken (code := .cfgClamped) rfl index
    obtain ⟨next, dropped⟩ := holds.raise new
    have supervisor : (s.raise .cfgClamped index).supervisor = s.raisedSupervisor .cfgClamped index := by rw [eq, State.raiseOnly_supervisor]
    have table : (s.raise .cfgClamped index).supervisor.table = (tableRaise s.supervisor.table .cfgClamped index 0#32).table := by
      rw [supervisor, State.raisedSupervisor, State.stamp_outside still]
    have flag' : (s.raise .cfgClamped index).supervisor.overflow = (overflow || decide (24 < (done ++ [index]).length)) := by
      rw [supervisor, State.raisedSupervisor, State.stamp_outside still]
      show (s.supervisor.overflow || (tableRaise s.supervisor.table .cfgClamped index 0#32).overflow) = _
      rw [dropped, flag, List.length_append, List.length_singleton]
      by_cases full : 24 ≤ done.length
      · simp [full, Nat.lt_succ_of_le full]
      · simp [full, show ¬ 24 < done.length by omega, show ¬ 24 < done.length + 1 by omega]
    rw [List.append_cons] at once ⊢
    obtain ⟨steps, held, overflowed⟩ := ih (s := s.raise .cfgClamped index) (step.inRun.trans still) step.taken once (table ▸ next) flag'
    exact ⟨step.trans steps, held, overflowed⟩

end Sys2Proof.Machine
end

section
/-! PROOFS. O6: the image read and judged. -/

namespace Sys2Proof.Machine

/-! ### The subject of CFG_BAD (R185, R186) -/

theorem number16_eq_iff (high low : Byte) {n : Nat} (small : n < 65536) :
    number16 high low = n ↔ high = BitVec.ofNat 8 (n / 256) ∧ low = BitVec.ofNat 8 (n % 256) := by
  rw [← byte_toNat_eq_iff _ (by omega), ← byte_toNat_eq_iff _ (Nat.mod_lt _ (by decide))]
  simp only [number16]
  omega

/-- Another way to write the structure checks: the first that fails gives the subject. -/
theorem structureFailure_eq (image : List Byte) : structureFailure image =
    if ¬(1 ≤ imageByte image 4 ∧ imageByte image 4 ≤ 62) then some 3
    else if ¬(imageByte image 7 ≤ 2 ∧ goodIds (imageByte image 4) [] (supervisorIds image) = true) then some 5
    else if ¬(imageByte image 10 ≤ 8 ∧ goodIds (imageByte image 4) (supervisorIds image) (adjacentIds image) = true) then some 6
    else slotFailure image 8 0 := by
  unfold structureFailure
  simp only [← validId_iff, Bool.or_eq_true, Bool.not_eq_true', decide_eq_true_eq, not_and_or, not_le, Bool.not_eq_true]

/-- The record of slot `k` fails with the subject (R186). -/
def SlotFails (image : List Byte) (k subject : Nat) : Prop := imageByte image (33 + 8 * k) = 1 ∧
  ((subject = 33 + 8 * k ∧ imageByte image (34 + 8 * k) = 0) ∨
    (subject = 36 + 8 * k ∧ imageByte image (34 + 8 * k) ≠ 0 ∧ imageByte image (38 + 8 * k) < imageByte image (37 + 8 * k)))

theorem SlotFails.large {image : List Byte} {k subject : Nat} (fails : SlotFails image k subject) : 3 < subject := by
  obtain ⟨-, ⟨rfl, -⟩ | ⟨rfl, -⟩⟩ := fails <;> omega

theorem slotFailure_of_passes {image : List Byte} {k : Nat} (passes : ∀ x, ¬ SlotFails image k x) (n : Nat) :
    slotFailure image (n + 1) k = slotFailure image n (k + 1) := by
  have operator : ¬(slotPresent image k = true ∧ imageByte image (34 + 8 * k) = 0) := fun ⟨present, unnamed⟩ =>
    passes _ ⟨by simpa [slotPresent] using present, .inl ⟨rfl, unnamed⟩⟩
  have order : ¬(slotPresent image k = true ∧ imageByte image (38 + 8 * k) < imageByte image (37 + 8 * k)) := fun ⟨present, order⟩ =>
    passes _ ⟨by simpa [slotPresent] using present, .inr ⟨rfl, fun unnamed => operator ⟨present, unnamed⟩, order⟩⟩
  rw [slotFailure, if_neg (by simpa using operator), if_neg (by simpa using order)]

/-- The first slot that fails gives the subject. -/
theorem slotFailure_of_first {image : List Byte} {n k j subject : Nat} (from_ : k ≤ j) (below : j < k + n) (fails : SlotFails image j subject)
    (first : ∀ i x, i < j → ¬ SlotFails image i x) : slotFailure image n k = some subject := by
  induction n generalizing k with
  | zero => omega
  | succ n ih =>
    obtain rfl | later := Nat.eq_or_lt_of_le from_
    · obtain ⟨present, ⟨rfl, unnamed⟩ | ⟨rfl, named, order⟩⟩ := fails
      · simp [slotFailure, slotPresent, present, unnamed]; omega
      · simp [slotFailure, slotPresent, present, named, order]; omega
    · rw [slotFailure_of_passes (first k · later)]
      exact ih later (by omega)

theorem slotFailure_eq_none {image : List Byte} {n k : Nat} (passes : ∀ j x, j < k + n → ¬ SlotFails image j x) :
    slotFailure image n k = none := by
  induction n generalizing k with
  | zero => rfl
  | succ n ih =>
    rw [slotFailure_of_passes (passes k · (by omega))]
    exact ih fun j x below => passes j x (by omega)

/-! ### The frame of the image (R185) -/

section frame

variable (image : Vector Byte 97)

theorem imageWord_toList_eq_iff {i n : Nat} (inside : i + 1 < 97) (small : n < 65536) : imageWord image.toList i = n ↔
    image[i] = BitVec.ofNat 8 (n / 256) ∧ image[i + 1] = BitVec.ofNat 8 (n % 256) := by
  rw [← number16_eq_iff _ _ small, imageWord]
  simp [List.getD_eq_getElem?_getD, show i < 97 by omega, inside]

theorem blank_iff : image.toList.all (· == 0xFF#8) = true ↔ ∀ i : Fin 97, image[i] = 255#8 := by
  rw [List.all_eq_true]
  constructor
  · intro h i
    simpa using h image[i] (by simp)
  · intro h x mem
    obtain ⟨i, inside, rfl⟩ := List.mem_iff_getElem.mp mem
    simpa using h ⟨i, by simpa using inside⟩

theorem frameFailure_of_blank (blank : ∀ i : Fin 97, image[i] = 255#8) : frameFailure image.toList = some 0 := by
  rw [frameFailure, if_pos ((blank_iff image).mpr blank)]

theorem frameFailure_of_marker (written : ∃ i : Fin 97, image[i] ≠ 255#8) (wrong : ¬(image[0] = 0xC7#8 ∧ image[1] = 0x2E#8)) :
    frameFailure image.toList = some 1 := by
  obtain ⟨i, written⟩ := written
  rw [frameFailure, if_neg fun blank => written ((blank_iff image).mp blank i),
    if_pos (mt (imageWord_toList_eq_iff image (by decide) (by decide)).mp wrong)]

theorem frameFailure_of_marked (marked : image[0] = 0xC7#8 ∧ image[1] = 0x2E#8) :
    frameFailure image.toList = if image[2] = 0#8 ∧ image[3] = 97#8 then none else some 2 := by
  have written : ¬ image.toList.all (· == 0xFF#8) = true := fun blank => by
    have := marked.1.symm.trans ((blank_iff image).mp blank 0)
    cases this
  rw [frameFailure, if_neg written, if_neg (not_not_intro ((imageWord_toList_eq_iff image (by decide) (by decide)).mpr marked))]
  by_cases length : image[2] = 0#8 ∧ image[3] = 97#8
  · rw [if_pos length, if_neg (not_not_intro ((imageWord_toList_eq_iff image (by decide) (by decide)).mpr length))]
  · rw [if_neg length, if_pos (mt (imageWord_toList_eq_iff image (by decide) (by decide)).mp length)]

end frame

/-! ### What the judgement holds and raises (R187, R188) -/

theorem ids_bad_iff (own : Nat) (others ids : List Nat) (count limit : Nat) : ¬(count ≤ limit ∧ goodIds own others ids = true) ↔
    limit < count ∨ ¬ ids.Nodup ∨ ∃ id ∈ ids, ¬(1 ≤ id ∧ id ≤ 62) ∨ id = own ∨ id ∈ others := by
  rw [goodIds_iff, not_and_or, not_le, not_and_or, not_forall]
  refine or_congr_right (or_congr_right ⟨?_, ?_⟩)
  · rintro ⟨id, fails⟩
    obtain ⟨mem, fails⟩ := Classical.not_imp.mp fails
    exact ⟨id, mem, by tauto⟩
  · rintro ⟨id, mem, fails⟩
    exact ⟨id, fun good => by have := good mem; tauto⟩

theorem judgeRead_of_frame {image : List Byte} {subject : Nat} (fails : frameFailure image = some subject) :
    judgeRead image = ⟨.unusable none, some subject, []⟩ := by
  rw [judgeRead, fails]

theorem judgeRead_of_structure {image : List Byte} {subject : Nat} (framed : frameFailure image = none)
    (fails : structureFailure image = some subject) : judgeRead image =
      ⟨.unusable (if validId (imageByte image 4) then some (imageByte image 4) else none), some subject, []⟩ := by
  simp only [judgeRead, framed, fails]

theorem judgeRead_of_usable {image : List Byte} (framed : frameFailure image = none) (passes : structureFailure image = none) :
    judgeRead image = ⟨.usable (judgeImage image).1, none, (judgeImage image).2⟩ := by
  simp only [judgeRead, framed, passes]

theorem State.StillStep.raiseEach {s : State} (still : s.inRun = false) (taken : s.alloc.recomputeDue = false) {code : FaultCode}
    (mild : code.trips = false) (subjects : List Nat) : s.StillStep (s.raiseEach code subjects) := by
  induction subjects generalizing s with
  | nil => exact ⟨.of_sameAlloc (.refl _) rfl rfl rfl, taken, rfl⟩
  | cons subject rest ih =>
    have step := (State.StillStep.raise still taken mild subject).1
    exact step.trans (ih (step.inRun.trans still) step.taken)

/-- The state once the judgement's image is held, what it raises still to come. -/
def State.imageHeld (s : State) (image : List Byte) : State := s.setCtl { s.ctl with image := (judgeRead image).held }

/-- The judgement's raises. -/
def State.imageRaised (s : State) (image : List Byte) : State :=
  (match (judgeRead image).bad with
    | some subject => (s.imageHeld image).raise .cfgBad subject
    | none => s.imageHeld image).raiseEach .cfgClamped (judgeRead image).clamped

theorem State.judgeConfig_eq (s : State) (image : List Byte) : s.judgeConfig image = (s.imageRaised image).beginOperation .crashRead := rfl

theorem State.imageRaised_still {s : State} (still : s.inRun = false) (taken : s.alloc.recomputeDue = false) (image : List Byte) :
    (s.imageHeld image).StillStep (s.imageRaised image) := by
  unfold State.imageRaised
  cases (judgeRead image).bad with
  | none => exact .raiseEach (s := s.imageHeld image) still taken rfl _
  | some subject =>
    have step := (State.StillStep.raise (s := s.imageHeld image) still taken (code := .cfgBad) rfl subject).1
    exact step.trans (.raiseEach (step.inRun.trans still) step.taken rfl _)

/-- An image that is not usable raises CFG_BAD once, into an empty table, with ALARM. -/
theorem State.imageRaised_bad {s : State} (still : s.inRun = false) (taken : s.alloc.recomputeDue = false) {image : List Byte} {held : HeldImage}
    {subject : Nat} (judged : judgeRead image = ⟨held, some subject, []⟩) (empty : s.supervisor.table = Vector.replicate 24 none) :
    (s.imageRaised image).supervisor.alarm = true ∧ ∀ q : Fin 24, (s.imageRaised image).supervisor.table[q] =
      if q = 0 then some ⟨.cfgBad, subject, .activeUnacked, 0#32, 0#32, 1, 3⟩ else none := by
  have eq : s.imageRaised image = (s.imageHeld image).raiseOnly .cfgBad subject := by
    rw [State.imageRaised, judged]
    exact (State.StillStep.raise (s := s.imageHeld image) still taken (code := .cfgBad) rfl subject).2
  have first : firstEmpty (Vector.replicate 24 none : FaultTable) = some 0 := by decide
  have table : (s.imageRaised image).supervisor.table = (Vector.replicate 24 none : FaultTable).set (0 : Fin 24)
      (some ⟨.cfgBad, subject, .activeUnacked, 0#32, 0#32, 1, 3⟩) := by
    rw [eq, State.raiseOnly_table, State.stamp_outside (s := s.imageHeld image) still]
    show (tableRaise s.supervisor.table _ _ _).table = _
    rw [empty]
    exact tableRaise_new (findEntry_empty _ _) first _
  have there (q : Fin 24) : (s.imageRaised image).supervisor.table[q] =
      if q = 0 then some ⟨.cfgBad, subject, .activeUnacked, 0#32, 0#32, 1, 3⟩ else none := by
    rw [table, Vector.getElem_set_fin]
    simp [eq_comm]
  refine ⟨?_, there⟩
  have alarm : (s.imageRaised image).supervisor.alarm = alarmLevel (s.imageRaised image).supervisor.table := by
    rw [eq, State.raiseOnly_supervisor]; rfl
  rw [alarm, alarmLevel, List.any_eq_true]
  exact ⟨_, (mem_entries_iff _ _).mpr ⟨0, there 0⟩, rfl⟩

/-- A usable image raises CFG_CLAMPED for each clamped field in ascending order. -/
theorem State.imageRaised_usable {s : State} (still : s.inRun = false) (taken : s.alloc.recomputeDue = false) {image : List Byte} {held : HeldImage}
    {clamped : List Nat} (judged : judgeRead image = ⟨held, none, clamped⟩) (once : clamped.Nodup)
    (empty : s.supervisor.table = Vector.replicate 24 none) :
    (s.imageRaised image).supervisor.overflow = (s.supervisor.overflow || decide (24 < clamped.length)) ∧
      ∀ q : Fin 24, (s.imageRaised image).supervisor.table[q] = clamped[q.val]?.map clampedEntry := by
  have eq : s.imageRaised image = (s.imageHeld image).raiseEach .cfgClamped clamped := by rw [State.imageRaised, judged]
  have none_ : HoldsClamped (s.imageHeld image).supervisor.table [] := fun q => by
    show s.supervisor.table[q] = _
    rw [empty]; simp
  obtain ⟨-, holds, overflow⟩ := State.raiseEach_clamped (s := s.imageHeld image) still taken (done := []) once none_
    (overflow := s.supervisor.overflow) (by simp [State.imageHeld, State.setCtl])
  rw [eq]
  exact ⟨overflow, holds⟩

/-- The configuration read's end: the image stands in the store, is judged as it stands there, and the crash read begins. -/
theorem State.configReadEnd_eq {s : State} {op : InFlight} (flight : s.ctl.operation = some op) (read : op.operation = .configRead)
    (ready : s.ctl.storeWait = false) (wf : s.store.wf) (image : Vector Byte 97) : s.configReadEnd image.toList =
      ((s.setStore (s.store.writeBytes imageAddress image.toList)).imageRaised image.toList).beginOperation .crashRead := by
  have back : (s.store.writeBytes imageAddress image.toList).readBytes imageAddress imageLength = image.toList := by
    have := Memory.readBytes_writeBytes wf imageAddress image.toList
    rwa [Vector.length_toList] at this
  unfold State.configReadEnd
  rw [flight]
  dsimp only
  rw [read]
  dsimp only
  rw [ready, if_neg Bool.false_ne_true, ← State.judgeConfig_eq]
  exact congrArg (State.judgeConfig _) back

theorem Memory.read_image {m : Memory} (wf : m.wf) (image : Vector Byte 97) (a : Nat) :
    (m.writeBytes imageAddress image.toList).read a = if h : a < 97 then image[a] else m.read a := by
  rw [Memory.read_writeBytes wf, Vector.length_toList]
  by_cases inside : a < 97
  · rw [dif_pos inside, if_pos ⟨Nat.zero_le a, Nat.lt_of_lt_of_eq inside (Nat.zero_add 97).symm⟩]
    simp [imageAddress, inside]
  · rw [dif_neg inside, if_neg fun within => inside (Nat.lt_of_lt_of_eq within.2 (Nat.zero_add 97))]

/-- Settles O6: the first check that fails gives the subject; each field that was clamped is raised in turn. -/
theorem configReadJudgesTheImage : Obligations.ConfigReadJudgesTheImage := by
  intro image s op flight read ready load taken wf b framed supervisors adjacents bad3 bad5 bad6 badSlot
  have still : s.inRun = false := by simp [State.inRun, load]
  have step := State.imageRaised_still (s := s.setStore (s.store.writeBytes imageAddress image.toList)) still taken image.toList
  have beside := step.step.beside
  have valid : ¬ bad3 → (validId (imageByte image.toList 4) = true) := fun good => (validId_iff _).mpr (not_not.mp good)
  have structure_ : framed → frameFailure image.toList = none := fun marked => by
    rw [frameFailure_of_marked image marked.1, if_pos marked.2]
  have bad5Iff : bad5 ↔ ¬(b 7 ≤ 2 ∧ goodIds (b 4) [] (supervisorIds image.toList) = true) := by
    rw [ids_bad_iff, supervisorIds_eq]; simp [bad5, supervisors, b]
  have bad6Iff : bad6 ↔ ¬(b 10 ≤ 8 ∧ goodIds (b 4) (supervisorIds image.toList) (adjacentIds image.toList) = true) := by
    rw [ids_bad_iff, supervisorIds_eq, adjacentIds_eq]
  refine ⟨_, congrArg Host.Outcome.next (State.configReadEnd_eq flight read ready wf image), ?_, ?_, fun a => ?_, beside.port, beside.view, beside.scanner, step.step.spread,
    step.step.writer, step.step.slots, beside.mute, beside.handler, beside.draws, fun subject empty fails => ?_,
    fun empty marked good3 good5 good6 slots => ?_⟩
  · show StoreCtl.begin _ _ = _
    rw [step.ctl]; rfl
  · show (State.imageRaised _ _).store.wf
    rw [beside.store]; exact Memory.writeBytes_wf wf _ _
  · show (State.imageRaised _ _).store.read a = _
    rw [beside.store]; exact Memory.read_image wf image a
  · have judged : judgeRead image.toList = ⟨.unusable (if subject ≤ 3 then none else some (b 4)), some subject, []⟩ := by
      have kept (framed : framed) (good3 : ¬ bad3) (large : 3 < subject) (fails : structureFailure image.toList = some subject) :
          judgeRead image.toList = ⟨.unusable (if subject ≤ 3 then none else some (b 4)), some subject, []⟩ := by
        rw [judgeRead_of_structure (structure_ framed) fails, if_pos (valid good3), if_neg (by omega)]
      obtain ⟨rfl, blank⟩ | ⟨rfl, written, wrong⟩ | ⟨rfl, marked, wrong⟩ | ⟨rfl, framed, bad⟩ | ⟨rfl, framed, good3, bad⟩ |
        ⟨rfl, framed, good3, good5, bad⟩ | ⟨framed, good3, good5, good6, k, below, bad, first⟩ := fails
      · exact judgeRead_of_frame (frameFailure_of_blank image blank)
      · exact judgeRead_of_frame (frameFailure_of_marker image written wrong)
      · exact judgeRead_of_frame ((frameFailure_of_marked image marked).trans (if_neg wrong))
      · rw [judgeRead_of_structure (structure_ framed) ((structureFailure_eq _).trans (if_pos bad)), if_neg (mt (validId_iff _).mp bad)]
        rfl
      · refine kept framed good3 (by decide) ?_
        rw [structureFailure_eq, if_neg good3, if_pos (bad5Iff.mp bad)]
      · refine kept framed good3 (by decide) ?_
        rw [structureFailure_eq, if_neg good3, if_neg (mt bad5Iff.mpr good5), if_pos (bad6Iff.mp bad)]
      · refine kept framed good3 (SlotFails.large bad) ?_
        rw [structureFailure_eq, if_neg good3, if_neg (mt bad5Iff.mpr good5), if_neg (mt bad6Iff.mpr good6)]
        exact slotFailure_of_first (Nat.zero_le k) (Nat.zero_add 8 ▸ below) bad first
    refine ⟨?_, State.imageRaised_bad (s := s.setStore (s.store.writeBytes imageAddress image.toList)) still taken judged empty⟩
    show (State.imageRaised _ _).ctl.image = _
    rw [step.ctl]
    exact congrArg ImageJudgement.held judged
  · have judged : judgeRead image.toList = ⟨.usable (judgeImage image.toList).1, none, (judgeImage image.toList).2⟩ := by
      refine judgeRead_of_usable (structure_ marked) ?_
      rw [structureFailure_eq, if_neg good3, if_neg (mt bad5Iff.mpr good5), if_neg (mt bad6Iff.mpr good6)]
      exact slotFailure_eq_none fun k x below => slots k x (Nat.zero_add 8 ▸ below)
    refine ⟨⟨(judgeImage image.toList).1, ?_⟩, ?_⟩
    · show (State.imageRaised _ _).ctl.image = _
      rw [step.ctl]
      exact congrArg ImageJudgement.held judged
    · have clamped : (judgeRead image.toList).clamped = (judgeImage image.toList).2 := congrArg ImageJudgement.clamped judged
      rw [clamped]
      exact State.imageRaised_usable (s := s.setStore (s.store.writeBytes imageAddress image.toList)) still taken judged
        ((judgeImage_ascending _).imp fun below => Nat.ne_of_lt below) empty

end Sys2Proof.Machine
end

section
/-! PROOFS. O9: a failed transfer repeated, and the third failed try. -/

namespace Sys2Proof.Machine

theorem FaultCode.storeFail_not_asks : ¬ FaultCode.storeFail.Asks := by unfold FaultCode.Asks; decide
theorem FaultCode.cfgBad_not_asks : ¬ FaultCode.cfgBad.Asks := by unfold FaultCode.Asks; decide

theorem State.transferFails_of_first {s : State} {op : InFlight} (flight : s.ctl.operation = some op) (ready : s.ctl.storeWait = false) :
    s.transferFails false = s.tryFails op := by
  unfold State.transferFails
  rw [flight]
  dsimp only
  rw [ready, if_neg Bool.false_ne_true]

theorem State.transferFails_of_later {s : State} {op : InFlight} (flight : s.ctl.operation = some op) (ready : s.ctl.storeWait = false)
    (read : op.operation = .configRead ∨ op.operation = .crashRead) : s.transferFails true = s.tryFails { op with failedTries := 0 } := by
  have later : laterTransfer op.operation s.ctl.region = some op.operation := by obtain is | is := read <;> rw [is] <;> rfl
  unfold State.transferFails
  rw [flight]
  dsimp only
  rw [ready, if_neg Bool.false_ne_true, later]

theorem State.tryFails_repeats {s : State} {op : InFlight} (few : op.failedTries < 2) : s.tryFails op =
    s.setCtl { s.ctl with operation := some { op with failedTries := op.failedTries + 1, since := s.ctl.clock } } := by
  rw [State.tryFails, if_neg (by omega)]

theorem State.tryFails_ends {s : State} {op : InFlight} (third : op.failedTries = 2) : s.tryFails op = s.operationFails op.operation := by
  rw [State.tryFails, if_pos (by omega)]

/-- A STORE_FAIL raised in an empty position: nothing else of the part moves. -/
theorem State.raise_storeFail {s : State} (settled : s.Settled) {subject : Nat} {q : Fin 24} (empty : firstEmpty s.supervisor.table = some q)
    (absent : findEntry s.supervisor.table .storeFail subject = none) :
    s.TableStep (s.raise .storeFail subject) ∧ (s.raise .storeFail subject).Settled ∧ (s.raise .storeFail subject).supervisor.table =
      s.supervisor.table.set q (some ⟨.storeFail, subject, .activeUnacked, s.stamp, s.stamp, 1, 3⟩) := by
  obtain ⟨step, settled', -, new⟩ := State.raise_in_empty settled FaultCode.storeFail_not_asks subject empty
  exact ⟨step, settled', new absent⟩

/-- The third failed try of the configuration read: STORE_FAIL and CFG_BAD in the first two positions of an empty table. -/
theorem State.configUnreadable_spec {s : State} (settled : s.Settled) (none_ : s.supervisor.table = Vector.replicate 24 none) :
    s.configUnreadable.ctl = { s.ctl with image := .unusable none, operation := some ⟨.crashRead, 0, s.ctl.clock⟩ } ∧
      s.configUnreadable.store = s.store ∧ s.configUnreadable.alloc = s.alloc ∧ s.configUnreadable.writer = s.writer ∧
      s.configUnreadable.port = s.port ∧ s.configUnreadable.view = s.view ∧ s.configUnreadable.supervisor.alarm = true ∧
      ∀ q : Fin 24, s.configUnreadable.supervisor.table[q] =
        if q = 0 then some ⟨.storeFail, 1, .activeUnacked, s.stamp, s.stamp, 1, 3⟩
        else if q = 1 then some ⟨.cfgBad, 0, .activeUnacked, s.stamp, s.stamp, 1, 3⟩ else none := by
  have first : firstEmpty s.supervisor.table = some 0 := by rw [none_]; decide
  obtain ⟨step, settled', table⟩ := State.raise_storeFail settled first (subject := 1) (by rw [none_]; exact findEntry_empty _ _)
  have ends : s.configUnreadable =
      (((s.raise .storeFail 1).setCtl { (s.raise .storeFail 1).ctl with image := .unusable none }).raise .cfgBad 0).beginOperation .crashRead := rfl
  rw [ends]
  generalize s.raise .storeFail 1 = u at *
  have entry (q : Fin 24) : u.supervisor.table[q] =
      if q = 0 then some ⟨.storeFail, 1, .activeUnacked, s.stamp, s.stamp, 1, 3⟩ else none := by
    rw [table, none_, Vector.getElem_set_fin]; simp [eq_comm]
  have second : firstEmpty u.supervisor.table = some 1 := firstEmpty_eq_some_iff.mpr ⟨by rw [entry]; rfl, fun q below => by
    rw [entry, if_pos (by omega)]; simp⟩
  have absent : findEntry u.supervisor.table .cfgBad 0 = none := findEntry_eq_none_iff.mpr fun q e held is => by
    rw [entry] at held
    split at held
    · cases held; cases is.1
    · cases held
  have quiet := State.raise_of_room (s := u.setCtl { u.ctl with image := .unusable none }) (settled'.of_same rfl rfl)
    FaultCode.cfgBad_not_asks 0 (.of_empty second .cfgBad 0)
  obtain ⟨step', -, -, new⟩ := State.raise_in_empty (s := u.setCtl { u.ctl with image := .unusable none }) (settled'.of_same rfl rfl)
    FaultCode.cfgBad_not_asks 0 second
  have stamp : (u.setCtl { u.ctl with image := .unusable none }).stamp = s.stamp := step.stamp
  generalize held : (u.setCtl { u.ctl with image := .unusable none }).raise .cfgBad 0 = v at *
  have table' (q : Fin 24) : v.supervisor.table[q] = if q = 0 then some ⟨.storeFail, 1, .activeUnacked, s.stamp, s.stamp, 1, 3⟩
      else if q = 1 then some ⟨.cfgBad, 0, .activeUnacked, s.stamp, s.stamp, 1, 3⟩ else none := by
    have both : v.supervisor.table = u.supervisor.table.set (1 : Fin 24) (some ⟨.cfgBad, 0, .activeUnacked, s.stamp, s.stamp, 1, 3⟩) := by
      rw [new absent, stamp]; rfl
    rw [both, Vector.getElem_set_fin, entry]
    by_cases zero : q = 0
    · subst zero; rfl
    · simp [zero, eq_comm]
  refine ⟨?_, step'.store.trans step.store, step'.alloc.trans step.alloc, step'.writer.trans step.writer, step'.port.trans step.port,
    step'.view.trans step.view, ?_, table'⟩
  · show StoreCtl.begin v.ctl .crashRead = _
    rw [step'.ctl]
    show StoreCtl.begin { u.ctl with image := .unusable none } .crashRead = _
    rw [step.ctl]; rfl
  · have alarm : v.supervisor.alarm = alarmLevel v.supervisor.table := by rw [quiet.supervisor]; rfl
    show v.supervisor.alarm = true
    rw [alarm, alarmLevel_iff]
    exact ⟨0, _, table' 0, rfl, .inl rfl⟩

/-- The state at the end of a failed operation, its STORE_FAIL still to be raised. -/
def State.regionUnknown (s : State) (pending : Option CrashRecord) : State :=
  s.setCtl { s.ctl with operation := none, region := .unknown, pendingWrite := pending }

theorem State.leaveLoad_usable {s : State} {image : Image} (usable : s.ctl.image = .usable image) : s.leaveLoad = s.enterListen image := by
  rw [State.leaveLoad, usable]

theorem State.leaveLoad_unusable {s : State} {id : Option Nat} (unusable : s.ctl.image = .unusable id) :
    s.leaveLoad = s.enterConfigFault id := by
  rw [State.leaveLoad, unusable]

theorem State.leaveLoad_writer (s : State) : s.leaveLoad.writer = s.writer := by
  unfold State.leaveLoad
  split <;> rfl

/-- The third failed try of a crash write or a crash erase with no RESTART deferred. -/
theorem State.regionUnknown_ends {s : State} (settled : s.Settled) {pending : Option CrashRecord} (soon : s.ctl.deferredRestart = false)
    {subject : Nat} {q : Fin 24} (empty : firstEmpty s.supervisor.table = some q) (absent : findEntry s.supervisor.table .storeFail subject = none) :
    let t := ((s.regionUnknown pending).raise .storeFail subject).restartIfDue
    t.ctl = { s.ctl with operation := none, region := .unknown, pendingWrite := pending } ∧ t.store = s.store ∧ t.alloc = s.alloc ∧
      t.writer = s.writer ∧ t.port = s.port ∧
      t.supervisor.table = s.supervisor.table.set q (some ⟨.storeFail, subject, .activeUnacked, s.stamp, s.stamp, 1, 3⟩) := by
  obtain ⟨step, -, table⟩ := State.raise_storeFail (s := s.regionUnknown pending) (settled.of_same rfl rfl) empty absent
  intro t
  have stays : t = (s.regionUnknown pending).raise .storeFail subject := State.restartIfDue_of_not_deferred (by rw [step.ctl]; exact soon)
  rw [stays]
  exact ⟨step.ctl, step.store, step.alloc, step.writer, step.port, table⟩

/-- Settles O9: a try that fails is counted and repeated; the third ends its operation, as the operation says. -/
theorem failedTriesAreRepeatedThenEndTheOperation : Obligations.FailedTriesAreRepeatedThenEndTheOperation := by
  intro s op flight ready
  have first := State.transferFails_of_first flight ready
  have third (last : op.failedTries = 2) : s.transferFails false = s.operationFails op.operation := first.trans (State.tryFails_ends last)
  refine ⟨fun few => ⟨_, congrArg Host.Outcome.next (first.trans (State.tryFails_repeats few)), rfl⟩, fun read => ?_, fun last read settled none_ => ?_,
    fun q last settled empty => ⟨fun read absent => ?_, fun step record write soon absent => ?_, fun step marker erase soon absent => ?_⟩⟩
  · have ends := (State.transferFails_of_later flight ready read).trans (State.tryFails_repeats (s := s) (op := { op with failedTries := 0 }) (by decide : 0 < 2))
    exact ⟨_, congrArg Host.Outcome.next ends, rfl⟩
  · have ends := third last
    rw [read] at ends
    exact ⟨_, congrArg Host.Outcome.next ends, State.configUnreadable_spec settled none_⟩
  · have ends : s.transferFails false = ((s.regionUnknown s.ctl.pendingWrite).raise .storeFail 2).leaveLoad := by
      rw [third last, read]; rfl
    obtain ⟨step, -, table⟩ := State.raise_storeFail (s := s.regionUnknown s.ctl.pendingWrite) (settled.of_same rfl rfl) empty absent
    obtain ⟨receiver, store, -, -, alloc, -, -, supervisor, clock, operation, region⟩ :=
      ((s.regionUnknown s.ctl.pendingWrite).raise .storeFail 2).leaveLoad_rest
    rw [step.ctl] at operation region
    have now : ((s.regionUnknown s.ctl.pendingWrite).raise .storeFail 2).ctl.clock = s.ctl.clock := by rw [step.ctl]; rfl
    refine ⟨_, congrArg Host.Outcome.next ends, operation, region, fun im usable => ?_, fun id unusable => ?_, receiver,
      store.trans step.store, alloc.trans step.alloc, (State.leaveLoad_writer _).trans step.writer, (congrArg Supervisor.table supervisor).trans table⟩
    · rw [State.leaveLoad_usable (by rw [step.ctl]; exact usable)]
      exact ⟨rfl, congrArg some now⟩
    · rw [State.leaveLoad_unusable (by rw [step.ctl]; exact unusable)]
      exact ⟨rfl, congrArg some now⟩
  · have ends := third last
    rw [write] at ends
    exact ⟨_, congrArg Host.Outcome.next ends, State.regionUnknown_ends settled soon empty absent⟩
  · have ends := third last
    rw [erase] at ends
    exact ⟨_, congrArg Host.Outcome.next ends, State.regionUnknown_ends settled soon empty absent⟩

end Sys2Proof.Machine
end

section
/-! PROOFS. O48: a RESTART taken at once, or deferred to the end of the operation in flight. -/

namespace Sys2Proof.Machine

/-! ### What is due, taken before LOAD entry -/

theorem State.settleNoise_store (s : State) : s.settleNoise.store = s.store := by
  unfold State.settleNoise
  split
  exacts [(State.clear_beside _ _ _).store, rfl]

theorem State.settleClash_store (s : State) : s.settleClash.store = s.store := by
  unfold State.settleClash
  split
  · rfl
  · split
    exacts [(State.clear_beside _ _ _).store, rfl]

theorem State.settleReCredit_store (s : State) : s.settleReCredit.store = s.store := by
  unfold State.settleReCredit
  split <;> rfl

theorem State.releaseTrip_store (s : State) : s.releaseTrip.store = s.store := by
  unfold State.releaseTrip
  split
  · dsimp only
    split
    exacts [(State.clear_beside _ _ _).store, rfl]
  · rfl

theorem State.settleDue_store (s : State) : s.settleDue.store = s.store := by
  rw [State.settleDue, State.releaseTrip_store, State.settleReCredit_store, State.settleClash_store, State.settleNoise_store]

/-- Nothing is due: no clear, no release and no re-credit. -/
structure State.NothingDue (s : State) : Prop where
  noise : s.port.noiseStanding = false ∨ s.port.cleanRun < 4
  clash : s.view.clash = none ∨ s.view.clashCount < 16
  credit : s.supervisor.reCreditDue = false
  release : s.scanner.releaseNotice = false

theorem State.NothingDue.settleDue {s : State} (h : s.NothingDue) : s.settleDue = s := by
  have noise : s.settleNoise = s := by
    rw [State.settleNoise, if_neg]
    rintro ⟨stands, clean⟩
    obtain quiet | few := h.noise
    · cases quiet.symm.trans stands
    · omega
  have clash : s.settleClash = s := by
    unfold State.settleClash
    split
    · rfl
    next id stands =>
      refine if_neg fun due => ?_
      obtain none_ | few := h.clash
      · cases none_.symm.trans stands
      · omega
  have credit : s.settleReCredit = s := by rw [State.settleReCredit, h.credit, if_neg Bool.false_ne_true]
  have release : s.releaseTrip = s := by rw [State.releaseTrip, h.release, if_neg Bool.false_ne_true]
  rw [State.settleDue, noise, clash, credit, release]

/-! ### LOAD entry by a RESTART (R141, R180) -/

theorem State.clearOnly_carried {s : State} (none_ : s.composer.carried = []) (code : FaultCode) (subject : Nat) :
    (s.clearOnly code subject).composer = s.composer := by
  rw [State.clearOnly, State.handOutputs_composer]
  show ({ s.composer with carried := keepCarried s.supervisor.table (tableClear s.supervisor.table code subject) s.composer.carried } : Composer) = _
  have kept : keepCarried s.supervisor.table (tableClear s.supervisor.table code subject) s.composer.carried = s.composer.carried := by
    rw [none_]; rfl
  rw [kept]

/-- A RESTART's LOAD entry, and then its two clears, which move nothing but the fault table and its outputs. -/
theorem State.restartNow_spec (s : State) : (s.settleDue.enterLoad .restart).AllocStep s.restartNow ∧
    s.restartNow.ctl = { StoreCtl.reset with cause := .restart } ∧ s.restartNow.composer = .reset ∧
    s.restartNow.supervisor.table = tableClear (tableClear s.settleDue.supervisor.table .trunkBusy 0) .trunkNoise 0 ∧
    s.restartNow.supervisor.snapshot = s.settleDue.supervisor.snapshot ∧
    s.restartNow.supervisor.sinceSnapshot = s.settleDue.supervisor.sinceSnapshot ∧
    s.restartNow.supervisor.overflow = s.settleDue.supervisor.overflow ∧ s.restartNow.OutputsFollow := by
  unfold State.restartNow
  generalize entered : s.settleDue.enterLoad .restart = e
  refine ⟨(State.AllocStep.clearOnly e .trunkBusy 0).trans (.clearOnly _ .trunkNoise 0), ?_, ?_, ?_, ?_, ?_, ?_, State.clearOnly_outputsFollow _ _ _⟩
  · rw [State.clearOnly_ctl, State.clearOnly_ctl, ← entered]; rfl
  · have reset : e.composer = .reset := by rw [← entered]; rfl
    have first := State.clearOnly_carried (s := e) (by rw [reset]; rfl) .trunkBusy 0
    rw [State.clearOnly_carried (by rw [first, reset]; rfl), first, reset]
  all_goals rw [State.clearOnly_supervisor, State.clearedSupervisor, State.clearOnly_supervisor, State.clearedSupervisor, ← entered]; rfl

/-- The LOAD entry of a RESTART from any state. -/
theorem State.restartNow_load (s : State) : s.restartNow.port = { Port.reset with line := s.restartNow.port.line } ∧
    (∀ i : Fin 8, s.restartNow.alloc.slots[i] = .idle ∧ s.restartNow.alloc.mute[i] = false) ∧ s.restartNow.alloc.beff = none ∧
    s.restartNow.writer.paEnable = false ∧ s.restartNow.writer.indicator = false ∧ s.restartNow.spread = .reset ∧
    s.restartNow.handler = .reset ∧ s.restartNow.store = s.store ∧ (∀ p : Fin 16, s.restartNow.view.table[p] = none) := by
  obtain ⟨step, -⟩ := s.restartNow_spec
  have beside := step.beside
  rw [beside.port, step.slots, step.mute, step.beff rfl, step.writer, step.spread, beside.handler, beside.store, beside.view]
  refine ⟨rfl, fun i => ⟨?_, ?_⟩, rfl, ?_, ?_, rfl, rfl, s.settleDue_store, fun p => ?_⟩
  · exact Vector.getElem_replicate ..
  · exact Vector.getElem_replicate ..
  · exact Writer.startNext_paEnable _
  · exact Writer.startNext_indicator _
  · exact Vector.getElem_replicate ..

theorem State.restartNow_store (s : State) : s.restartNow.store = s.store := by
  obtain ⟨-, -, -, -, -, -, -, store, -⟩ := s.restartNow_load
  exact store

/-- What a RESTART keeps, where nothing is due at its moment (R40, R57, R100, R141). -/
theorem State.restartNow_keeps {s : State} (due : s.NothingDue) :
    s.restartNow.supervisor.table = tableClear (tableClear s.supervisor.table .trunkBusy 0) .trunkNoise 0 ∧
      s.restartNow.supervisor.snapshot = s.supervisor.snapshot ∧ s.restartNow.supervisor.sinceSnapshot = s.supervisor.sinceSnapshot ∧
      s.restartNow.supervisor.overflow = s.supervisor.overflow ∧
      s.restartNow.view = { View.reset with clash := s.view.clash, clashCount := s.view.clashCount } ∧
      s.restartNow.scanner = { Scanner.reset with
        stuck := s.restartNow.scanner.stuck, vswrWarn := s.scanner.vswrWarn, vswrTrip := s.scanner.vswrTrip
        tempWarn := s.scanner.tempWarn, tempHigh := s.scanner.tempHigh, tempLimit := s.scanner.tempLimit
        lastTemp := s.scanner.lastTemp } ∧
      (∀ c : Fin 11, s.restartNow.scanner.stuck[c] = ⟨0, 0, s.scanner.stuck[c].standing⟩) ∧
      s.restartNow.alloc.shedMarks = s.alloc.shedMarks ∧
      (s.OutputsFollow → s.restartNow.alloc.derating = s.alloc.derating ∧ s.restartNow.alloc.down = s.alloc.down) := by
  obtain ⟨step, -, -, table, snapshot, since, overflow, follow⟩ := s.restartNow_spec
  rw [due.settleDue] at step table snapshot since overflow
  have beside := step.beside
  refine ⟨table, snapshot, since, overflow, beside.view, ?_, fun c => ?_, step.marks, fun before => ?_⟩
  · rw [beside.scanner]; rfl
  · rw [beside.scanner]; exact tab_getElem (fun i : Fin 11 => (s.scanner.stuck[i]).atLoad .restart) c
  · have same : SameAsks s.supervisor.table s.restartNow.supervisor.table := by
      rw [table]
      exact fun p => (sameAsks_tableClear _ 0 FaultCode.trunkNoise_not_asks p).trans (sameAsks_tableClear _ 0 FaultCode.trunkBusy_not_asks p)
    exact ⟨by rw [follow.derating, before.derating, same.deratingLevel_eq], by rw [follow.down, before.down, same.downCondition_eq]⟩

/-! ### The RESTART deferred (R195) -/

/-- The state with a RESTART deferred. -/
def State.restartDeferred (s : State) : State := s.setCtl { s.ctl with deferredRestart := true }

theorem State.askRestart_of_idle {s : State} (idle : s.ctl.operation = none) : s.askRestart = s.restartNow := by
  rw [State.askRestart, idle]

theorem State.askRestart_of_flight {s : State} {op : InFlight} (flight : s.ctl.operation = some op) : s.askRestart = s.restartDeferred := by
  rw [State.askRestart, flight]; rfl

theorem State.restartIfDue_of_deferred {s : State} (deferred : s.ctl.deferredRestart = true) (idle : s.ctl.operation = none) :
    s.restartIfDue = s.restartNow := by
  rw [State.restartIfDue, deferred, idle]; exact if_pos rfl

/-- The state at the end of an operation that completed, its RESTART still to come. -/
def State.completed (s : State) (since : Ms) (byte : Byte) (region : RegionStatus) : State :=
  let t := (s.restartDeferred.advanceTo since 5).setStore (s.store.writeBytes 128 [byte])
  t.setCtl { t.ctl with operation := none, region := region }

/-- A RESTART deferred behind the last step of a crash write. -/
theorem State.cycleEnd_restarts_write {s : State} {op : InFlight} (flight : s.ctl.operation = some op) {record : CrashRecord}
    (write : op.operation = .crashWrite 2 record) :
    s.restartDeferred.cycleEnd = (s.completed op.since 0xFD#8 .written).restartNow := by
  have flight' : s.restartDeferred.ctl.operation = some op := flight
  have written : op.operation.written s.restartDeferred.ctl.region s.restartDeferred.marker = some (128, [0xFD#8]) := by rw [write]; rfl
  have ends : s.restartDeferred.cycleEnd = ((s.restartDeferred.advanceTo op.since 5).applyCycle).writeDone := by
    simp [State.cycleEnd, flight', write]
  rw [ends, State.cycle_applied flight' written]
  exact State.restartIfDue_of_deferred (s := s.completed op.since 0xFD#8 .written) rfl rfl

/-- A RESTART deferred behind the last step of a crash erase with no write waiting. -/
theorem State.cycleEnd_restarts_erase {s : State} {op : InFlight} (flight : s.ctl.operation = some op) {marker : Bool}
    (erase : op.operation = .crashErase 2 marker) (alone : s.ctl.pendingWrite = none) :
    s.restartDeferred.cycleEnd = (s.completed op.since 0xFF#8 .empty).restartNow := by
  have flight' : s.restartDeferred.ctl.operation = some op := flight
  have written : op.operation.written s.restartDeferred.ctl.region s.restartDeferred.marker = some (128, [0xFF#8]) := by rw [erase]; rfl
  have ends : s.restartDeferred.cycleEnd = ((s.restartDeferred.advanceTo op.since 5).applyCycle).eraseDone := by
    simp [State.cycleEnd, flight', erase]
  have done (t : State) (none_ : t.ctl.pendingWrite = none) :
      t.eraseDone = (t.setCtl { t.ctl with operation := none, region := .empty }).restartIfDue := by
    simp only [State.eraseDone, none_]
  rw [ends, State.cycle_applied flight' written, done ((s.restartDeferred.advanceTo op.since 5).setStore _) alone]
  exact State.restartIfDue_of_deferred (s := s.completed op.since 0xFF#8 .empty) rfl rfl

/-- A write that waits behind the erase begins, and the RESTART waits on (R193). -/
theorem State.cycleEnd_begins_pending {s : State} {op : InFlight} (flight : s.ctl.operation = some op) {marker : Bool}
    (erase : op.operation = .crashErase 2 marker) {record : CrashRecord} (waits : s.ctl.pendingWrite = some record) :
    let t := (s.restartDeferred.advanceTo op.since 5).setStore (s.store.writeBytes 128 [0xFF#8])
    s.restartDeferred.cycleEnd = t.setCtl { t.ctl with
      operation := some ⟨.crashWrite 0 record, 0, t.ctl.clock⟩, region := .empty, pendingWrite := none } := by
  intro t
  have flight' : s.restartDeferred.ctl.operation = some op := flight
  have written : op.operation.written s.restartDeferred.ctl.region s.restartDeferred.marker = some (128, [0xFF#8]) := by rw [erase]; rfl
  have ends : s.restartDeferred.cycleEnd = ((s.restartDeferred.advanceTo op.since 5).applyCycle).eraseDone := by
    simp [State.cycleEnd, flight', erase]
  rw [ends, State.cycle_applied flight' written]
  exact State.eraseDone_of_pending (s := t) waits

/-- The third failed try of a crash write or a crash erase: STORE_FAIL, and then the RESTART. -/
theorem State.transferFails_restarts {s : State} {op : InFlight} (flight : s.ctl.operation = some op) (third : op.failedTries = 2)
    (ready : s.ctl.storeWait = false) {step : Fin 3} {record : CrashRecord} {marker : Bool}
    (writes : op.operation = .crashWrite step record ∨ op.operation = .crashErase step marker) :
    ∃ w : State, s.restartDeferred.transferFails false = w.restartNow ∧ w.store = s.store := by
  have ends : s.restartDeferred.transferFails false = s.restartDeferred.operationFails op.operation :=
    (State.transferFails_of_first (s := s.restartDeferred) flight ready).trans (State.tryFails_ends third)
  have failed (pending : Option CrashRecord) (subject : Nat) :
      ((s.restartDeferred.regionUnknown pending).raise .storeFail subject).restartIfDue =
        ((s.restartDeferred.regionUnknown pending).raise .storeFail subject).restartNow := by
    refine State.restartIfDue_of_deferred ?_ ?_ <;> rw [State.raise_ctl _ rfl] <;> rfl
  obtain write | erase := writes
  · refine ⟨_, ends.trans ?_, (State.raise_beside (s.restartDeferred.regionUnknown s.ctl.pendingWrite) .storeFail 3).store⟩
    rw [write]; exact failed s.ctl.pendingWrite 3
  · refine ⟨_, ends.trans ?_, (State.raise_beside (s.restartDeferred.regionUnknown none) .storeFail 4).store⟩
    rw [erase]; exact failed none 4

/-- Settles O48: LOAD entry at once, or at the end of the operation in flight. -/
theorem restartEntersLoadOrIsDeferred : Obligations.RestartEntersLoadOrIsDeferred := by
  intro s source destination rest delivered accepted inLoad kept
  have applied : exec (.restart source destination rest) s = .next s.askRestart :=
    congrArg Host.Outcome.next (State.deliverDirective_of_accepted (payload := 1#8 :: rest) delivered accepted)
  have loads (w : State) : inLoad w.restartNow := by
    obtain ⟨-, ctl, -⟩ := w.restartNow_spec
    obtain ⟨port, -, -, paEnable, -⟩ := w.restartNow_load
    exact ⟨ctl, paEnable, port⟩
  have keeps : kept s.restartNow := fun noise clash credit release => State.restartNow_keeps ⟨noise, clash, credit, release⟩
  have keepsCompleted (since : Ms) (byte : Byte) (region : RegionStatus) : kept (s.completed since byte region).restartNow :=
    fun noise clash credit release => by
      obtain ⟨table, snapshot, count, overflow, view, scanner, stuck, marks, outputs⟩ :=
        State.restartNow_keeps (s := s.completed since byte region) ⟨noise, clash, credit, release⟩
      exact ⟨table, snapshot, count, overflow, view, scanner, stuck, marks, fun follow => outputs (follow.of_same rfl rfl rfl rfl)⟩
  refine ⟨fun busy => ?_, fun idle => ?_, fun op flight u taken => ?_⟩
  · obtain ⟨op, flight⟩ := Option.ne_none_iff_exists'.mp busy
    exact ⟨_, applied, State.askRestart_of_flight flight⟩
  · obtain ⟨step, ctl, composer, -⟩ := s.restartNow_spec
    obtain ⟨port, slots, beff, paEnable, indicator, spread, handler, store, view⟩ := s.restartNow_load
    rw [State.askRestart_of_idle idle] at applied
    exact ⟨_, applied, ctl, port, slots, beff, paEnable, indicator, spread, composer, handler, store, view, keeps⟩
  · obtain rfl : u = s.restartDeferred := by
      rw [applied, State.askRestart_of_flight flight] at taken
      exact (Host.Outcome.next.inj taken).symm
    have byte (wf : s.store.wf) (since : Ms) (b : Byte) (region : RegionStatus) : (s.completed since b region).restartNow.store.read 128 = b := by
      rw [State.restartNow_store]
      exact (Memory.read_writeByte wf 128 b 128).trans (if_pos rfl)
    refine ⟨fun record write wf => ?_, fun marker erase wf alone => ?_, fun marker record erase waits => ?_,
      fun step record marker writes third ready => ?_⟩
    · exact ⟨_, congrArg Host.Outcome.next (State.cycleEnd_restarts_write flight write), loads _, byte wf _ _ _, keepsCompleted _ _ _⟩
    · exact ⟨_, congrArg Host.Outcome.next (State.cycleEnd_restarts_erase flight erase alone), loads _, byte wf _ _ _, keepsCompleted _ _ _⟩
    · exact ⟨_, congrArg Host.Outcome.next (State.cycleEnd_begins_pending flight erase waits), rfl, rfl, rfl, rfl⟩
    · obtain ⟨w, ends, store⟩ := State.transferFails_restarts flight third ready writes
      exact ⟨_, congrArg Host.Outcome.next ends, loads w, w.restartNow_store.trans store⟩

end Sys2Proof.Machine
end
